-- ==== Sys2Proof/Word.lean ====
section
/-! DEFINITION. Word.lean: the word types of the block. -/

namespace Sys2Proof

/-- One byte of a message, a buffer or the flash (R6). -/
abbrev Byte := BitVec 8

/-- A host-window register (R6). -/
abbrev W32 := BitVec 32

/-- The debug access register's data word (R690). -/
abbrev W64 := BitVec 64

end Sys2Proof
end

