-- ==== Sys2Proof/Syntax.lean ====
section
/-! DEFINITION. Syntax.lean: the commands of the block. -/

namespace Sys2Proof

/-- The transports of R148. -/
inductive Transport where
  | uart0
  | uart1
  | m0
  | pcie
  | spi
deriving DecidableEq, Repr

/-- The two paths to the host window (R214). -/
inductive HostPath where
  | pcie
  | spi
deriving DecidableEq, Repr

/-- The access widths of R220. -/
inductive Width where
  | w8
  | w16
  | w32
deriving DecidableEq, Repr

/-- A KMP request message that has passed framing and its tag check (R152, R167 steps 1 and 2).
`t` is the instant in ns of the module's elapsed clock, `addr` and `port` the UDP source (R151), `auth` the AUTH flag,
`payload` the payload bytes, and `remote` says that the transport lies on the Span partner (R546). -/
structure Req where
  t : Nat
  transport : Transport
  addr : Nat
  port : Nat
  session : Nat
  requestId : Nat
  seq : Nat
  ack : Nat
  auth : Bool
  payload : List Byte
  remote : Bool
deriving DecidableEq, Repr

/-- A packet as its head cell describes it (R470): the rewritten frame from its type on, without FCS, the addresses and
tag it leaves under, the length it came with, the class, colour and queue, and its target ports: bits 0 to 127 the local
ones, bits 128 to 255 those of the Span partner, bit 256 a flood that the partner completes (R552). -/
structure Packet where
  dmac : Nat
  smac : Nat
  tpid : Nat
  vlan : Nat
  untagged : Nat
  pcpDei : Nat
  body : List Byte
  len : Nat
  inPort : Nat
  cls : Nat
  colour : Nat
  queue : Nat
  ports : Nat
deriving DecidableEq, Repr

/-- A CLAIM of the Span election (R542). -/
structure Claim where
  round : Nat
  priority : Nat
  serial : Nat
  member : Nat
  spanId : Nat
deriving DecidableEq, Repr

/-- What one Span member sends the other about the mailbox, learning and commits (R546 to R548, R554, R556). -/
inductive Relay where
  /-- A message from a transport of the follower, past step 1 of R167, for the leader. -/
  | request (tr : Transport) (addr port : Nat) (raw : List Byte)
  /-- A response or event of the leader to leave by a transport of the follower. -/
  | outbound (tr : Transport) (addr port : Nat) (raw : List Byte)
  /-- A command of a session whose TARGET is the follower, for it to execute. -/
  | run (code : Nat) (q : Req)
  /-- The follower's answer to such a command. -/
  | ran (code : Nat) (q : Req) (status : Nat) (resp : List Byte)
  /-- An event raised on the follower: code, then payload with its time base. -/
  | event (code : Nat) (payload : List Byte)
  /-- A learn result of the follower: key, start of its window, ports with stamps. -/
  | learned (mac vlan start : Nat) (notes : List (Nat × Nat))
  /-- LAST_SEEN values the follower has refreshed: VLAN, MAC address, stamp. -/
  | lastSeen (entries : List (Nat × Nat × Nat))
  /-- The stage of an accepted commit: stage, request, epoch in ns of the time base, items. -/
  | stage (id requestId epoch : Nat) (items : List (Nat × List Byte))
  /-- The follower's record is complete, or its build has failed. -/
  | stageDone (good : Bool)
deriving DecidableEq, Repr

/-- How a target answers an I2C access (R312): with data, with no acknowledge to the multiplexer's or its own address
byte, or by holding SCL low. -/
inductive I2cAns where
  | ok (data : List Byte)
  | noackMux
  | noackDev
  | hang
deriving DecidableEq, Repr

/-- How the trie reads of a routed frame end (R435, R436, R442): done; the pipeline's queue is full; or a line read
uncorrectable, with its channel, line and beats in error. -/
inductive TrieRead where
  | ok
  | full
  | bad (c : Fin 4) (line : BitVec 26) (beats : BitVec 16)
deriving DecidableEq, Repr

/-- The locked sequences of R692. -/
inductive LockedSeq where
  | epochCommit
  | dramMode (c : Fin 4)
  | keyLoad
deriving DecidableEq, Repr

/-- The commands of the block, one constructor for each row of the table.
A KMP row carries the request message; every other row carries the instant `t` at which it happens, in ns of the module's own elapsed clock.
(DESIGN CHOICE: log entries 2, 16) -/
inductive Instr where
  /-- SESSION_OPEN (R155). Opens a read-only or controlling session, assigns its number and salt, and returns the module nonce and boot count. -/
  | sessionOpen (q : Req)
  /-- SESSION_CLOSE (R160). Ends the sending session once its response has been sent. -/
  | sessionClose (q : Req)
  /-- SESSION_STATUS (R196). Reports boot count, last request ID, H, event pointers, mode and commit state, built when the request executes. -/
  | sessionStatus (q : Req)
  /-- IDENTITY_GET (R197). Returns the serial, ordering code, revision, active and supported baselines, firmware version and boot count. -/
  | identityGet (q : Req)
  /-- EVENT_ACK (R184). Acknowledges events through the header ACK field when there is no other request to send. -/
  | eventAck (q : Req)
  /-- EVENT_FETCH (R199). Returns held events from FIRST_SEQ onwards, ignoring the filter, and reports events no longer held. -/
  | eventFetch (q : Req)
  /-- EVENT_CONFIG_SET (R181). Sets EVENT_MASK, EVENT_WINDOW and RETRY_MS of the sending session. -/
  | eventConfigSet (q : Req)
  /-- TRANSPORT_CONFIG_SET (R200). Sets UART baud rates, the UDP port, AUTH_REQUIRED and RX_GAP_MS, applied as a whole after the response. -/
  | transportConfigSet (q : Req)
  /-- TRANSPORT_CONFIG_GET (R197). Returns the transport settings. -/
  | transportConfigGet (q : Req)
  /-- TIME_GET (R97). Returns the time base, quality, source, offsets, trim and step history. -/
  | timeGet (q : Req)
  /-- TIME_SET (R98). Steps the time base to a given time and sets quality FREE, refused while locked unless FORCE is set. -/
  | timeSet (q : Req)
  /-- TIME_SOURCE_SET (R99). Sets the ordered discipline sources, PTP port and domain, step, slew, holdover and PPS output settings. -/
  | timeSourceSet (q : Req)
  /-- RTC_ALARM_SET (R101). Sets or disables the RTC alarm and its period. -/
  | rtcAlarmSet (q : Req)
  /-- TIMER_CLAIM (R92). Claims and arms a general timer for KMP, or refuses it when the timer is held or none is free. -/
  | timerClaim (q : Req)
  /-- TIMER_RELEASE (R102). Releases a KMP-held general timer. -/
  | timerRelease (q : Req)
  /-- TIMER_STATUS_GET (R97). Returns owner, armed state, next compare and period of all eight general timers. -/
  | timerStatusGet (q : Req)
  /-- BOOT_STATUS_GET (R133). Returns boot count, cause, booted bank, trial state, bank versions and configuration in use. -/
  | bootStatusGet (q : Req)
  /-- BANK_ERASE (R134). Erases a whole firmware bank that is not the booted bank. -/
  | bankErase (q : Req) (verifies : Bool)
  /-- BANK_WRITE (R135). Programs data into a bank, succeeding without programming where the bytes already match. -/
  | bankWrite (q : Req) (verifies : Bool)
  /-- BANK_SEAL (R136). Checks a bank and its TRANSFER_TAG, then programs WATCH_TAG and CONTROL_TAG and clears its BAD flag. -/
  | bankSeal (q : Req) (verifies : Bool)
  /-- BANK_SELECT (R137). Writes a directory choosing the bank for the next boot, optionally as a trial. -/
  | bankSelect (q : Req) (verifies : Bool)
  /-- BANK_CONFIRM (R124). Clears TRIAL when the booted bank is on trial. -/
  | bankConfirm (q : Req) (verifies : Bool)
  /-- RESTART (R138). Restarts the module through Keystone when EXPECT_BOOT_COUNT matches, after sending the response. -/
  | restart (q : Req)
  /-- STAGE_OPEN (R186). Declares a stage of 1 to 32 items against a base record. -/
  | stageOpen (q : Req)
  /-- STAGE_WRITE (R187). Writes a chunk of a stage item at its next unwritten offset. -/
  | stageWrite (q : Req)
  /-- STAGE_VERIFY (R189). Reports whether every item is verified and passes its owning chapter's checks. -/
  | stageVerify (q : Req)
  /-- STAGE_COMMIT (R190). Accepts a verified stage and starts building a new configuration record for an epoch. -/
  | stageCommit (q : Req)
  /-- COMMIT_CANCEL (R194). Cancels a pending commit before its epoch by zeroing its record's MAGIC. -/
  | commitCancel (q : Req)
  /-- STAGE_CANCEL (R204). Discards the open stage unless a commit is building. -/
  | stageCancel (q : Req)
  /-- BASELINE_GET (R747). Returns the active, supported and directory baselines and the baselines of each bank. -/
  | baselineGet (q : Req)
  /-- BASELINE_SET (R748). Writes a directory with a new baseline that becomes active at the next Keystone run. -/
  | baselineSet (q : Req) (verifies : Bool)
  /-- RECORD_ERASE (R749). Erases a configuration slot when no configuration or stage is in use. -/
  | recordErase (q : Req) (verifies : Bool)
  /-- RECORD_WRITE (R749). Programs data into a configuration slot when no configuration or stage is in use. -/
  | recordWrite (q : Req) (verifies : Bool)
  /-- SITE_LABEL_SET (R742). Sets the 64-byte site label, under baseline 2 only. -/
  | siteLabelSet (q : Req)
  /-- SITE_LABEL_GET (R742). Returns the site label, under baseline 2 only. -/
  | siteLabelGet (q : Req)
  /-- MODE_GET (R52). Returns the mode, target, last cause, flags, VIN, VHOLD and shed count. -/
  | modeGet (q : Req)
  /-- MODE_SET (R53). Sets TARGET_MODE and starts a transition, subject to VIN, strike window, Freeze and wake checks. -/
  | modeSet (q : Req)
  /-- MODE_CONFIG_SET (R59). Sets thresholds, RIDE_MS, DWELL_S, flags and the keep port set, applied as a whole. -/
  | modeConfigSet (q : Req)
  /-- MODE_CONFIG_GET (R52). Returns the mode configuration. -/
  | modeConfigGet (q : Req)
  /-- WAKE_CONFIG_SET (R62). Enables wake sources and sets the WAKE polarity and field-input edge masks. -/
  | wakeConfigSet (q : Req)
  /-- STRIKE_CONFIG_SET (R63). Sets the surge level, slew, hold time and sources of strike windows. -/
  | strikeConfigSet (q : Req)
  /-- STRIKE_STATUS_GET (R52). Reports the open or last strike window. -/
  | strikeStatusGet (q : Req)
  /-- LANE_CONFIG_SET (R283). Sets a lane's inversion, equaliser, impairment detector settings, applied as a whole. -/
  | laneConfigSet (q : Req)
  /-- LANE_CONFIG_GET (R282). Returns a lane's electrical settings. -/
  | laneConfigGet (q : Req)
  /-- LANE_STATUS_GET (R282). Returns a lane's owner, rate, half states, flags, alignment and equaliser values. -/
  | laneStatusGet (q : Req)
  /-- LANE_SLEEP_SET (R284). Sets the transmit and receive halves of a lane to OFF, SLEEP or ACTIVE. -/
  | laneSleepSet (q : Req)
  /-- LANE_TEST_SET (R285). Starts or stops a PRBS or loopback test on a lane. -/
  | laneTestSet (q : Req)
  /-- LANE_PRBS_GET (R282). Returns a lane's PRBS checker counters from one snapshot. -/
  | lanePrbsGet (q : Req) (errs : Nat) (struck : Nat)
  /-- LANE_EYE_START (R286). Starts an eye scan on a locked receive half. -/
  | laneEyeStart (q : Req)
  /-- LANE_EYE_GET (R282). Returns the last eye scan of a lane. -/
  | laneEyeGet (q : Req)
  /-- PORT_FORM (R317). Forms, re-forms or unforms an Ethernet port on its lanes. -/
  | portForm (q : Req)
  /-- PORT_STATUS_GET (R316). Returns a port's type, FEC, link state, down cause and optics flags. -/
  | portStatusGet (q : Req)
  /-- M0_CONFIG_SET (R319). Sets M0 addresses, prefixes, VLAN and gateways, applied after the response. -/
  | m0ConfigSet (q : Req)
  /-- M0_CONFIG_GET (R316). Returns M0 settings and the fused MAC address. -/
  | m0ConfigGet (q : Req)
  /-- OPTICS_MAP_SET (R320). Sets the I2C master, multiplexer and channel of a port's cage. -/
  | opticsMapSet (q : Req)
  /-- OPTICS_READ (R321). Reads bytes from an optic over I2C. -/
  | opticsRead (q : Req) (ans : I2cAns)
  /-- OPTICS_WRITE (R322). Writes bytes to an optic over I2C, except bytes the module manages. -/
  | opticsWrite (q : Req) (ans : I2cAns)
  /-- CW_LINK_SET (R359). Forms, changes or releases a Causeway link on a lane. -/
  | cwLinkSet (q : Req)
  /-- CW_LINK_STATUS_GET (R358). Returns a Causeway link's state, incarnations, sequences and hold state. -/
  | cwLinkStatusGet (q : Req)
  /-- CW_COUNTERS_GET (R358). Returns a Causeway link's counters from one snapshot. -/
  | cwCountersGet (q : Req)
  /-- CW_FLUSH (R360). Flushes a Causeway link in UP or HOLD and restarts it. -/
  | cwFlush (q : Req)
  /-- FWD_CONFIG_SET (R457). Sets table protection, PUNT_TTL, LABEL_BASE, aging, ECMP seed and router MACs. -/
  | fwdConfigSet (q : Req)
  /-- FWD_CONFIG_GET (R456). Returns the forwarding settings. -/
  | fwdConfigGet (q : Req)
  /-- VLAN_SET (R458). Sets a VLAN entry's flags, members and untagged set. -/
  | vlanSet (q : Req)
  /-- PORT_LEARN_SET (R456). Sets a port's learning, flush-on-down and learn limit. -/
  | portLearnSet (q : Req)
  /-- BRIDGE_ENTRY_SET (R459). Adds, replaces or deletes a live bridge entry. -/
  | bridgeEntrySet (q : Req)
  /-- BRIDGE_FLUSH (R449). Removes matching dynamic bridge entries and returns the count. -/
  | bridgeFlush (q : Req)
  /-- TABLE_LOOKUP (R456). Looks up a key in a forwarding table and returns the entry from one snapshot. -/
  | tableLookup (q : Req)
  /-- TABLE_STATUS_GET (R456). Returns table usage, protection, learning and drop counters from one snapshot. -/
  | tableStatusGet (q : Req)
  /-- PARSE_CONFIG_SET (R412). Sets the extra TPID, SCADA ports and range checkers. -/
  | parseConfigSet (q : Req)
  /-- PARSE_CONFIG_GET (R410). Returns the parser settings. -/
  | parseConfigGet (q : Req)
  /-- PORT_CLASS_SET (R411). Sets a port's rule list, defaults, fragment mode, slow-path destination, PCP map and meter map. -/
  | portClassSet (q : Req)
  /-- PORT_CLASS_GET (R410). Returns a port's classification settings. -/
  | portClassGet (q : Req)
  /-- SEARCH_BANK_SET (R413). Sets a search bank's profile, list and rank. -/
  | searchBankSet (q : Req)
  /-- SEARCH_WRITE (R391). Replaces or invalidates one search entry atomically. -/
  | searchWrite (q : Req)
  /-- SEARCH_INSERT (R392). Inserts a search entry at an index by a block move towards the first invalid entry. -/
  | searchInsert (q : Req)
  /-- SEARCH_READ (R410). Returns one search entry and its hit count from one snapshot. -/
  | searchRead (q : Req)
  /-- METER_SET (R415). Sets a meter's algorithm, flags, rates and burst sizes. -/
  | meterSet (q : Req)
  /-- METER_GET (R410). Returns a meter's settings and colour counters from one snapshot. -/
  | meterGet (q : Req)
  /-- PUNT_CONFIG_SET (R416). Sets the punt class rates and bursts and FRAG_HOLD_MS. -/
  | puntConfigSet (q : Req)
  /-- FRAG_STATUS_GET (R410). Returns fragment-follow and punt counters from one snapshot. -/
  | fragStatusGet (q : Req)
  /-- DECK_QUEUE_SET (R493). Sets ALPHA_K and RED_LIMIT of one or all queues of a port. -/
  | deckQueueSet (q : Req)
  /-- DECK_QUEUE_GET (R492). Returns a queue's admission settings, length and counters from one snapshot. -/
  | deckQueueGet (q : Req)
  /-- DECK_STATUS_GET (R492). Returns a Deck's free resources, minima, resequencer state and counters, optionally restarting the minima. -/
  | deckStatusGet (q : Req)
  /-- TRUSS_STATUS_GET (R492). Returns launch queue use, launch drops and plane cell error counters from one snapshot. -/
  | trussStatusGet (q : Req)
  /-- EGRESS_CONFIG_SET (R503). Sets PROTECTED_CLASSES and SAMPLE_US. -/
  | egressConfigSet (q : Req)
  /-- EGRESS_CONFIG_GET (R522). Returns the egress settings. -/
  | egressConfigGet (q : Req)
  /-- SCHED_SET (R523). Sets a port's shaper and its queues' modes, weights, shapers and delay alarms. -/
  | schedSet (q : Req)
  /-- SCHED_GET (R522). Returns a port's scheduler settings. -/
  | schedGet (q : Req)
  /-- GATE_LIST_SET (R524). Sets, cancels or schedules removal of a port's pending gate list. -/
  | gateListSet (q : Req)
  /-- GATE_LIST_GET (R522). Returns a port's gate list in force or pending. -/
  | gateListGet (q : Req)
  /-- QUEUE_STATUS_GET (R522). Returns a queue's state, depth, high-water marks, counters and samples, optionally clearing the marks. -/
  | queueStatusGet (q : Req)
  /-- SPAN_CONFIG_SET (R567). Sets MEMBER, PRIORITY, AUTO_JOIN, MIN_LANES, SPAN_ID, LANE_MASK, LOSS_MS and RESEQ_US. -/
  | spanConfigSet (q : Req)
  /-- SPAN_CONFIG_GET (R566). Returns the Span settings. -/
  | spanConfigGet (q : Req)
  /-- SPAN_JOIN (R541). Starts probing for a Span join from Full. -/
  | spanJoin (q : Req)
  /-- SPAN_LEAVE (R541). Leaves any join state, releasing the joint lanes on both members. -/
  | spanLeave (q : Req)
  /-- SPAN_STATUS_GET (R566). Returns join state, role, lanes, partner, time offset and Span counters. -/
  | spanStatusGet (q : Req)
  /-- SPAN_TARGET_SET (R547). Sets the member that the session's commands act on. -/
  | spanTargetSet (q : Req)
  /-- DRAM_STATUS_GET (R599). Returns each channel's state, temperatures and error counters from one snapshot. -/
  | dramStatusGet (q : Req)
  /-- DRAM_TRAIN_GET (R599). Returns a channel's last training or retrain result per byte lane. -/
  | dramTrainGet (q : Req)
  /-- DRAM_POLICY_SET (R600). Sets data and command policies per region and RETRAIN_WAIT_S. -/
  | dramPolicySet (q : Req)
  /-- DRAM_POLICY_GET (R599). Returns the DRAM policies. -/
  | dramPolicyGet (q : Req)
  /-- DRAM_RETRAIN (R599). Makes a retrain of a channel due at once, optionally forced. -/
  | dramRetrain (q : Req)
  /-- DRAM_ERROR_LOG_GET (R599). Returns held DRAM error log entries from FIRST_SEQ onwards. -/
  | dramErrorLogGet (q : Req)
  /-- DRAM_READ (R601). Reads DRAM lines with their ECC status and raw check bytes. -/
  | dramRead (q : Req)
  /-- KEY_STATUS_GET (R627). Returns the state, usage, generation and KEY_ID of all key slots. -/
  | keyStatusGet (q : Req)
  /-- KEY_LOAD (R628). Unwraps and loads a key into slots 1 to 15 as a locked sequence. -/
  | keyLoad (q : Req) (broken : Bool)
  /-- KEY_CLEAR (R628). Empties a key slot and sets its generation. -/
  | keyClear (q : Req)
  /-- DIGEST_RUN (R629). Digests data in the request and returns a digest or a compare verdict. -/
  | digestRun (q : Req)
  /-- FIO_CONFIG_SET (R663). Sets a field pin's mode, flags, thresholds and debounce. -/
  | fioConfigSet (q : Req)
  /-- FIO_STATUS_GET (R662). Returns every field pin's configuration, level, state and counters from one snapshot. -/
  | fioStatusGet (q : Req)
  /-- FIO_OUTPUT_SET (R664). Sets the commanded state of masked field outputs. -/
  | fioOutputSet (q : Req)
  /-- FIO_PULSE (R665). Schedules a field output pulse holding a general timer. -/
  | fioPulse (q : Req)
  /-- FIO_CLEAR (R644). Clears OVERCURRENT and sticky CONFLICT and turns on latched outputs commanded on. -/
  | fioClear (q : Req)
  /-- GPIO_CONFIG_SET (R666). Sets a GPIO pin's function, mode, pull and initial level. -/
  | gpioConfigSet (q : Req)
  /-- GPIO_WRITE (R649). Writes the GPIO data register by an atomic masked update. -/
  | gpioWrite (q : Req)
  /-- GPIO_READ (R650). Returns DATA, DIR, PAD, IN and ALT of the GPIO pins. -/
  | gpioRead (q : Req) (ext : BitVec 32)
  /-- ADC_CONFIG_SET (R667). Sets each ADC channel's mode, thermistor constants and limits. -/
  | adcConfigSet (q : Req)
  /-- ADC_READ (R662). Returns the latest sample of every ADC channel. -/
  | adcRead (q : Req)
  /-- ADC_CAPTURE_SET (R668). Starts, replaces or stops a periodic ADC capture on a general timer. -/
  | adcCaptureSet (q : Req)
  /-- COUNTERS_GET (R718). Returns a counter set for a port, transport or the datapath event counters from one snapshot. -/
  | countersGet (q : Req)
  /-- EVENT_COUNTER_SET (R721). Sets a datapath event counter's event and scope and restarts it. -/
  | eventCounterSet (q : Req)
  /-- SNAPSHOT_TAKE (R719). Takes a stored snapshot of counter sets 1 to 3 into the counter store. -/
  | snapshotTake (q : Req)
  /-- SNAPSHOT_READ (R731). Returns a counter set from a stored snapshot. -/
  | snapshotRead (q : Req)
  /-- SNAPSHOT_SCHEDULE_SET (R720). Starts, replaces or stops the periodic snapshot schedule on a general timer. -/
  | snapshotScheduleSet (q : Req)
  /-- BW_CONFIG_SET (R722). Sets the bandwidth window length, discarding the window in progress. -/
  | bwConfigSet (q : Req)
  /-- BW_GET (R722). Returns a port's last and peak bandwidth windows, optionally clearing the peaks. -/
  | bwGet (q : Req)
  /-- MONITOR_SET (R724). Sets a health monitor's source, direction, window and limits and restarts it. -/
  | monitorSet (q : Req)
  /-- MONITOR_GET (R731). Returns the state and counts of all health monitors. -/
  | monitorGet (q : Req)
  /-- LOG_READ (R732). Returns entries of the retention log or records of the log archive. -/
  | logRead (q : Req)
  /-- STRIKE_TALLY_GET (R727). Returns the tagged error tallies of the most recent strike windows. -/
  | strikeTallyGet (q : Req)
  /-- CORE_STATUS_GET (R703). Returns core states, debug and capture status and their counts. -/
  | coreStatusGet (q : Req)
  /-- PERF_CONFIG_SET (R704). Sets a core performance counter's event, task mask and mode and restarts it. -/
  | perfConfigSet (q : Req)
  /-- PERF_READ (R698). Returns a core's performance counters and KMP_REQUESTS from one snapshot. -/
  | perfRead (q : Req) (counts : List Nat)
  /-- PERF_SAMPLE_GET (R699). Returns held performance samples from FIRST_SEQ onwards. -/
  | perfSampleGet (q : Req)
  /-- DEBUG_ACCESS_SET (R705). Opens or closes debug access for a duration from a slot-0 controlling session. -/
  | debugAccessSet (q : Req)
  /-- DEBUG_FREEZE (R703). Enters Freeze with LAST_CAUSE 6. -/
  | debugFreeze (q : Req)
  /-- CAPTURE_SET (R706). Starts or stops frame capture of one port and direction. -/
  | captureSet (q : Req)
  /-- CAPTURE_READ (R706). Returns a capture record header and its kept bytes. -/
  | captureRead (q : Req)
  /-- HOST_WINDOW_WRITE (R221). A host write to a window register without behaviour of its own, performed or discarded and logged by width, alignment and mapping. -/
  | hostWindowWrite (t : Nat) (path : HostPath) (off : BitVec 16) (w : Width) (uneven : Bool) (data : BitVec 32)
  /-- UNMAPPED_READ (R219). A read of an unmapped offset returns 0 and is logged with KIND 3. -/
  | unmappedRead (t : Nat) (path : HostPath) (off : BitVec 16) (w : Width)
  /-- UNALIGNED_READ (R223). An unaligned read returns 0xFF bytes and is logged with KIND 2. -/
  | unalignedRead (t : Nat) (path : HostPath) (off : BitVec 16) (w : Width) (uneven : Bool)
  /-- MALFORMED_SPI_TRANSACTION (R216). An SPI transaction with a bad command byte or a chip-select rise mid-word is discarded and logged with KIND 6. -/
  | malformedSpiTransaction (t : Nat) (cmd : BitVec 8) (off : BitVec 16) (cut : Bool)
  /-- SUPPLY_STATUS (R66). A base read of SUPPLY_STATUS returns VIN_MIN_MV and reloads it with the present VIN. -/
  | supplyStatus (t : Nat) (path : HostPath) (byte : Fin 4) (w : Width) (peek : Bool)
  /-- ACCESS_ERR (R225). A base read of ACCESS_ERR returns the logged access and clears the register. -/
  | accessErr (t : Nat) (path : HostPath) (byte : Fin 4) (w : Width) (peek : Bool)
  /-- TIME_LATCH (R238). A base read of TIME_LATCH takes a time snapshot and returns its nanoseconds. -/
  | timeLatch (t : Nat) (path : HostPath) (byte : Fin 4) (w : Width) (peek : Bool)
  /-- TAKE (R238). A write of TAKE takes a time snapshot. -/
  | takeSnapshot (t : Nat) (path : HostPath) (byte : Fin 4) (w : Width) (peek : Bool) (data : BitVec 32)
  /-- ARM_PPS (R238). A write of ARM_PPS arms a time snapshot at the next 1PPS in edge. -/
  | armPps (t : Nat) (path : HostPath) (byte : Fin 4) (w : Width) (peek : Bool) (data : BitVec 32)
  /-- INT_CAUSE (R226). A write of 1 clears cause bits and may send another MSI when INT_PENDING stays non-zero. -/
  | intCause (t : Nat) (path : HostPath) (byte : Fin 4) (w : Width) (peek : Bool) (data : BitVec 32)
  /-- INT_MASK (R226). A write sets the interrupt mask and may change INT_PENDING and interrupt delivery. -/
  | intMask (t : Nat) (path : HostPath) (byte : Fin 4) (w : Width) (peek : Bool) (data : BitVec 32)
  /-- FENCE (R239). A read of FENCE is answered once earlier host writes of the same path are visible to the control core. -/
  | fence (t : Nat) (path : HostPath) (byte : Fin 4) (w : Width) (peek : Bool)
  /-- QUIESCE_REQ (R249). Setting QUIESCE_REQ stops request fetching, and QUIESCED follows once the executing request is answered. -/
  | quiesceReq (t : Nat) (path : HostPath) (byte : Fin 4) (w : Width) (peek : Bool) (data : BitVec 32)
  /-- ENABLE (R233). A write of RING_CTRL ENABLE starts serving the rings and makes the writing path the ring owner, or faults. -/
  | ringEnable (t : Nat) (path : HostPath) (byte : Fin 4) (w : Width) (peek : Bool) (data : BitVec 32)
  /-- RESET (R237). A write of RING_CTRL RESET disables the rings, zeroes the indices and abandons unfetched requests and unwritten responses. -/
  | ringReset (t : Nat) (path : HostPath) (byte : Fin 4) (w : Width) (peek : Bool) (data : BitVec 32)
  /-- REQ_TAIL (R229). A write of the request doorbell makes new request entries available, or faults with cause 3. -/
  | reqTail (t : Nat) (path : HostPath) (byte : Fin 4) (w : Width) (peek : Bool) (data : BitVec 32)
  /-- RSP_HEAD (R231). A write of the response doorbell frees response ring entries, or faults with cause 3. -/
  | rspHead (t : Nat) (path : HostPath) (byte : Fin 4) (w : Width) (peek : Bool) (data : BitVec 32)
  /-- REQUEST_ENTRY_FETCH (R229). The module fetches the request entry at REQ_HEAD, advances REQ_HEAD and passes the message to the request checks. -/
  | requestEntryFetch (t : Nat) (entry : List Byte)
  /-- RESPONSE_ENTRY_WRITE (R231). The module writes a response or event entry once the response ring has room, then advances RSP_TAIL and sets RSP_READY. -/
  | responseEntryWrite (t : Nat)
  /-- RING_DMA_FAULT (R236). A ring DMA ends in error or has no completion within 50 ms, raising a ring fault with cause 2. -/
  | ringDmaFault (t : Nat)
  /-- PERST_N (R242). Assertion of PERST_N resets INT_MASK, HOST_FLAG and MSI state and resets the rings if PCIe owns them. -/
  | perstN (t : Nat) (asserted : Bool)
  /-- PCIE_LINK_DOWN (R242). The PCIe link goes down, with the effects of PERST_N and EV_HOST_LINK. -/
  | pcieLinkDown (t : Nat)
  /-- PCIE_LINK_UP (R242). The PCIe link finishes training and raises EV_HOST_LINK. -/
  | pcieLinkUp (t : Nat) (width : Nat) (rate : Nat) (msi : Fin 3) (busMaster : Bool)
  /-- UART_FRAME (R149). A complete KMP frame arrives on a UART and is unstuffed, checked and passed to the request checks. -/
  | uartFrame (t : Nat) (u : Fin 2) (raw : List Byte)
  /-- RX_GAP (R150). A gap longer than RX_GAP_MS inside a UART frame discards the frame. -/
  | rxGap (t : Nat) (u : Fin 2) (gapMs : Nat)
  /-- M0_FRAME (R308). A frame arrives on M0 and is answered, passed to KMP or PTP, or discarded and counted. -/
  | m0Frame (t : Nat) (raw : List Byte)
  /-- EVENT_SEND (R181). The module sends a held event to a session while its window has room. -/
  | eventSend (t : Nat) (session : Nat)
  /-- EVENT_RETRY (R182). With the acknowledgement point stalled for the retry wait, the oldest outstanding event is sent again and the wait doubles. -/
  | eventRetry (t : Nat) (session : Nat)
  /-- CACHE_EXPIRY (R173). A duplicate cache entry expires 600 s after its response was built. -/
  | cacheExpiry (t : Nat)
  /-- SESSION_IDLE (R160). A read-only session ends after 900 s without a request. -/
  | sessionIdle (t : Nat) (session : Nat)
  /-- EV_TRANSPORT_REVERTED (R201). A changed transport with no authenticated request within 60 s returns to its previous setting. -/
  | evTransportReverted (t : Nat) (tr : Transport)
  /-- COMMIT_ARMED (R191). A commit record build completes, the commit becomes pending and EV_COMMIT_ARMED is raised, or the build fails. -/
  | commitArmed (t : Nat) (good : Bool)
  /-- EPOCH_REACHED (R95). The time base reaches a scheduled epoch and its change takes effect. -/
  | epochReached (t : Nat) (tagsGood : Bool)
  /-- ABUTMENT_START (R75). VIN rises above 4.5 V; the Abutment starts warm or cold, samples straps and enters Shelf. -/
  | abutmentStart (t : Nat) (mv : Nat) (bankA33 : Bool) (bankB33 : Bool) (prtad : Fin 4)
  /-- ABUTMENT_RESET (R43). VIN falls below 4.2 V and the Abutment logic resets. -/
  | abutmentReset (t : Nat) (mv : Nat)
  /-- RETENTION_LOST (R73). VIN falls below 2.8 V and the oscillator, RTC and retention SRAM lose their contents. -/
  | retentionLost (t : Nat) (mv : Nat)
  /-- VIN_REACHES_WATCH_ON (R42). VIN reaches ON(Watch) after power-on, a shed or a deferred wake, and the module enters Watch. -/
  | vinReachesWatchOn (t : Nat) (vin : Nat)
  /-- WAKE_PIN (R40). A WAKE level lasting 100 µs wakes the module from Shelf when enabled. -/
  | wakePin (t : Nat) (level : Bool) (mv : Nat)
  /-- FIELD_INPUT_EDGE_WAKE (R41). A stable enabled field-input edge wakes the module from Shelf. -/
  | fieldInputEdgeWake (t : Nat) (pin : Fin 8) (rising : Bool) (mv : Nat)
  /-- VIN_RESTORE (R41). VIN returning after a Shelf entry wakes the module when enabled or after a shed. -/
  | vinRestore (t : Nat) (vin : Nat)
  /-- RTC_ALARM (R91). The RTC reaches the alarm instant, waking from Shelf or raising EV_RTC_ALARM. -/
  | rtcAlarm (t : Nat)
  /-- VIN_BELOW_OFF (R33). VIN falls below the OFF threshold of the current mode and RIDE_MS starts. -/
  | vinBelowOff (t : Nat) (vin : Nat)
  /-- RIDE_THROUGH (R36). VIN returns to the OFF threshold before RIDE_MS, and the dip is reported without a mode change. -/
  | rideThrough (t : Nat) (vin : Nat) (lowVhold : Nat)
  /-- SHEDDING_STEP (R33). VIN is still below OFF at RIDE_MS and the module starts one shedding step. -/
  | sheddingStep (t : Nat) (vin : Nat) (vhold : Nat)
  /-- HOLD_FLOOR_CROSSING (R68). VHOLD falls below the hold floor and the module sheds at once, raising EV_HOLD_LOW. -/
  | holdFloorCrossing (t : Nat) (vhold : Nat)
  /-- TRANSITION_COMPLETE (R51). A mode transition completes, MODE shows the new mode and its events are raised. -/
  | transitionComplete (t : Nat)
  /-- CLIMB (R37). VIN has met an ON threshold for the dwell with HOLD_READY and no strike window, and the module starts a climb. -/
  | climb (t : Nat) (vin : Nat) (vhold : Nat)
  /-- CLIMB_ABANDONED (R39). VIN is still below OFF of the mode being entered at RIDE_MS, and the climb is abandoned. -/
  | climbAbandoned (t : Nat) (vin : Nat)
  /-- SURGE_TRIGGER (R45). VIN exceeds SURGE_MV for 1 µs and opens or extends a strike window. -/
  | surgeTrigger (t : Nat) (mv : Nat)
  /-- SLEW_TRIGGER (R45). VIN changes faster than SLEW_MV_PER_US and opens or extends a strike window. -/
  | slewTrigger (t : Nat) (mv : Nat)
  /-- EV_STRIKE_CLOSE (R47). A strike window reaches its end and closes, releasing deferred climbs and MODE_SET. -/
  | evStrikeClose (t : Nat)
  /-- INPUT_SWITCH_OPEN (R23). VIN exceeds 60 V and the input switch opens at once. -/
  | inputSwitchOpen (t : Nat) (vin : Nat)
  /-- OVERVOLTAGE_TIMEOUT (R23). VIN has stayed above 41 V for 400 ms and the input switch opens. -/
  | overvoltageTimeout (t : Nat) (vin : Nat)
  /-- INPUT_SWITCH_CLOSE (R23). VIN has stayed below 40 V for 1 ms and the input switch closes. -/
  | inputSwitchClose (t : Nat) (vin : Nat)
  /-- THERMAL_CUT (R772). The die exceeds 130 °C for 1 ms and the thermal cut opens the input switch. -/
  | thermalCut (t : Nat) (die : Int)
  /-- THERMAL_RELEASE (R772). The die has stayed below 110 °C for 10 s and the thermal cut releases. -/
  | thermalRelease (t : Nat) (die : Int)
  /-- VIO_FAULT (R756). A supply output stays in current limit for 10 ms and turns off. -/
  | vioFault (t : Nat) (n : Fin 3)
  /-- VIO_RETRY (R756). A turned-off supply output retries 1 s later. -/
  | vioRetry (t : Nat) (n : Fin 3) (holds : Bool)
  /-- REFERENCE_START_FAIL (R110). The 25 MHz reference fails to start within 8 ms and the module stays in Shelf. -/
  | referenceStartFail (t : Nat)
  /-- REFERENCE_RETRY (R110). After a reference failure the module retries the reference at 1 s intervals. -/
  | referenceRetry (t : Nat)
  /-- EV_CLOCK_FAIL (R111). A PLL fails to lock within its limit, abandoning a climb or taking down a lane group. -/
  | evClockFail (t : Nat) (n : Fin 13)
  /-- RTC_FAIL (R109). 1 ms without a 32.768 kHz edge sets RTC_FAIL and clears RTC_VALID. -/
  | rtcFail (t : Nat)
  /-- PPS_EDGE (R84). A 1PPS in rising edge marks a second boundary for discipline and snapshots. -/
  | ppsEdge (t : Nat)
  /-- PPS_LOSS (R87). No pulse arrives within 1.1 s and 1PPS loses lock. -/
  | ppsLoss (t : Nat)
  /-- SYNC_MESSAGE (R85). A PTP Sync gives an offset that is slewed or stepped, and updates lock quality. -/
  | syncMessage (t : Nat) (port : Nat) (domain : Nat) (intervalNs : Nat) (off : Int)
  /-- PTP_LOSS (R87). No usable Sync arrives for four Sync intervals and PTP loses lock. -/
  | ptpLoss (t : Nat)
  /-- HOLDOVER_EXPIRY (R86). HOLDOVER_S expires and time quality becomes FREE. -/
  | holdoverExpiry (t : Nat)
  /-- RTC_ALIGN (R88). At each whole second with good quality the RTC is realigned to the time base. -/
  | rtcAlign (t : Nat)
  /-- TIMER_FIRE (R93). A KMP-owned general timer reaches its compare instant, raises EV_TIMER_FIRE and advances if periodic. -/
  | timerFire (t : Nat) (g : Fin 8)
  /-- BANK_VERDICT (R119). Keystone finishes loading a bank's watch segment and accepts it or falls back to the other bank. -/
  | bankVerdict (t : Nat) (agoNs : Nat) (kat : Bool)
  /-- FLASH_NOT_ANSWERING (R132). The flash gives no SFDP answer on three reads and Keystone enters recovery with cause 1. -/
  | flashNotAnswering (t : Nat) (agoNs : Nat)
  /-- CONFIG_LOAD (R126). The watch firmware finishes loading the base section of a record and applies it or falls back. -/
  | configLoad (t : Nat) (good : Bool) (items : List (Nat × List Byte))
  /-- CONTROL_PRELOAD (R127). The control segment finishes loading and its CONTROL_TAG passes or the bank is marked BAD and restarted. -/
  | controlPreload (t : Nat)
  /-- AUTO_CONFIRM (R124). With AUTO_CONFIRM set, TRIAL is cleared after 900 s without a restart. -/
  | autoConfirm (t : Nat)
  /-- WATCHDOG (R131). A core watchdog expires and the module restarts through Keystone. -/
  | watchdog (t : Nat) (control : Bool)
  /-- DRAM_TRAINING (R592). A channel's training sweep completes and the channel passes or fails. -/
  | dramTraining (t : Nat) (c : Fin 4) (sweep : List (List (BitVec 128) × List (BitVec 128)))
  /-- SECTION_STREAMED (R145). A keep or full section finishes streaming and passes or causes a record fallback. -/
  | sectionStreamed (t : Nat) (full : Bool) (good : Bool) (items : List (Nat × List Byte))
  /-- SEARCH_LOADED (R397). Loading the banks of an armed search image completes. -/
  | searchLoaded (t : Nat)
  /-- EV_TABLE_LOADED (R454). Writing a stage's pending table entries and tries completes. -/
  | evTableLoaded (t : Nat)
  /-- CDR_LOCK (R258). A receive half completes acquisition and its CDR locks. -/
  | cdrLock (t : Nat) (l : Fin 144) (peak : Fin 16)
  /-- CDR_LOSS (R276). A receive half's CDR loses lock, ending alignment and any eye scan. -/
  | cdrLoss (t : Nat) (l : Fin 144) (signal : Bool)
  /-- ACQUISITION_RETRY (R295). A receive half that failed cold acquisition retries every 100 ms. -/
  | acquisitionRetry (t : Nat) (l : Fin 144)
  /-- WARM_WAKE_TIMEOUT (R264). A receive half woken from SLEEP has no lock within 100 µs and falls back to cold acquisition. -/
  | warmWakeTimeout (t : Nat) (l : Fin 144)
  /-- DFE_ADAPT (R259). Every 4,096 UI each DFE tap moves one step by sign-sign LMS. -/
  | dfeAdapt (t : Nat) (l : Fin 144) (up : BitVec 12)
  /-- DFE_RAIL (R261). A DFE tap stays at its limit for 1 ms and sets DFE_RAIL. -/
  | dfeRail (t : Nat) (l : Fin 144) (tap : Fin 12)
  /-- PRBS_LOCK (R266). The PRBS checker sees 256 error-free bits and locks. -/
  | prbsLock (t : Nat) (l : Fin 144) (inverted : Bool)
  /-- PRBS_LOCK_LOSS (R266). More than 512 errors in 4,096 bits make the checker lose lock and reseed. -/
  | prbsLockLoss (t : Nat) (l : Fin 144) (errs : Nat)
  /-- EV_LANE_EYE_DONE (R268). An eye scan completes and its result is stored. -/
  | evLaneEyeDone (t : Nat) (eyes : List (Nat × Nat))
  /-- CW_COMMA (R276). At an expected or found comma position, Causeway alignment advances, holds or loses lock. -/
  | cwComma (t : Nat) (l : Fin 144) (expected : Bool) (wrong : Fin 41) (stuffErrs : Nat)
  /-- COMMON_MODE_TRIGGER (R277). The common-mode detector triggers and feeds a strike window. -/
  | commonModeTrigger (t : Nat) (l : Fin 144)
  /-- BURST_TRIGGER (R278). A short signal-loss burst ends and the burst detector trigger is applied. -/
  | burstTrigger (t : Nat) (l : Fin 144) (lossNs : Nat)
  /-- QUARANTINE_EXIT (R281). A quarantined lane with no trigger for 60 s leaves quarantine. -/
  | quarantineExit (t : Nat) (l : Fin 144)
  /-- EV_LANE_FAULT (R294). A lane PLL does not lock within 2 ms and its half stays OFF. -/
  | evLaneFault (t : Nat) (l : Fin 144) (tx : Bool)
  /-- LINK_UP (R300). A port's link conditions have held for LINK_UP_MS and the link goes up. -/
  | linkUp (t : Nat) (p : Fin 128) (anDone : Bool) (fullDuplex : Bool)
  /-- LINK_DOWN (R300). A link condition has failed for LINK_DOWN_US and the link goes down. -/
  | linkDown (t : Nat) (p : Fin 128) (cause : Fin 10)
  /-- RX_FRAME (R303). A frame is received whole, checked by the MAC, stamped and taken through the ingress pipeline. -/
  | rxFrame (t : Nat) (p : Fin 128) (raw : List Byte) (damaged : Bool) (fecBad : Nat) (ageNs : Nat) (trie : TrieRead)
  /-- OPTICS_POLL (R313). Every 2 s each mapped cage is polled and presence changes are confirmed. -/
  | opticsPoll (t : Nat) (p : Fin 128) (ans : I2cAns)
  /-- OPTICS_STEP (R315). A step of optic bring-up completes or times out and the next step starts. -/
  | opticsStep (t : Nat) (p : Fin 128) (res : Fin 3)
  /-- I2C_TIMEOUT (R312). A target holds SCL low for over 25 ms and the access ends with E_I2C_TIMEOUT. -/
  | i2cTimeout (t : Nat) (m : Fin 4)
  /-- TRANSMISSION_START (R508). The port selects the next eligible frame and starts sending it, taking shaper tokens and updating WFQ tags. -/
  | transmissionStart (t : Nat) (p : Fin 128)
  /-- INIT (R351). A Causeway INIT unit arrives and the handshake completes fresh or resumed, or the link holds or flushes. -/
  | cwInit (t : Nat) (l : Fin 144) (data : List Byte)
  /-- INIT_SEND (R351). A link in INIT or HOLD sends an INIT unit at least every 1 µs. -/
  | cwInitSend (t : Nat) (l : Fin 144)
  /-- REPLAY_FRAME (R341). A trunk replay frame or joint DATA unit arrives and is accepted, discarded as duplicate or puts the receiver in REPLAY_WAIT. -/
  | replayFrame (t : Nat) (l : Fin 144) (raw : List Byte) (cws : List Nat) (hit : Bool) (trie : TrieRead)
  /-- ACK (R342). An acknowledgement arrives and frees kept units. -/
  | cwAck (t : Nat) (l : Fin 144) (seq : BitVec 16) (strike : Bool)
  /-- NAK (R343). A NAK arrives and the transmitter replays kept units from the named sequence. -/
  | cwNak (t : Nat) (l : Fin 144) (seq : BitVec 16)
  /-- REPLAY_MARK (R341). A REPLAY_MARK naming E arrives and the joint receiver leaves REPLAY_WAIT. -/
  | replayMark (t : Nat) (l : Fin 144) (seq : BitVec 16)
  /-- CREDIT (R349). A CREDIT unit arrives and updates a channel's FREED counts. -/
  | cwCredit (t : Nat) (l : Fin 144) (data : List Byte)
  /-- ACK_TIMER (R342). 0.5 µs after E advanced, a joint receiver sends an ACK unit. -/
  | ackTimer (t : Nat) (l : Fin 144)
  /-- NAK_REPEAT (R342). Every 2 µs in REPLAY_WAIT a joint receiver sends the NAK again. -/
  | nakRepeat (t : Nat) (l : Fin 144)
  /-- CREDIT_TIMER (R349). 1 µs after a FREED advance, the receiver sends a CREDIT unit. -/
  | creditTimer (t : Nat) (l : Fin 144)
  /-- REPLAY_TIMER (R344). The replay timer of the oldest unacknowledged unit expires and a replay starts. -/
  | replayTimer (t : Nat) (l : Fin 144)
  /-- PEER_STRIKE_TIMEOUT (R346). 10 ms without a header or ACK unit ends the partner's STRIKE signal. -/
  | peerStrikeTimeout (t : Nat) (l : Fin 144)
  /-- FEC_LOCK (R338). Two candidate superframe starts 85 blocks apart decode and the trunk declares FEC lock. -/
  | fecLock (t : Nat) (l : Fin 144)
  /-- LINE_LOSS (R357). Alignment or FEC lock has been lost for DOWN_US and the link enters HOLD. -/
  | lineLoss (t : Nat) (l : Fin 144)
  /-- GRACE_END (R354). The grace period ends without a resume and the link flushes. -/
  | graceEnd (t : Nat) (l : Fin 144)
  /-- METER_REFILL (R389). At each 1,024 ns instant every meter's buckets refill. -/
  | meterRefill (t : Nat)
  /-- PUNT_REFILL (R405). At each 1,024 ns instant every punt class bucket refills. -/
  | puntRefill (t : Nat)
  /-- FOLLOW_EXPIRY (R402). A follow entry expires 250 ms after installation. -/
  | followExpiry (t : Nat)
  /-- REINJECTED (R407). The control core finds a follow entry for a held fragment and re-injects it. -/
  | reinjected (t : Nat) (trie : TrieRead)
  /-- HOLD_EXPIRED (R407). A fragment held for FRAG_HOLD_MS is dropped. -/
  | holdExpired (t : Nat)
  /-- SEARCH_SCRUB (R409). The scrubber checks search entries and stops failed entries matching. -/
  | searchScrub (t : Nat) (bank : Fin 32) (entry : Fin 1024)
  /-- EV_SEARCH_ERROR (R409). The control core rewrites a failed search entry from its copy. -/
  | evSearchError (t : Nat) (bank : Fin 32) (entry : Fin 1024) (repaired : Bool)
  /-- LEARN_WINDOW_END (R444). A 1 ms learn window ends and its merged result is posted to the control core. -/
  | learnWindowEnd (t : Nat)
  /-- LEARN_RESULT (R446). The control core inserts, moves or refuses a bridge entry for a posted result. -/
  | learnResult (t : Nat)
  /-- AGING_SWEEP (R448). Once per second aged dynamic bridge entries are removed. -/
  | agingSweep (t : Nat)
  /-- TABLE_SCRUB (R439). The scrubber reads on-die table entries, correcting or marking them BAD. -/
  | tableScrub (t : Nat) (g : Fin 8) (index : Nat) (double : Bool)
  /-- TABLE_REPAIR (R442). A BAD entry is rewritten from the record in force. -/
  | tableRepair (t : Nat) (g : Fin 8) (index : Nat) (ok : Bool)
  /-- CELL_LAUNCH (R473). In a slot a pipeline sends a head cell to the connected middle plane. -/
  | cellLaunch (t : Nat) (k : Fin 8) (slot : Nat)
  /-- PLANE_TRANSFER (R474). In a slot a middle plane sends a waiting cell to the connected Deck. -/
  | planeTransfer (t : Nat) (m : Fin 8) (slot : Nat) (ecc : Fin 3)
  /-- CELL_ARRIVAL (R476). A cell reaches a Deck's resequencer and is released, held, skipped to or discarded. -/
  | cellArrival (t : Nat) (d : Fin 8)
  /-- RESEQ_TIMEOUT (R477). The oldest held cell reaches 2 µs and the resequencer skips to it. -/
  | reseqTimeout (t : Nat) (d : Fin 8) (k : Fin 8)
  /-- SHAPER_REFILL (R509). At each 1,024 ns instant shaper buckets refill and pending shaper changes take effect. -/
  | shaperRefill (t : Nat)
  /-- EV_GATE_TAKEOVER (R516). A pending gate list takes over at its instant. -/
  | evGateTakeover (t : Nat) (p : Fin 128)
  /-- SAMPLE_PERIOD_END (R519). A sampling period ends and every queue records its depth and largest sojourn. -/
  | samplePeriodEnd (t : Nat)
  /-- PROBE_TIMEOUT (R541). 2 s pass in PROBE without alignment and the module goes ALONE. -/
  | probeTimeout (t : Nat)
  /-- ALONE_PROBE (R541). Every 10 s in ALONE the receive halves wake for a 25 ms probe. -/
  | aloneProbe (t : Nat)
  /-- LINK_TIMEOUT (R541). 12 s pass in LINK without enough counted links and the module goes ALONE. -/
  | linkTimeout (t : Nat)
  /-- ELECTION_ROUND_TIMEOUT (R541). 100 ms pass in ELECT without a decision and the next round starts. -/
  | electionRoundTimeout (t : Nat)
  /-- CLAIM (R542). A member's CLAIM fence completes and it reads the partner's claim and decides. -/
  | spanClaim (t : Nat) (claim : Option Claim)
  /-- DECIDE (R543). A DECIDE arrives and an undecided member adopts the leader. -/
  | spanDecide (t : Nat) (round : BitVec 16) (serial : BitVec 64)
  /-- SYNC_COMPLETE (R555). The follower installs the mirrored state within ±20 ns and both members enter JOINED. -/
  | syncComplete (t : Nat) (offsetNs : Int) (items : List (Nat × List Byte))
  /-- HEARTBEAT (R563). Every 1 ms a joined member sends a VC0 heartbeat. -/
  | heartbeat (t : Nat) (heard : Bool)
  /-- EV_SPAN_SPLIT (R563). Link count or heartbeat loss persists for LOSS_MS, or the partner restarts or leaves, and the join splits. -/
  | evSpanSplit (t : Nat) (cause : Fin 6) (byLeave : Bool)
  /-- MIRROR_UPDATE (R551). The follower applies a mirrored change sent by the leader. -/
  | mirrorUpdate (t : Nat) (kind : Fin 5) (payload : List Byte)
  /-- RELAYED_MESSAGE (R546). A message relayed over VC0 arrives at the leader or follower and is checked or sent out. -/
  | relayedMessage (t : Nat) (r : Relay)
  /-- REMOTE_CELL (R560). A remote cell arrives over VC3 and is resequenced and launched locally. -/
  | remoteCell (t : Nat) (k : Fin 8) (d : Fin 8) (seq : BitVec 16) (sop : Bool) (eop : Bool) (pkt : Option Packet)
  /-- SPAN_RESEQ_TIMEOUT (R560). A remote resequencer's oldest held cell reaches RESEQ_US and it skips. -/
  | spanReseqTimeout (t : Nat) (k : Fin 8) (d : Fin 8)
  /-- REFRESH (R583). A channel's refresh interval elapses and a refresh is issued or postponed. -/
  | refresh (t : Nat) (c : Fin 4) (busy : Bool)
  /-- TEMP_READ (R583). Every 10 ms each channel's temperature is read and a retrain may become due. -/
  | tempRead (t : Nat) (temps : List Int)
  /-- RETRAIN_SLICE (R596). After 10 µs of empty queues, or at 1 ms intervals once forced, a retrain slice runs. -/
  | retrainSlice (t : Nat) (c : Fin 4) (emptyNs : Nat) (sweep : List (List (BitVec 128) × List (BitVec 128)))
  /-- RETRAIN_WAIT_EXPIRY (R596). A retrain still incomplete after RETRAIN_WAIT_S runs its remaining slices at 1 ms intervals. -/
  | retrainWaitExpiry (t : Nat) (c : Fin 4)
  /-- RETRAIN_REPEAT (R597). 60 s after a failed retrain the retrain is repeated. -/
  | retrainRepeat (t : Nat) (c : Fin 4)
  /-- DRAM_SCRUB (R586). The scrubber reads a DRAM line and handles corrections and uncorrectable lines. -/
  | dramScrub (t : Nat) (c : Fin 4) (line : BitVec 26) (status : Fin 3) (beats : BitVec 16)
  /-- CA_ALERT (R585). A command/address parity alert stops the channel and re-issues recent commands. -/
  | caAlert (t : Nat) (c : Fin 4) (region : Nat) (again : Bool)
  /-- ROUTE_REPAIR (R589). The control core rewrites a failing trie line from another copy and reads it back. -/
  | routeRepair (t : Nat) (c : Fin 4) (clean : Bool)
  /-- COPY_REBUILD (R589). A channel's trie copy is rebuilt from the record in force after a failed command. -/
  | copyRebuild (t : Nat) (c : Fin 4)
  /-- FIO_INPUT_CHANGE (R642). A field input level changes and its debounce starts. -/
  | fioInputChange (t : Nat) (pin : Fin 8) (mv : Nat)
  /-- DEBOUNCE (R642). A new input level has held for DEBOUNCE_MS and counts as an edge. -/
  | debounce (t : Nat) (pin : Fin 8)
  /-- WETTING_SAMPLE (R641). Once per second in Shelf a wetted input is pulsed and sampled. -/
  | wettingSample (t : Nat) (pin : Fin 8) (mv : Nat)
  /-- CURRENT_LIMIT (R643). A field output enters current limit and its 200 µs interval starts. -/
  | currentLimit (t : Nat) (pin : Fin 8) (limited : Bool)
  /-- OVERCURRENT_LATCH (R643). An output in limit for 200 µs latches off. -/
  | overcurrentLatch (t : Nat) (pin : Fin 8)
  /-- OUTPUT_RETRY (R644). At each 1 s retry instant a latched output commanded on is turned on again. -/
  | outputRetry (t : Nat) (pin : Fin 8)
  /-- READBACK_CONFLICT (R646). An output's readback disagrees for 10 ms and CONFLICT is set. -/
  | readbackConflict (t : Nat) (pin : Fin 8)
  /-- CONFLICT_CLEAR (R646). A conflicting output's readback agrees for 10 ms and CONFLICT clears. -/
  | conflictClear (t : Nat) (pin : Fin 8)
  /-- PULSE_START (R647). A scheduled pulse drives its pin to LEVEL at START. -/
  | pulseStart (t : Nat) (pin : Fin 8)
  /-- PULSE_END (R647). A pulse returns its pin to the commanded state and releases its timer. -/
  | pulseEnd (t : Nat) (pin : Fin 8)
  /-- VIN_CONVERSION (R656). Every 100 µs VIN is converted in the chosen range, with a RANGE_STEP re-conversion at full scale. -/
  | vinConversion (t : Nat) (lowCode : BitVec 12) (highCode : BitVec 12)
  /-- ADC_CONVERSION (R655). In each 2 ms round an enabled channel is converted and its status and limits updated. -/
  | adcConversion (t : Nat) (c : Fin 7) (openTest : Bool) (code : BitVec 12) (value : Int)
  /-- ADC_CAPTURE (R661). The capture timer fires and the latest sample of every channel is recorded. -/
  | adcCapture (t : Nat)
  /-- SNAPSHOT_SCHEDULE_FIRE (R720). The snapshot schedule's timer fires and a stored snapshot is taken or skipped. -/
  | snapshotScheduleFire (t : Nat)
  /-- BW_WINDOW_END (R722). A bandwidth window ends and each port's last and peak windows are updated. -/
  | bwWindowEnd (t : Nat)
  /-- MONITOR_WINDOW_END (R724). A monitor window ends and the monitor evaluates its counter increase. -/
  | monitorWindowEnd (t : Nat) (n : Fin 16)
  /-- PERF_OVERFLOW (R698). A performance counter wraps and its overflow interrupt extends it or records a sample. -/
  | perfOverflow (t : Nat) (watch : Bool) (counter : Fin 6) (task : Fin 8) (pc : BitVec 32)
  /-- EXTEST (R685). The TAP instruction EXTEST is loaded when debug access is open. -/
  | extest (t : Nat)
  /-- IDCODE (R687). The TAP instruction IDCODE selects the identity register. -/
  | idcode (t : Nat)
  /-- SAMPLE_PRELOAD (R685). The TAP instruction SAMPLE/PRELOAD selects the boundary-scan register. -/
  | samplePreload (t : Nat) (lands : List Bool) (data : List Bool)
  /-- CLAMP (R685). The TAP instruction CLAMP is loaded when debug access is open. -/
  | clamp (t : Nat)
  /-- HIGHZ (R685). The TAP instruction HIGHZ is loaded when debug access is open. -/
  | highz (t : Nat)
  /-- BYPASS (R685). The TAP instruction BYPASS, or any unlisted or denied opcode, selects the bypass register. -/
  | bypass (t : Nat) (opcode : BitVec 8)
  /-- DBG (R689). The TAP instruction DBG selects the debug access register when debug access is open. -/
  | dbg (t : Nat)
  /-- DEBUG_READ (R690). A debug register read of shared SRAM, the host window or core registers runs at Update-DR. -/
  | debugRead (t : Nat) (space : Fin 4) (addr : BitVec 32)
  /-- DEBUG_WRITE (R690). A debug register write to shared SRAM, scratch registers or core registers runs within its limits. -/
  | debugWrite (t : Nat) (space : Fin 4) (addr : BitVec 32) (data : BitVec 32)
  /-- HALT (R691). A control-space write halts a core, or defers the halt during a locked sequence. -/
  | dbgHalt (t : Nat) (watch : Bool) (seq : Option LockedSeq) (leftNs : Nat)
  /-- RESUME (R689). A control-space write resumes a halted core. -/
  | dbgResume (t : Nat) (watch : Bool)
  /-- STEP (R710). A control-space write steps a halted core by one instruction. -/
  | dbgStep (t : Nat) (watch : Bool)
  /-- DEBUG_RESET (R690). A write of 0x5EED restarts the module through Keystone with BOOT_CAUSE 6. -/
  | debugReset (t : Nat)
  /-- DEBUG_FREEZE_WRITE (R690). A write of 0xF0F0 enters Freeze as DEBUG_FREEZE does. -/
  | debugFreezeWrite (t : Nat)
  /-- CLEAR_LOCK_BROKEN (R689). A control-space write clears LOCK_BROKEN. -/
  | clearLockBroken (t : Nat)
  /-- FORCED_HALT (R692). A deferred halt still blocked by a locked sequence after 2 µs is forced and sets LOCK_BROKEN. -/
  | forcedHalt (t : Nat) (watch : Bool)
  /-- DEBUG_ACCESS_EXPIRY (R688). Debug access closes at the end of DURATION_S and halted cores resume. -/
  | debugAccessExpiry (t : Nat)
  /-- CLOCKS_LOCKED (R128). The clocks started for a climb have all locked, the control segment is re-digested and the control core starts, and the climb moves on to training. -/
  | clocksLocked (t : Nat) (copyOk : Bool)
  /-- TABLES_INSTALLED (R128). Installation of the on-die tables and search banks ends during a climb, and port forming starts. -/
  | tablesInstalled (t : Nat)
  /-- TRANSMISSION_END (R481). A frame finishes transmission, including its IFG, the packet's reference count falls, its cells and descriptor are freed at zero, and the next eligible frame may start. -/
  | transmissionEnd (t : Nat) (p : Fin 128)
  /-- LANE_PLL_LOCK (R262). A lane PLL woken from OFF locks and its half reaches ACTIVE. -/
  | lanePllLock (t : Nat) (l : Fin 144) (tx : Bool)
  /-- TEN_MHZ_PRESENT (R764). A valid 10 MHz signal appears on CLK10M_IN or is lost, and TEN_MHZ_PRESENT sets or clears within 10 ms. -/
  | tenMhzPresent (t : Nat) (present : Bool)
  /-- ALERT_N_HIGH (R585). ALERT_n returns high after a command/address parity alert, and the controller re-issues the commands from its history. -/
  | alertNHigh (t : Nat) (c : Fin 4)
  /-- PPS_OUT (R100). With PPS_OUT_EN set and quality HOLDOVER or locked, 1PPS out rises at each whole second of the time base and falls after PPS_WIDTH_US. -/
  | ppsOut (t : Nat)
  /-- UART0_CTS (R653). With CTS claimed, assertion of CTS lets UART0 resume sending bytes it was holding at a byte boundary. -/
  | uart0Cts (t : Nat) (asserted : Bool)
  /-- ALONE_PROBE_END (R541). The 25 ms probe window of an ALONE module ends without alignment, and the receive halves return to SLEEP. -/
  | aloneProbeEnd (t : Nat)
  /-- FRAME_SLOT (R340). A Causeway frame or unit slot starts, and the transmitter fills it with numbered, replayed, CTRL or IDLE units under credit and channel order. -/
  | frameSlot (t : Nat) (l : Fin 144)
  /-- SPAN_TIMING_EXCHANGE (R561). A timing exchange over VC0 arrives at the follower, which adjusts its time base to the leader's. -/
  | spanTimingExchange (t : Nat) (offsetNs : Int) (quality : Fin 6)
deriving DecidableEq, Repr

end Sys2Proof
end

