-- ==== Sys2Proof/Decode.lean ====
section
/-! DEFINITION. Decode.lean: commands from bits. No row of the command table gives bits, so no word spells a command. -/

namespace Sys2Proof

/-- The command that a word spells by the table's bits: none, since every row's list of fields is empty. (DESIGN CHOICE: log entry 17) -/
def decodeTableWord (_nbits _w : Nat) : Option Instr := none

end Sys2Proof
end

