-- ==== Sys2Proof/Machine/Operands.lean ====
section
/-! DEFINITION. Machine/Operands.lean: fields of payloads, headers and registers (R5, R6, R13, R79). -/

namespace Sys2Proof.Machine

/-- `n` bytes of `x`, most significant first (R6). -/
def be : Nat → Nat → List Byte
  | 0, _ => []
  | n + 1, x => BitVec.ofNat 8 (x / 256 ^ n) :: be n x

/-- `n` bytes of `x`, least significant first (R6). -/
def le : Nat → Nat → List Byte
  | 0, _ => []
  | n + 1, x => BitVec.ofNat 8 x :: le n (x / 256)

/-- Two's complement of a signed field of `n` bytes. -/
def twos (n : Nat) (x : Int) : Nat := (x % (256 ^ n : Nat)).toNat

/-- `n` bytes of a signed field, most significant first. -/
def beInt (n : Nat) (x : Int) : List Byte := be n (twos n x)

/-- A run of big-endian fields, each a width in bytes and a value. (DESIGN CHOICE: log entry 7) -/
def enc : List (Nat × Nat) → List Byte
  | [] => []
  | (n, x) :: fs => be n x ++ enc fs

/-- The value of bytes read most significant first. -/
def beVal : List Byte → Nat := List.foldl (fun a b => a * 256 + b.toNat) 0

/-- The value of bytes read least significant first. -/
def leVal : List Byte → Nat
  | [] => 0
  | b :: bs => b.toNat + 256 * leVal bs

/-- `n` bytes of a payload from offset `off`. -/
def slice (p : List Byte) (off n : Nat) : List Byte := (p.drop off).take n

/-- The unsigned field of `n` bytes at offset `off` (R6). -/
def field (p : List Byte) (off n : Nat) : Nat := beVal (slice p off n)

/-- The one-byte field at `off`. (DEDUCED: log entry 6) -/
def f1 (p : List Byte) (off : Nat) : Nat := field p off 1

/-- The two-byte field at `off`. -/
def f2 (p : List Byte) (off : Nat) : Nat := field p off 2

/-- The four-byte field at `off`. -/
def f4 (p : List Byte) (off : Nat) : Nat := field p off 4

/-- The eight-byte field at `off`. -/
def f8 (p : List Byte) (off : Nat) : Nat := field p off 8

/-- A field of `n` bytes read as a signed number. -/
def signed (n x : Nat) : Int := if x < 256 ^ n / 2 then x else (x : Int) - (256 ^ n : Nat)

/-- The signed field of `n` bytes at `off`. -/
def fieldInt (p : List Byte) (off n : Nat) : Int := signed n (field p off n)

/-- Bit `k` of a number (R5). -/
def bitOf (x k : Nat) : Bool := x / 2 ^ k % 2 == 1

/-- Bits [hi:lo] of a number (R5). -/
def bitsOf (x hi lo : Nat) : Nat := x / 2 ^ lo % 2 ^ (hi + 1 - lo)

/-- Bit `n` of a number set to `b`. -/
def setBit (x n : Nat) (b : Bool) : Nat :=
  if bitOf x n then (if b then x else x - 2 ^ n) else (if b then x + 2 ^ n else x)

/-- 1 for true, 0 for false. -/
def b2n (b : Bool) : Nat := if b then 1 else 0

/-- A number from a list of flags, bit 0 first. -/
def flags : List Bool → Nat
  | [] => 0
  | b :: bs => b2n b + 2 * flags bs

/-- Nanoseconds in a second. -/
def nsPerS : Nat := 1000000000

/-- The 10 bytes of a time base: 6 of seconds, 4 of nanoseconds (R79). -/
def tb10 (ns : Nat) : List Byte := be 6 (ns / nsPerS) ++ be 4 (ns % nsPerS)

/-- The time base field at `off`, in ns. -/
def tbField (p : List Byte) (off : Nat) : Nat := field p off 6 * nsPerS + field p (off + 6) 4

/-- The nanosecond field at `off` + 6 is below 1,000,000,000 (R13). -/
def tbFieldOk (p : List Byte) (off : Nat) : Bool := field p (off + 6) 4 < nsPerS

/-- `a` is after `b` by `d`, modulo 2^16 (RFC 1982 on 16-bit numbers, R167). -/
def seqDist (a b : Nat) : Nat := (a + 65536 - b % 65536) % 65536

/-- Elements `n` times. -/
def replicateBytes (n : Nat) (b : Byte) : List Byte := List.replicate n b

/-- Pad or cut a byte list to `n` bytes with zeros. -/
def padTo (n : Nat) (l : List Byte) : List Byte := (l ++ List.replicate n 0).take n

/-- XOR of two byte lists, as long as the shorter. -/
def xorBytes (a b : List Byte) : List Byte := List.zipWith (· ^^^ ·) a b

/-- A 16-bit counter that wraps. -/
def inc16 (n : Nat) : Nat := (n + 1) % 65536

/-- A 32-bit counter that wraps. -/
def inc32 (n : Nat) : Nat := (n + 1) % 4294967296

/-- A 32-bit counter that stays at its largest value (R714). (DESIGN CHOICE: log entry 8) -/
def sat32 (n : Nat) : Nat := min n 4294967295

end Sys2Proof.Machine
end

