-- ==== Sys2Proof/Machine/Crc.lean ====
section
/-! DEFINITION. Machine/Crc.lean: the CRC-32 of IEEE 802.3 Clause 3 and RFC 1662, and the CRC-16 of Causeway headers. -/

namespace Sys2Proof.Machine.Crc

open Sys2Proof

/-- `n` bit steps of the reflected CRC-32. -/
def crc32Bits : Nat → Nat → Nat
  | 0, c => c
  | n + 1, c => crc32Bits n (if c % 2 = 1 then Nat.xor (c / 2) 0xEDB88320 else c / 2)

/-- One byte into the CRC-32 register. -/
def crc32Byte (c : Nat) (b : Byte) : Nat := crc32Bits 8 (Nat.xor c b.toNat)

/-- CRC-32 of a byte list (R149, R303, R619). (PRESUMED: log entry 94) -/
def crc32 (bs : List Byte) : Nat := Nat.xor (bs.foldl crc32Byte 0xFFFFFFFF) 0xFFFFFFFF

/-- `n` bit steps of the CRC-16 with polynomial 0x1021. -/
def crc16Bits : Nat → Nat → Nat
  | 0, c => c
  | n + 1, c => crc16Bits n (if c ≥ 0x8000 then Nat.xor (2 * c % 65536) 0x1021 else 2 * c)

/-- One byte into the CRC-16 register. -/
def crc16Byte (c : Nat) (b : Byte) : Nat := crc16Bits 8 (Nat.xor c (b.toNat * 256))

/-- CRC-16 with polynomial 0x1021 from the given start value. (PRESUMED: log entry 94) -/
def crc16 (start : Nat) (bs : List Byte) : Nat := bs.foldl crc16Byte start

end Sys2Proof.Machine.Crc
end

