-- ==== Sys2Proof/Config.lean ====
section
/-! DEFINITION. Config.lean: what an implementation or the factory fixes, and the free values.
Every constant here is opaque: nothing in Lean can evaluate it or prove a value of it. -/

namespace Sys2Proof.Config

/-- SERIAL, fused (R197, R245). (DESIGN CHOICE: log entry 11) -/
opaque serial : BitVec 64

/-- ORDER_CODE, fused: 0 TH128-IA, 1 TH128-IAX (R1, R245). -/
opaque orderIax : Bool

/-- Silicon revision, fused: true for revision B (R2, R245). -/
opaque revisionB : Bool

/-- The 48-byte slot-0 key fused at manufacture (R619). (DESIGN CHOICE: log entry 11) -/
opaque slot0Key : List Byte

/-- Whether the fuse CRC of the slot-0 key is good (R619). -/
opaque fuseCrcGood : Bool

/-- The fused MAC address of M0 (R316). -/
opaque m0Mac : BitVec 48

/-- The RTC factory trim in ppb (R75, R89). -/
opaque rtcFactoryTrim : Int

/-- The vendor code of IDCODE, fused (R687). -/
opaque idcodeVendor : BitVec 11

/-- FREE VALUE: a byte the spec leaves open, fresh for each reading of the state's counter. (DESIGN CHOICE: log entry 10) -/
opaque freeByte : Nat → Byte

/-- FREE VALUE: a natural number the spec leaves open, fresh for each reading of the state's counter. (DESIGN CHOICE: log entry 10) -/
opaque freeNat : Nat → Nat

/-- FREE VALUE: a signed number the spec leaves open, fresh for each reading of the state's counter. (DESIGN CHOICE: log entry 10) -/
opaque freeInt : Nat → Int

/-- FREE VALUE: a choice the spec leaves open, fresh for each reading of the state's counter. (DESIGN CHOICE: log entry 10) -/
opaque freeBool : Nat → Bool

/-- FREE VALUE: the set of the fragment follow table a key lies in (R401); the spec names no hash. (DESIGN CHOICE: log entry 155) -/
opaque followSet : List Byte → Nat

/-- FREE VALUE: the FFE weights in use, C_M1 first, of a lane that has no rate and no weights of its own (R255 has defaults for rates 1 to 5).
(DESIGN CHOICE: log entry 116) -/
opaque ffeNoRate : Nat → Int

/-- FREE VALUE: MODULE_NONCE of the n-th session opened, 8 bytes (R163, R197). (DESIGN CHOICE: log entry 73) -/
opaque moduleNonce : Nat → BitVec 64

end Sys2Proof.Config
end

