-- ==== Sys2Proof/Machine/Codes.lean ====
section
/-! DEFINITION. Machine/Codes.lean: the command, event and error codes of R783 to R787, and the group table of R32. -/

namespace Sys2Proof.Machine

/-- The KMP commands of R785, by name. -/
inductive Cmd where
  | sessionOpen
  | sessionClose
  | sessionStatus
  | identityGet
  | eventAck
  | eventFetch
  | eventConfigSet
  | transportConfigSet
  | transportConfigGet
  | timeGet
  | timeSet
  | timeSourceSet
  | rtcAlarmSet
  | timerClaim
  | timerRelease
  | timerStatusGet
  | bootStatusGet
  | bankErase
  | bankWrite
  | bankSeal
  | bankSelect
  | bankConfirm
  | restart
  | stageOpen
  | stageWrite
  | stageVerify
  | stageCommit
  | commitCancel
  | stageCancel
  | baselineGet
  | baselineSet
  | recordErase
  | recordWrite
  | siteLabelSet
  | siteLabelGet
  | modeGet
  | modeSet
  | modeConfigSet
  | modeConfigGet
  | wakeConfigSet
  | strikeConfigSet
  | strikeStatusGet
  | laneConfigSet
  | laneConfigGet
  | laneStatusGet
  | laneSleepSet
  | laneTestSet
  | lanePrbsGet
  | laneEyeStart
  | laneEyeGet
  | portForm
  | portStatusGet
  | m0ConfigSet
  | m0ConfigGet
  | opticsMapSet
  | opticsRead
  | opticsWrite
  | cwLinkSet
  | cwLinkStatusGet
  | cwCountersGet
  | cwFlush
  | fwdConfigSet
  | fwdConfigGet
  | vlanSet
  | portLearnSet
  | bridgeEntrySet
  | bridgeFlush
  | tableLookup
  | tableStatusGet
  | parseConfigSet
  | parseConfigGet
  | portClassSet
  | portClassGet
  | searchBankSet
  | searchWrite
  | searchInsert
  | searchRead
  | meterSet
  | meterGet
  | puntConfigSet
  | fragStatusGet
  | deckQueueSet
  | deckQueueGet
  | deckStatusGet
  | trussStatusGet
  | egressConfigSet
  | egressConfigGet
  | schedSet
  | schedGet
  | gateListSet
  | gateListGet
  | queueStatusGet
  | spanConfigSet
  | spanConfigGet
  | spanJoin
  | spanLeave
  | spanStatusGet
  | spanTargetSet
  | dramStatusGet
  | dramTrainGet
  | dramPolicySet
  | dramPolicyGet
  | dramRetrain
  | dramErrorLogGet
  | dramRead
  | keyStatusGet
  | keyLoad
  | keyClear
  | digestRun
  | fioConfigSet
  | fioStatusGet
  | fioOutputSet
  | fioPulse
  | fioClear
  | gpioConfigSet
  | gpioWrite
  | gpioRead
  | adcConfigSet
  | adcRead
  | adcCaptureSet
  | countersGet
  | eventCounterSet
  | snapshotTake
  | snapshotRead
  | snapshotScheduleSet
  | bwConfigSet
  | bwGet
  | monitorSet
  | monitorGet
  | logRead
  | strikeTallyGet
  | coreStatusGet
  | perfConfigSet
  | perfRead
  | perfSampleGet
  | debugAccessSet
  | debugFreeze
  | captureSet
  | captureRead
deriving DecidableEq, Repr

/-- A row of the command table of R785: code, the modes that list it, idempotency class and role. -/
structure CmdRow where
  code : Nat
  watch : Bool
  keep : Bool
  full : Bool
  span : Bool
  freeze : Bool
  replayable : Bool
  control : Bool
deriving DecidableEq, Repr

/-- The command table of R785. -/
def Cmd.row : Cmd → CmdRow
  | .sessionOpen => ⟨0x0101, true, true, true, true, true, true, false⟩
  | .sessionClose => ⟨0x0102, true, true, true, true, true, true, false⟩
  | .sessionStatus => ⟨0x0103, true, true, true, true, true, false, false⟩
  | .identityGet => ⟨0x0104, true, true, true, true, true, true, false⟩
  | .eventAck => ⟨0x0105, true, true, true, true, true, true, false⟩
  | .eventFetch => ⟨0x0106, true, true, true, true, true, true, false⟩
  | .eventConfigSet => ⟨0x0107, true, true, true, true, true, true, false⟩
  | .transportConfigSet => ⟨0x0108, true, true, true, true, true, true, true⟩
  | .transportConfigGet => ⟨0x0109, true, true, true, true, true, true, false⟩
  | .timeGet => ⟨0x0121, true, true, true, true, true, false, false⟩
  | .timeSet => ⟨0x0122, true, true, true, true, true, false, true⟩
  | .timeSourceSet => ⟨0x0123, true, true, true, true, false, true, true⟩
  | .rtcAlarmSet => ⟨0x0124, true, true, true, true, true, true, true⟩
  | .timerClaim => ⟨0x0125, true, true, true, true, false, true, true⟩
  | .timerRelease => ⟨0x0126, true, true, true, true, true, true, true⟩
  | .timerStatusGet => ⟨0x0127, true, true, true, true, true, true, false⟩
  | .bootStatusGet => ⟨0x0141, true, true, true, true, true, true, false⟩
  | .bankErase => ⟨0x0142, true, true, true, true, true, true, true⟩
  | .bankWrite => ⟨0x0143, true, true, true, true, true, true, true⟩
  | .bankSeal => ⟨0x0144, true, true, true, true, true, true, true⟩
  | .bankSelect => ⟨0x0145, true, true, true, true, true, true, true⟩
  | .bankConfirm => ⟨0x0146, true, true, true, true, true, true, true⟩
  | .restart => ⟨0x0147, true, true, true, true, true, false, true⟩
  | .stageOpen => ⟨0x0161, true, true, true, true, true, true, true⟩
  | .stageWrite => ⟨0x0162, true, true, true, true, true, true, true⟩
  | .stageVerify => ⟨0x0163, true, true, true, true, true, true, true⟩
  | .stageCommit => ⟨0x0164, true, true, true, true, true, true, true⟩
  | .commitCancel => ⟨0x0165, true, true, true, true, true, true, true⟩
  | .stageCancel => ⟨0x0166, true, true, true, true, true, true, true⟩
  | .baselineGet => ⟨0x01A1, true, true, true, true, true, true, false⟩
  | .baselineSet => ⟨0x01A2, true, true, true, true, false, true, true⟩
  | .recordErase => ⟨0x01A3, true, false, false, false, false, true, true⟩
  | .recordWrite => ⟨0x01A4, true, false, false, false, false, true, true⟩
  | .siteLabelSet => ⟨0x01A5, true, true, true, true, false, true, true⟩
  | .siteLabelGet => ⟨0x01A6, true, true, true, true, true, true, false⟩
  | .modeGet => ⟨0x0201, true, true, true, true, true, true, false⟩
  | .modeSet => ⟨0x0202, true, true, true, true, true, true, true⟩
  | .modeConfigSet => ⟨0x0203, true, true, true, true, false, true, true⟩
  | .modeConfigGet => ⟨0x0204, true, true, true, true, true, true, false⟩
  | .wakeConfigSet => ⟨0x0205, true, true, true, true, false, true, true⟩
  | .strikeConfigSet => ⟨0x0206, true, true, true, true, false, true, true⟩
  | .strikeStatusGet => ⟨0x0207, true, true, true, true, true, true, false⟩
  | .laneConfigSet => ⟨0x0301, true, true, true, true, false, true, true⟩
  | .laneConfigGet => ⟨0x0302, true, true, true, true, true, true, false⟩
  | .laneStatusGet => ⟨0x0303, true, true, true, true, true, true, false⟩
  | .laneSleepSet => ⟨0x0304, false, true, true, true, false, true, true⟩
  | .laneTestSet => ⟨0x0305, false, true, true, true, false, true, true⟩
  | .lanePrbsGet => ⟨0x0306, false, true, true, true, true, false, false⟩
  | .laneEyeStart => ⟨0x0307, false, true, true, true, false, true, true⟩
  | .laneEyeGet => ⟨0x0308, false, true, true, true, true, true, false⟩
  | .portForm => ⟨0x0311, true, true, true, true, false, true, true⟩
  | .portStatusGet => ⟨0x0312, true, true, true, true, true, false, false⟩
  | .m0ConfigSet => ⟨0x0313, true, true, true, true, false, true, true⟩
  | .m0ConfigGet => ⟨0x0314, true, true, true, true, true, true, false⟩
  | .opticsMapSet => ⟨0x0315, true, true, true, true, false, true, true⟩
  | .opticsRead => ⟨0x0316, false, true, true, true, true, false, false⟩
  | .opticsWrite => ⟨0x0317, false, true, true, true, false, true, true⟩
  | .cwLinkSet => ⟨0x0321, true, true, true, true, false, true, true⟩
  | .cwLinkStatusGet => ⟨0x0322, true, true, true, true, true, false, false⟩
  | .cwCountersGet => ⟨0x0323, true, true, true, true, true, false, false⟩
  | .cwFlush => ⟨0x0324, false, false, true, true, false, true, true⟩
  | .fwdConfigSet => ⟨0x0401, true, true, true, true, false, true, true⟩
  | .fwdConfigGet => ⟨0x0402, true, true, true, true, true, true, false⟩
  | .vlanSet => ⟨0x0403, true, true, true, true, false, true, true⟩
  | .portLearnSet => ⟨0x0404, true, true, true, true, false, true, true⟩
  | .bridgeEntrySet => ⟨0x0405, false, true, true, true, false, true, true⟩
  | .bridgeFlush => ⟨0x0406, false, true, true, true, false, true, true⟩
  | .tableLookup => ⟨0x0407, false, true, true, true, true, false, false⟩
  | .tableStatusGet => ⟨0x0408, false, true, true, true, true, false, false⟩
  | .parseConfigSet => ⟨0x0501, true, true, true, true, false, true, true⟩
  | .parseConfigGet => ⟨0x0502, true, true, true, true, true, true, false⟩
  | .portClassSet => ⟨0x0503, true, true, true, true, false, true, true⟩
  | .portClassGet => ⟨0x0504, true, true, true, true, true, true, false⟩
  | .searchBankSet => ⟨0x0505, true, true, true, true, false, true, true⟩
  | .searchWrite => ⟨0x0506, false, true, true, true, false, true, true⟩
  | .searchInsert => ⟨0x0507, false, true, true, true, false, true, true⟩
  | .searchRead => ⟨0x0508, false, true, true, true, true, false, false⟩
  | .meterSet => ⟨0x0509, true, true, true, true, false, true, true⟩
  | .meterGet => ⟨0x050A, false, true, true, true, true, false, false⟩
  | .puntConfigSet => ⟨0x050B, true, true, true, true, false, true, true⟩
  | .fragStatusGet => ⟨0x050C, false, true, true, true, true, false, false⟩
  | .deckQueueSet => ⟨0x0601, true, true, true, true, false, true, true⟩
  | .deckQueueGet => ⟨0x0602, false, true, true, true, true, false, false⟩
  | .deckStatusGet => ⟨0x0603, false, true, true, true, true, false, false⟩
  | .trussStatusGet => ⟨0x0604, false, true, true, true, true, false, false⟩
  | .egressConfigSet => ⟨0x0611, true, true, true, true, false, true, true⟩
  | .egressConfigGet => ⟨0x0612, true, true, true, true, true, true, false⟩
  | .schedSet => ⟨0x0613, true, true, true, true, false, true, true⟩
  | .schedGet => ⟨0x0614, true, true, true, true, true, true, false⟩
  | .gateListSet => ⟨0x0615, true, true, true, true, false, true, true⟩
  | .gateListGet => ⟨0x0616, true, true, true, true, true, false, false⟩
  | .queueStatusGet => ⟨0x0617, false, true, true, true, true, false, false⟩
  | .spanConfigSet => ⟨0x0701, false, false, true, true, false, true, true⟩
  | .spanConfigGet => ⟨0x0702, false, false, true, true, true, true, false⟩
  | .spanJoin => ⟨0x0703, false, false, true, false, false, true, true⟩
  | .spanLeave => ⟨0x0704, false, false, true, true, false, true, true⟩
  | .spanStatusGet => ⟨0x0705, false, false, true, true, true, false, false⟩
  | .spanTargetSet => ⟨0x0706, false, false, true, true, false, true, false⟩
  | .dramStatusGet => ⟨0x0801, false, true, true, true, true, false, false⟩
  | .dramTrainGet => ⟨0x0802, false, true, true, true, true, true, false⟩
  | .dramPolicySet => ⟨0x0803, false, true, true, true, false, true, true⟩
  | .dramPolicyGet => ⟨0x0804, false, true, true, true, true, true, false⟩
  | .dramRetrain => ⟨0x0805, false, true, true, true, false, true, true⟩
  | .dramErrorLogGet => ⟨0x0806, false, true, true, true, true, false, false⟩
  | .dramRead => ⟨0x0807, false, true, true, true, true, false, true⟩
  | .keyStatusGet => ⟨0x0901, true, true, true, true, true, true, false⟩
  | .keyLoad => ⟨0x0902, true, true, true, true, true, true, true⟩
  | .keyClear => ⟨0x0903, true, true, true, true, true, true, true⟩
  | .digestRun => ⟨0x0904, true, true, true, true, true, true, false⟩
  | .fioConfigSet => ⟨0x0A01, true, true, true, true, false, true, true⟩
  | .fioStatusGet => ⟨0x0A02, true, true, true, true, true, false, false⟩
  | .fioOutputSet => ⟨0x0A03, true, true, true, true, true, true, true⟩
  | .fioPulse => ⟨0x0A04, true, true, true, true, true, true, true⟩
  | .fioClear => ⟨0x0A05, true, true, true, true, true, true, true⟩
  | .gpioConfigSet => ⟨0x0A06, true, true, true, true, false, true, true⟩
  | .gpioWrite => ⟨0x0A07, true, true, true, true, true, true, true⟩
  | .gpioRead => ⟨0x0A08, true, true, true, true, true, false, false⟩
  | .adcConfigSet => ⟨0x0A09, true, true, true, true, false, true, true⟩
  | .adcRead => ⟨0x0A0A, true, true, true, true, true, false, false⟩
  | .adcCaptureSet => ⟨0x0A0B, true, true, true, true, false, true, true⟩
  | .countersGet => ⟨0x0B01, true, true, true, true, true, false, false⟩
  | .eventCounterSet => ⟨0x0B02, false, true, true, true, false, true, true⟩
  | .snapshotTake => ⟨0x0B03, false, true, true, true, true, false, true⟩
  | .snapshotRead => ⟨0x0B04, false, true, true, true, true, true, false⟩
  | .snapshotScheduleSet => ⟨0x0B05, false, true, true, true, false, true, true⟩
  | .bwConfigSet => ⟨0x0B06, false, true, true, true, false, true, true⟩
  | .bwGet => ⟨0x0B07, false, true, true, true, true, false, false⟩
  | .monitorSet => ⟨0x0B08, false, true, true, true, false, true, true⟩
  | .monitorGet => ⟨0x0B09, false, true, true, true, true, false, false⟩
  | .logRead => ⟨0x0B0A, true, true, true, true, true, false, false⟩
  | .strikeTallyGet => ⟨0x0B0B, true, true, true, true, true, false, false⟩
  | .coreStatusGet => ⟨0x0C01, true, true, true, true, true, false, false⟩
  | .perfConfigSet => ⟨0x0C02, true, true, true, true, false, true, true⟩
  | .perfRead => ⟨0x0C03, true, true, true, true, true, false, false⟩
  | .perfSampleGet => ⟨0x0C04, true, true, true, true, true, false, false⟩
  | .debugAccessSet => ⟨0x0C05, true, true, true, true, true, true, true⟩
  | .debugFreeze => ⟨0x0C06, false, true, true, true, false, true, true⟩
  | .captureSet => ⟨0x0C07, false, false, true, true, false, true, true⟩
  | .captureRead => ⟨0x0C08, false, false, true, true, true, false, false⟩

/-- Part 1 of the commands in the order of R785. -/
def Cmd.part1 : List Cmd :=
  [.sessionOpen, .sessionClose, .sessionStatus, .identityGet, .eventAck, .eventFetch, .eventConfigSet, .transportConfigSet,
   .transportConfigGet, .timeGet, .timeSet, .timeSourceSet, .rtcAlarmSet, .timerClaim, .timerRelease, .timerStatusGet,
   .bootStatusGet, .bankErase, .bankWrite, .bankSeal, .bankSelect, .bankConfirm, .restart, .stageOpen]

/-- Part 2 of the commands in the order of R785. -/
def Cmd.part2 : List Cmd :=
  [.stageWrite, .stageVerify, .stageCommit, .commitCancel, .stageCancel, .baselineGet, .baselineSet, .recordErase,
   .recordWrite, .siteLabelSet, .siteLabelGet, .modeGet, .modeSet, .modeConfigSet, .modeConfigGet, .wakeConfigSet,
   .strikeConfigSet, .strikeStatusGet, .laneConfigSet, .laneConfigGet, .laneStatusGet, .laneSleepSet, .laneTestSet, .lanePrbsGet]

/-- Part 3 of the commands in the order of R785. -/
def Cmd.part3 : List Cmd :=
  [.laneEyeStart, .laneEyeGet, .portForm, .portStatusGet, .m0ConfigSet, .m0ConfigGet, .opticsMapSet, .opticsRead,
   .opticsWrite, .cwLinkSet, .cwLinkStatusGet, .cwCountersGet, .cwFlush, .fwdConfigSet, .fwdConfigGet, .vlanSet,
   .portLearnSet, .bridgeEntrySet, .bridgeFlush, .tableLookup, .tableStatusGet, .parseConfigSet, .parseConfigGet, .portClassSet]

/-- Part 4 of the commands in the order of R785. -/
def Cmd.part4 : List Cmd :=
  [.portClassGet, .searchBankSet, .searchWrite, .searchInsert, .searchRead, .meterSet, .meterGet, .puntConfigSet,
   .fragStatusGet, .deckQueueSet, .deckQueueGet, .deckStatusGet, .trussStatusGet, .egressConfigSet, .egressConfigGet, .schedSet,
   .schedGet, .gateListSet, .gateListGet, .queueStatusGet, .spanConfigSet, .spanConfigGet, .spanJoin, .spanLeave]

/-- Part 5 of the commands in the order of R785. -/
def Cmd.part5 : List Cmd :=
  [.spanStatusGet, .spanTargetSet, .dramStatusGet, .dramTrainGet, .dramPolicySet, .dramPolicyGet, .dramRetrain, .dramErrorLogGet,
   .dramRead, .keyStatusGet, .keyLoad, .keyClear, .digestRun, .fioConfigSet, .fioStatusGet, .fioOutputSet,
   .fioPulse, .fioClear, .gpioConfigSet, .gpioWrite, .gpioRead, .adcConfigSet, .adcRead, .adcCaptureSet]

/-- Part 6 of the commands in the order of R785. -/
def Cmd.part6 : List Cmd :=
  [.countersGet, .eventCounterSet, .snapshotTake, .snapshotRead, .snapshotScheduleSet, .bwConfigSet, .bwGet, .monitorSet,
   .monitorGet, .logRead, .strikeTallyGet, .coreStatusGet, .perfConfigSet, .perfRead, .perfSampleGet, .debugAccessSet,
   .debugFreeze, .captureSet, .captureRead]

/-- Every command, in the order of R785. -/
def Cmd.all : List Cmd :=
  Cmd.part1 ++ Cmd.part2 ++ Cmd.part3 ++ Cmd.part4 ++ Cmd.part5 ++ Cmd.part6

/-- The command with code `n`, where one is listed (R17, R783). -/
def Cmd.ofCode (n : Nat) : Option Cmd := Cmd.all.find? fun c => c.row.code == n

/-- The events of R786, by name. -/
inductive Ev where
  | sessionOpened
  | sessionClosed
  | eventsLost
  | authFail
  | transportReverted
  | timeQuality
  | timeStep
  | clockFail
  | rtcAlarm
  | timerFire
  | abutmentCold
  | rtcTrim
  | boot
  | bootFallback
  | bootRecovery
  | trialReverted
  | bankConfirmed
  | configLoaded
  | configFallback
  | configNone
  | forwardingReady
  | stageItem
  | commitArmed
  | commitDone
  | commitFailed
  | commitCancelled
  | hostRingFault
  | hostLink
  | baselineChanged
  | baselineFallback
  | modeShed
  | modeClimb
  | modeChanged
  | rideThrough
  | wake
  | wakeDeferred
  | strikeOpen
  | strikeClose
  | overvoltage
  | freezeLost
  | modeRefused
  | holdLow
  | thermalCut
  | vioFault
  | laneRxLock
  | laneEqRail
  | laneFault
  | laneTestStopped
  | laneEyeDone
  | laneQuarantine
  | cwAlign
  | portLink
  | opticsPresent
  | opticsState
  | opticsMismatch
  | m0Link
  | cwLink
  | cwHold
  | cwMismatch
  | cwPeer
  | tableError
  | tableLoaded
  | learnContest
  | learnRefused
  | staticConflict
  | searchLoaded
  | searchError
  | fragFull
  | puntDrop
  | puntFrame
  | reseqTimeout
  | trussCellErr
  | deckExhausted
  | launchDrop
  | gateTakeover
  | gateOversize
  | queueDelay
  | gateStep
  | spanAlone
  | spanElected
  | spanJoined
  | spanSplit
  | spanWiring
  | spanMismatch
  | spanRelayed
  | dramTrained
  | dramMargin
  | dramRetrain
  | dramError
  | dramFreeze
  | keyChanged
  | digestFault
  | fioInput
  | fioFault
  | adcLimit
  | adcFault
  | adcCapture
  | pinRefused
  | countersRestart
  | monitor
  | snapshotSkipped
  | debugAccess
  | coreHalt
  | lockBroken
  | captureDone
deriving DecidableEq, Repr

/-- The event codes of R786. -/
def Ev.code : Ev → Nat
  | .sessionOpened => 0x8101
  | .sessionClosed => 0x8102
  | .eventsLost => 0x8103
  | .authFail => 0x8104
  | .transportReverted => 0x8105
  | .timeQuality => 0x8121
  | .timeStep => 0x8122
  | .clockFail => 0x8123
  | .rtcAlarm => 0x8124
  | .timerFire => 0x8125
  | .abutmentCold => 0x8126
  | .rtcTrim => 0x8127
  | .boot => 0x8141
  | .bootFallback => 0x8142
  | .bootRecovery => 0x8143
  | .trialReverted => 0x8144
  | .bankConfirmed => 0x8145
  | .configLoaded => 0x8146
  | .configFallback => 0x8147
  | .configNone => 0x8148
  | .forwardingReady => 0x8149
  | .stageItem => 0x8161
  | .commitArmed => 0x8162
  | .commitDone => 0x8163
  | .commitFailed => 0x8164
  | .commitCancelled => 0x8165
  | .hostRingFault => 0x8181
  | .hostLink => 0x8182
  | .baselineChanged => 0x81A1
  | .baselineFallback => 0x81A2
  | .modeShed => 0x8201
  | .modeClimb => 0x8202
  | .modeChanged => 0x8203
  | .rideThrough => 0x8204
  | .wake => 0x8205
  | .wakeDeferred => 0x8206
  | .strikeOpen => 0x8207
  | .strikeClose => 0x8208
  | .overvoltage => 0x8209
  | .freezeLost => 0x820A
  | .modeRefused => 0x820B
  | .holdLow => 0x820C
  | .thermalCut => 0x820D
  | .vioFault => 0x820E
  | .laneRxLock => 0x8301
  | .laneEqRail => 0x8302
  | .laneFault => 0x8303
  | .laneTestStopped => 0x8304
  | .laneEyeDone => 0x8305
  | .laneQuarantine => 0x8306
  | .cwAlign => 0x8307
  | .portLink => 0x8311
  | .opticsPresent => 0x8312
  | .opticsState => 0x8313
  | .opticsMismatch => 0x8314
  | .m0Link => 0x8315
  | .cwLink => 0x8321
  | .cwHold => 0x8322
  | .cwMismatch => 0x8323
  | .cwPeer => 0x8324
  | .tableError => 0x8401
  | .tableLoaded => 0x8402
  | .learnContest => 0x8403
  | .learnRefused => 0x8404
  | .staticConflict => 0x8405
  | .searchLoaded => 0x8501
  | .searchError => 0x8502
  | .fragFull => 0x8503
  | .puntDrop => 0x8504
  | .puntFrame => 0x8505
  | .reseqTimeout => 0x8601
  | .trussCellErr => 0x8602
  | .deckExhausted => 0x8603
  | .launchDrop => 0x8604
  | .gateTakeover => 0x8611
  | .gateOversize => 0x8612
  | .queueDelay => 0x8613
  | .gateStep => 0x8614
  | .spanAlone => 0x8701
  | .spanElected => 0x8702
  | .spanJoined => 0x8703
  | .spanSplit => 0x8704
  | .spanWiring => 0x8705
  | .spanMismatch => 0x8706
  | .spanRelayed => 0x8707
  | .dramTrained => 0x8801
  | .dramMargin => 0x8802
  | .dramRetrain => 0x8803
  | .dramError => 0x8804
  | .dramFreeze => 0x8805
  | .keyChanged => 0x8901
  | .digestFault => 0x8902
  | .fioInput => 0x8A01
  | .fioFault => 0x8A02
  | .adcLimit => 0x8A03
  | .adcFault => 0x8A04
  | .adcCapture => 0x8A05
  | .pinRefused => 0x8A06
  | .countersRestart => 0x8B01
  | .monitor => 0x8B02
  | .snapshotSkipped => 0x8B03
  | .debugAccess => 0x8C01
  | .coreHalt => 0x8C02
  | .lockBroken => 0x8C03
  | .captureDone => 0x8C04

/-- The errors of R787, by name. -/
inductive Err where
  | unknownCmd
  | stale
  | seqWindow
  | noSession
  | sessionBusy
  | readOnly
  | authRequired
  | keySlot
  | busy
  | idReused
  | version
  | badPayload
  | transportParam
  | eventParam
  | badTime
  | timerBusy
  | timeSource
  | alarmPast
  | timeParam
  | bankActive
  | bankRange
  | flashNotErased
  | bankInvalid
  | sealAuth
  | notTrial
  | flashFail
  | recovery
  | stageNone
  | stageOpen
  | stageSize
  | stageItem
  | stageOffset
  | stageUnverified
  | stageBase
  | epochPast
  | commitPending
  | commitNone
  | baselineUnsupported
  | baselineBundle
  | recordActive
  | recordRange
  | modeNotAllowed
  | modeVin
  | modeTarget
  | modeFrozen
  | badThreshold
  | keepPort
  | noWake
  | strikeParam
  | laneNumber
  | laneParam
  | laneBusy
  | laneIdle
  | prbsPattern
  | laneGroupOff
  | laneNotLocked
  | eyeBusy
  | portAlign
  | portType
  | portLaneBusy
  | portNone
  | noack
  | i2cTimeout
  | opticsMap
  | opticsRange
  | opticsManaged
  | m0Param
  | cwParam
  | cwHoldSpace
  | cwSpan
  | cwNotLink
  | cwNoHold
  | tableParam
  | tableFull
  | tableStatic
  | tableNotFound
  | vlanParam
  | parseParam
  | searchParam
  | searchEntry
  | searchFull
  | searchInList
  | searchReserved
  | meterParam
  | puntParam
  | classParam
  | deckParam
  | schedParam
  | gateParam
  | gateTrunk
  | gatePast
  | gatePending
  | gateNone
  | spanParam
  | spanActive
  | spanLanes
  | spanNotJoined
  | dramParam
  | dramChannelOff
  | dramRetrainBusy
  | dramRange
  | keyParam
  | keyFused
  | keyAuth
  | keyWrap
  | keyUsage
  | digestParam
  | keyBroken
  | pinBusy
  | pinMode
  | fioParam
  | fioLatched
  | gpioParam
  | adcParam
  | counterParam
  | snapNone
  | logRange
  | archiveOff
  | perfParam
  | debugParam
  | captureParam
  | captureNone
deriving DecidableEq, Repr

/-- The error codes of R787; success is 0x0000 (R16). -/
def Err.code : Err → Nat
  | .unknownCmd => 0x0101
  | .stale => 0x0102
  | .seqWindow => 0x0103
  | .noSession => 0x0104
  | .sessionBusy => 0x0105
  | .readOnly => 0x0106
  | .authRequired => 0x0107
  | .keySlot => 0x0108
  | .busy => 0x0109
  | .idReused => 0x010A
  | .version => 0x010B
  | .badPayload => 0x010C
  | .transportParam => 0x010D
  | .eventParam => 0x010E
  | .badTime => 0x0120
  | .timerBusy => 0x0121
  | .timeSource => 0x0122
  | .alarmPast => 0x0123
  | .timeParam => 0x0124
  | .bankActive => 0x0141
  | .bankRange => 0x0142
  | .flashNotErased => 0x0143
  | .bankInvalid => 0x0144
  | .sealAuth => 0x0145
  | .notTrial => 0x0146
  | .flashFail => 0x0147
  | .recovery => 0x0148
  | .stageNone => 0x0161
  | .stageOpen => 0x0162
  | .stageSize => 0x0163
  | .stageItem => 0x0164
  | .stageOffset => 0x0165
  | .stageUnverified => 0x0166
  | .stageBase => 0x0167
  | .epochPast => 0x0168
  | .commitPending => 0x0169
  | .commitNone => 0x016A
  | .baselineUnsupported => 0x01A1
  | .baselineBundle => 0x01A2
  | .recordActive => 0x01A3
  | .recordRange => 0x01A4
  | .modeNotAllowed => 0x0201
  | .modeVin => 0x0202
  | .modeTarget => 0x0203
  | .modeFrozen => 0x0204
  | .badThreshold => 0x0205
  | .keepPort => 0x0206
  | .noWake => 0x0207
  | .strikeParam => 0x0208
  | .laneNumber => 0x0301
  | .laneParam => 0x0302
  | .laneBusy => 0x0303
  | .laneIdle => 0x0304
  | .prbsPattern => 0x0305
  | .laneGroupOff => 0x0306
  | .laneNotLocked => 0x0307
  | .eyeBusy => 0x0308
  | .portAlign => 0x0311
  | .portType => 0x0312
  | .portLaneBusy => 0x0313
  | .portNone => 0x0314
  | .noack => 0x0315
  | .i2cTimeout => 0x0316
  | .opticsMap => 0x0317
  | .opticsRange => 0x0318
  | .opticsManaged => 0x0319
  | .m0Param => 0x031A
  | .cwParam => 0x0321
  | .cwHoldSpace => 0x0322
  | .cwSpan => 0x0323
  | .cwNotLink => 0x0324
  | .cwNoHold => 0x0325
  | .tableParam => 0x0401
  | .tableFull => 0x0402
  | .tableStatic => 0x0403
  | .tableNotFound => 0x0404
  | .vlanParam => 0x0405
  | .parseParam => 0x0501
  | .searchParam => 0x0502
  | .searchEntry => 0x0503
  | .searchFull => 0x0504
  | .searchInList => 0x0505
  | .searchReserved => 0x0506
  | .meterParam => 0x0507
  | .puntParam => 0x0508
  | .classParam => 0x0509
  | .deckParam => 0x0601
  | .schedParam => 0x0611
  | .gateParam => 0x0612
  | .gateTrunk => 0x0613
  | .gatePast => 0x0614
  | .gatePending => 0x0615
  | .gateNone => 0x0616
  | .spanParam => 0x0701
  | .spanActive => 0x0702
  | .spanLanes => 0x0703
  | .spanNotJoined => 0x0704
  | .dramParam => 0x0801
  | .dramChannelOff => 0x0802
  | .dramRetrainBusy => 0x0803
  | .dramRange => 0x0804
  | .keyParam => 0x0901
  | .keyFused => 0x0902
  | .keyAuth => 0x0903
  | .keyWrap => 0x0904
  | .keyUsage => 0x0905
  | .digestParam => 0x0906
  | .keyBroken => 0x0907
  | .pinBusy => 0x0A01
  | .pinMode => 0x0A02
  | .fioParam => 0x0A03
  | .fioLatched => 0x0A04
  | .gpioParam => 0x0A05
  | .adcParam => 0x0A06
  | .counterParam => 0x0B01
  | .snapNone => 0x0B02
  | .logRange => 0x0B03
  | .archiveOff => 0x0B04
  | .perfParam => 0x0C01
  | .debugParam => 0x0C02
  | .captureParam => 0x0C03
  | .captureNone => 0x0C04

end Sys2Proof.Machine
end

