-- ==== Sys2Proof/Machine/Tbl.lean ====
section
/-! DEFINITION. Machine/Tbl.lean: sparse arrays and byte memories in one canonical form.
A table lists the entries that differ from its default, keys strictly rising, so equal tables are equal lists. -/

namespace Sys2Proof.Machine

/-- A sparse array: the entries that differ from the array's default value, by rising index. -/
abbrev Tbl (α : Type) := List (Nat × α)

/-- A byte memory in the host's cell form. -/
abbrev Mem := List (Nat × Byte)

/-- The entry at `k`, or the default `d` where none is listed. -/
def Tbl.get {α : Type} (d : α) : Tbl α → Nat → α
  | [], _ => d
  | (j, v) :: t, k => if j = k then v else Tbl.get d t k

/-- Remove the entry at `k`. -/
def Tbl.del {α : Type} : Tbl α → Nat → Tbl α
  | [], _ => []
  | (j, v) :: t, k => if j = k then t else (j, v) :: Tbl.del t k

/-- List `v` at `k`, keeping the keys rising. -/
def Tbl.put {α : Type} : Tbl α → Nat → α → Tbl α
  | [], k, v => [(k, v)]
  | (j, u) :: t, k, v =>
    if k < j then (k, v) :: (j, u) :: t
    else if j = k then (k, v) :: t
    else (j, u) :: Tbl.put t k v

/-- Set the entry at `k`; a value equal to the default is not listed. -/
def Tbl.set {α : Type} [DecidableEq α] (d : α) (t : Tbl α) (k : Nat) (v : α) : Tbl α :=
  if v = d then Tbl.del t k else Tbl.put t k v

/-- Apply `f` to the entry at `k`. -/
def Tbl.upd {α : Type} [DecidableEq α] (d : α) (t : Tbl α) (k : Nat) (f : α → α) : Tbl α :=
  Tbl.set d t k (f (Tbl.get d t k))

/-- Keys strictly rising from above `lo`, and no entry equal to the default. -/
def Tbl.wfFrom {α : Type} [DecidableEq α] (d : α) : Nat → Tbl α → Bool
  | _, [] => true
  | lo, (j, v) :: t => decide (lo ≤ j) && decide (v ≠ d) && Tbl.wfFrom d (j + 1) t

/-- The canonical form. -/
def Tbl.wf {α : Type} [DecidableEq α] (d : α) (t : Tbl α) : Bool := Tbl.wfFrom d 0 t

/-- `n` bytes of a memory from address `a`, unlisted bytes reading as `d`. (DESIGN CHOICE: log entry 13) -/
def Mem.read (d : Byte) (m : Mem) (a : Nat) : Nat → List Byte
  | 0 => []
  | n + 1 => Tbl.get d m a :: Mem.read d m (a + 1) n

/-- Write bytes to a memory from address `a`. -/
def Mem.write (d : Byte) (m : Mem) (a : Nat) : List Byte → Mem
  | [] => m
  | b :: bs => Mem.write d (Tbl.set d m a b) (a + 1) bs

/-- Return `n` bytes from address `a` to their unlisted value. -/
def Mem.erase (m : Mem) (a n : Nat) : Mem :=
  m.filter fun c => decide (c.1 < a ∨ a + n ≤ c.1)

end Sys2Proof.Machine
end

