-- ==== Sys2Proof/Machine/Parts/Common.lean ====
section
/-! DEFINITION. Parts/Common.lean: modes, counters and the records several parts of State share. -/

namespace Sys2Proof.Machine

/-- The operating modes of R21, and the state with the Abutment unpowered (R48). -/
inductive Mode where
  | off
  | shelf
  | watch
  | keep
  | full
  | span
  | freeze
deriving DecidableEq, Repr

/-- A counter of R714: its value, and its sticky overflow or saturated flag. -/
structure Ctr where
  val : Nat := 0
  ovf : Bool := false
deriving DecidableEq, Repr

/-- A message of R152, header fields and payload, with the tag of R162 where AUTH is set. -/
structure Msg where
  typ : Nat
  auth : Bool
  replayed : Bool
  loss : Bool
  session : Nat
  code : Nat
  requestId : Nat
  seq : Nat
  ack : Nat
  status : Nat
  payload : List Byte
  tag : List Byte
deriving DecidableEq, Repr

/-- Where a message is sent (R151): transport, UDP address and port, and whether the transport lies on the Span partner
(R546). -/
structure Dest where
  transport : Transport
  addr : Nat
  port : Nat
  remote : Bool := false
deriving DecidableEq, Repr

/-- An event in the hold of R180. -/
structure EventRec where
  seq : Nat
  code : Nat
  requestId : Nat
  payload : List Byte
deriving DecidableEq, Repr

/-- An item of a record or stage: type code and bytes (R186, R203). -/
structure Item where
  typ : Nat
  data : List Byte
deriving DecidableEq, Repr

end Sys2Proof.Machine
end

