-- ==== Sys2Proof/Machine/Parts/Boot.lean ====
section
/-! DEFINITION. Parts/Boot.lean: Keystone, the boot flash and the committed configuration (R112 to R147). -/

namespace Sys2Proof.Machine

/-- BOOT_CAUSE (R140). -/
inductive BootCause where
  | powerOn
  | wake
  | watchWatchdog
  | controlWatchdog
  | restart
  | preloadFailure
  | debugReset
deriving DecidableEq, Repr

/-- STAGE of BOOT_STATUS (R140). -/
inductive BootStage where
  | keystone
  | watch
  | clocks
  | training
  | streaming
  | installing
  | forming
  | running
deriving DecidableEq, Repr

/-- The directory in force (R117). -/
structure Directory where
  sequence : Nat
  preferredB : Bool
  trial : Bool
  autoConfirm : Bool
  badA : Bool
  badB : Bool
  trialLimit : Nat
  baseline : Nat
  /-- ATTEMPTS bytes already programmed to 0x00. -/
  attempts : Nat
  /-- The copy that holds it: 0, 1. -/
  copy : Nat
deriving DecidableEq, Repr

/-- A committed configuration record as the module knows it (R125, R191): its header, preamble and items. -/
structure Record where
  sequence : Nat
  stageId : Nat := 0
  requestId : Nat := 0
  epoch : Nat := 0
  items : List Item := []
  /-- The record has taken effect: its epoch was reached while it was pending. -/
  effective : Bool := false
deriving DecidableEq, Repr

/-- Boot state. -/
structure Boot where
  bootCount : Nat := 0
  cause : BootCause := .powerOn
  bankB : Bool := false
  trial : Bool := false
  fallback : Bool := false
  recovery : Bool := false
  stage : BootStage := .keystone
  dir : Option Directory := none
  /-- Keystone has read the directory in this run. -/
  dirRead : Bool := false
  /-- Banks Keystone has tried and failed in this run: false A, true B. -/
  failed : List Bool := []
  /-- Keystone is running: the bank whose watch segment is loading. -/
  loading : Option Bool := none
  keystoneAt : Nat := 0
  forwardingReady : Bool := false
  /-- Active baseline (R197, R740). -/
  baseline : Nat := 1
  /-- Watch firmware started, base section not yet applied. -/
  awaitConfig : Bool := false
  controlUp : Bool := false
  preloaded : Bool := false
  version : Nat := 0
  /-- Instant the watch firmware started, for AUTO_CONFIRM (R124). -/
  watchAt : Nat := 0
  /-- CONFIG_SLOT in use (R140). -/
  slot : Option Nat := none
  /-- The newest record is pending under R193: its slot. -/
  held : Option Nat := none
  /-- Slots whose base section has been tried in this run, and whether the choice of a record has ended (R125, R126). -/
  tried : List Nat := []
  chosen : Bool := false
  /-- The base section to apply was the pending record's, the other one having failed (R193). -/
  early : Bool := false
  /-- The records of the two slots as the module has built or read them (R125, R191). -/
  slot0 : Option Record := none
  slot1 : Option Record := none
  /-- Sections streamed in the present climb (R128): keep, full. -/
  streamedKeep : Bool := false
  streamedFull : Bool := false
  /-- The site label (R749). -/
  label : List Byte := List.replicate 64 0
deriving DecidableEq, Repr

end Sys2Proof.Machine
end

