-- ==== Sys2Proof/Machine/Parts/Causeway.lean ====
section
/-! DEFINITION. Parts/Causeway.lean: the Causeway links (R329 to R367). -/

namespace Sys2Proof.Machine

/-- Link states (R357). -/
inductive CwState where
  | off
  | train
  | init
  | up
  | hold
deriving DecidableEq, Repr

/-- A transmitter's line code (R270 to R274, R336): the last 58 scrambled bits, newest first; the run of identical levels;
payload symbols sent in the present block; and message bits that wait for a codeword. -/
structure LineTx where
  hist : List Bool := List.replicate 58 false
  level : Nat := 1
  run : Nat := 1
  sent : Nat := 0
  msg : List Bool := []
deriving DecidableEq, Repr

/-- A partner's INIT (R334). -/
structure PeerInit where
  mode : Nat
  resumable : Bool
  incarnation : Nat
  peerIncarnation : Nat
  nextRx : Nat
  depth : Nat
  serial : Nat
  lane : Nat
  credits : List Nat
deriving DecidableEq, Repr

/-- A kept unit (R340, R344): its sequence number, the 32-byte flow units it holds, and when it was last sent with what timer
length in ns, stretched or not (R346). -/
structure Kept where
  seq : Nat
  units : List (List Byte)
  sentAt : Nat
  timerNs : Nat
  stretched : Bool
deriving DecidableEq, Repr

/-- A Causeway link. -/
structure CwLink where
  /-- Formed by CW_LINK_SET or by Span. -/
  formed : Bool := false
  joint : Bool := false
  depth : Nat := 1024
  replayUs : Nat := 1000
  limit : Nat := 8
  stretch : Nat := 4
  graceMs : Nat := 50
  downUs : Nat := 200
  quotaMiB : Nat := 64
  state : CwState := .off
  fecLock : Bool := false
  /-- Elapsed instant since which alignment or FEC lock has been lost, while it is. -/
  lostSince : Option Nat := none
  incarnation : Nat := 0
  peerIncarnation : Nat := 0
  peerSerial : Nat := 0
  peerLane : Nat := 0
  peerSeen : Bool := false
  /-- The partner's incarnation held before the loss (R351). -/
  resumeFrom : Option Nat := none
  peerCredits : List Nat := [0xFFFF, 0xFFFF, 0xFFFF, 0xFFFF]
  peerFreed : List Nat := [0, 0, 0, 0]
  sentUnits : List Nat := [0, 0, 0, 0]
  /-- Units freed of each channel, and as last sent (R349). -/
  freed : List Nat := [0, 0, 0, 0]
  freedSent : List Nat := [0, 0, 0, 0]
  txNext : Nat := 0
  /-- Kept units, oldest first. -/
  kept : List Kept := []
  /-- Sequence from which a replay runs, while it does (R343). -/
  replayFrom : Option Nat := none
  /-- The joint replay still owes its REPLAY_MARK. -/
  markDue : Bool := false
  /-- The sequence a NAK replay started from, whose further NAKs are ignored (R343). -/
  nakFrom : Option Nat := none
  replayRun : Nat := 0
  rxNext : Nat := 0
  /-- Sequence of the next DATA unit on a joint line (R334, R335). -/
  lineSeq : Nat := 0
  replayWait : Bool := false
  nakAt : Option Nat := none
  ackSent : Nat := 0
  ackSince : Option Nat := none
  creditSince : Option Nat := none
  peerStrikeAt : Option Nat := none
  /-- The packet in progress on each channel, while one is: time base of its first unit, and its bytes. -/
  partials : List (Option (Nat × List Byte)) := [none, none, none, none]
  /-- Packets that wait to be sent: channel, remaining bytes, whether its first unit has gone. -/
  txq : List (Nat × List Byte × Bool) := []
  /-- VC2 before VC3 at the next choice (R348). -/
  vc3Next : Bool := false
  /-- CTRL units that wait: 32 bytes each. -/
  ctrl : List (List Byte) := []
  /-- Packets in the hold store, oldest first (R353). -/
  hold : List (Nat × List Byte) := []
  /-- HOLD_QUOTA_MIB of the hold that runs (R359). -/
  holdQuota : Nat := 64
  /-- Grace period: end on the time base and on the elapsed clock; elapsed 0 while stopped by Freeze (R356). -/
  graceEnd : Nat := 0
  graceAt : Option Nat := none
  holdAt : Nat := 0
  lastCause : Nat := 0
  since : Nat := 0
  lastEvent : Option Nat := none
  unreported : Nat := 0
  lastMismatch : Option Nat := none
  /-- Elapsed instants since which a unit waits for the replay buffer or for credit, and ns counted short of a µs. -/
  stallSince : Option Nat := none
  creditStall : Option Nat := none
  stallNs : Nat := 0
  creditNs : Nat := 0
  /-- Consecutive uncorrectable codewords (R338). -/
  fecRun : Nat := 0
  tx : LineTx := {}
  /-- The nine 64-bit counters in CW_COUNTERS_GET order. -/
  wide : Tbl Ctr := []
  /-- The nine 32-bit counters in CW_COUNTERS_GET order. -/
  narrow : Tbl Ctr := []
deriving DecidableEq, Repr

/-- The Causeway. -/
structure Causeway where
  link : Tbl CwLink := []
deriving DecidableEq, Repr

end Sys2Proof.Machine
end

