-- ==== Sys2Proof/Machine/Parts/Class.lean ====
section
/-! DEFINITION. Parts/Class.lean: parser settings, search banks, meters, fragments and the slow path (R368 to R424). -/

namespace Sys2Proof.Machine

/-- A range checker (R380). -/
structure RangeChk where
  fld : Nat := 0
  low : Nat := 0
  high : Nat := 0
deriving DecidableEq, Repr

/-- Parser settings (R410 tables, R376). -/
structure ParseCfg where
  tpidExtra : Nat := 0
  /-- Kinds 1, 2, 3, 6 and 7: four ports each; 0 is unused. -/
  scada : List (List Nat) := [[502, 0, 0, 0], [20000, 0, 0, 0], [2404, 0, 0, 0], [0, 0, 0, 0], [0, 0, 0, 0]]
  ranges : List RangeChk := List.replicate 16 {}
deriving DecidableEq, Repr

/-- Classification settings of a port (R410 tables). -/
structure PortClass where
  list : Nat := 0
  defClass : Nat := 0
  defPcp : Nat := 0
  defVlan : Nat := 1
  punt : Bool := false
  slowHost : Bool := false
  pcpQueue : List Nat := [0, 0, 0, 0, 0, 0, 0, 0]
  meterMap : List Nat := List.replicate 16 0xFFFF
deriving DecidableEq, Repr

/-- A search entry (R381, R384, R409). -/
structure SEntry where
  value : Nat := 0
  mask : Nat := 0
  action : Nat := 0
  hits : Ctr := {}
  parityBad : Bool := false
deriving DecidableEq, Repr

/-- A search bank (R381, R383, R397). -/
structure Bank where
  profile : Nat := 0
  list : Nat := 0xFF
  rank : Nat := 0
  reserved : Bool := false
  entries : Tbl SEntry := []
  /-- Contents loaded for a pending commit, and the profile they have (R397). -/
  loaded : Option (Nat × Tbl SEntry) := none
deriving DecidableEq, Repr

/-- Settings of a meter (R410 tables). -/
structure MeterCfg where
  algo : Nat := 0
  aware : Bool := false
  redDrop : Bool := false
  lineBytes : Bool := false
  cir : Nat := 0
  pir : Nat := 0
  cbs : Nat := 0
  ebs : Nat := 0
deriving DecidableEq, Repr

/-- A meter (R387 to R390): its buckets in 10^-6 byte, and a change of rates or bursts that waits for a refill. -/
structure Meter where
  cfg : MeterCfg := {}
  next : Option MeterCfg := none
  tokC : Nat := 0
  tokE : Nat := 0
  greenPkts : Ctr := {}
  greenBytes : Ctr := {}
  yellowPkts : Ctr := {}
  yellowBytes : Ctr := {}
  redPkts : Ctr := {}
  redBytes : Ctr := {}
  redDrops : Ctr := {}
deriving DecidableEq, Repr

/-- A punt class (R405): tokens in 10^-9 frame. -/
structure PuntClass where
  rate : Nat := 1000
  burst : Nat := 64
  tokens : Nat := 64000000000
  punted : Ctr := {}
  dropped : Ctr := {}
  lastDropAt : Option Nat := none
  lastEvent : Option Nat := none
  unreported : Nat := 0
deriving DecidableEq, Repr

/-- What an egress copy is rewritten to (R428): next-hop MACs and the label operation. -/
structure Rewrite where
  dmac : Nat
  smac : Nat
  mplsOp : Nat
  label : Nat
deriving DecidableEq, Repr

/-- A forwarding result (R425 to R434). -/
inductive Decision where
  /-- Dropped, counted in the drop of this index in TABLE_STATUS_GET order. -/
  | drop (counter : Nat)
  /-- Punted with a reason in a punt class. -/
  | punt (reason cls : Nat)
  /-- To a port set, under an egress VLAN, with labels removed from the stack and a rewrite. -/
  | to (ports : Nat) (vlan : Nat) (pops : Nat) (rw : Option Rewrite)
deriving DecidableEq, Repr

/-- A follow entry (R400). -/
structure Follow where
  key : List Byte
  dec : Decision
  cls : Nat
  colour : Nat
  queue : Nat
  at0 : Nat
  bad : Bool := false
deriving DecidableEq, Repr

/-- A frame the control core holds (R407, R408). -/
structure HeldFrame where
  port : Nat
  reason : Nat
  bytes : List Byte
  key : List Byte
  /-- Fragment offset in bytes, payload length, more fragments. -/
  offset : Nat
  size : Nat
  more : Bool
  since : Nat
deriving DecidableEq, Repr

/-- Classification state. -/
structure Cls where
  parse : ParseCfg := {}
  port : Tbl PortClass := []
  bank : Tbl Bank := []
  meter : Tbl Meter := []
  punt : Tbl PuntClass := []
  fragHoldMs : Nat := 20
  /-- The core's punt queue and held fragments, oldest first. -/
  held : List HeldFrame := []
  /-- Follow entries by set (R401). -/
  follow : Tbl (List Follow) := []
  followInstalled : Ctr := {}
  followHits : Ctr := {}
  followMisses : Ctr := {}
  followFull : Ctr := {}
  reinjected : Ctr := {}
  holdExpired : Ctr := {}
  puntQueueFull : Ctr := {}
  scadaUnparsed : Ctr := {}
  /-- Misses of each list (R386). -/
  misses : Tbl Nat := []
  lastFragFull : Option Nat := none
  unreportedFragFull : Nat := 0
  parityEvents : Nat := 0
  /-- Loading of a search image runs (R397). -/
  loading : Bool := false
  lastMeterRefill : Option Nat := none
  lastPuntRefill : Option Nat := none
deriving DecidableEq, Repr

end Sys2Proof.Machine
end

