-- ==== Sys2Proof/Machine/Parts/Count.lean ====
section
/-! DEFINITION. Parts/Count.lean: counters, snapshots, bandwidth, monitors, strike tally, the event log and its
archive (R714 to R739). -/

namespace Sys2Proof.Machine

/-- Counter set 1 of one port (R731). -/
structure PortCtrs where
  rxFrames : Ctr := {}
  rxBytes : Ctr := {}
  txFrames : Ctr := {}
  txBytes : Ctr := {}
  runts : Ctr := {}
  oversize : Ctr := {}
  macControl : Ctr := {}
  linkDownDrops : Ctr := {}
  modeDrops : Ctr := {}
  egressOversize : Ctr := {}
  fcsErrors : Ctr := {}
  strikeFcs : Ctr := {}
  lastStrikeId : Nat := 0
deriving DecidableEq, Repr

/-- Counter set 2 of one transport (R731). -/
structure TransportCtrs where
  rxMessages : Ctr := {}
  txMessages : Ctr := {}
  framing : Ctr := {}
  auth : Ctr := {}
  rate : Ctr := {}
  other : Ctr := {}
deriving DecidableEq, Repr

/-- A datapath event counter (R721). -/
structure EvtCtr where
  event : Nat := 0
  scopeKind : Nat := 0
  scopeIndex : Nat := 0
  value : Ctr := {}
deriving DecidableEq, Repr

/-- A stored snapshot (R719): COUNTERS_GET sets 1 to 3. -/
structure StoredSnap where
  id : Nat
  snapAt : Nat
  epoch : Nat
  lost : Bool
  ports : Tbl PortCtrs
  transports : Tbl TransportCtrs
  events : Tbl EvtCtr
deriving DecidableEq, Repr

/-- Bandwidth windows of one port (R722). -/
structure BwPort where
  rxNow : Nat := 0
  txNow : Nat := 0
  lastStart : Nat := 0
  rxLast : Nat := 0
  txLast : Nat := 0
  stepped : Bool := false
  rxPeak : Nat := 0
  txPeak : Nat := 0
  rxPeakAt : Nat := 0
  txPeakAt : Nat := 0
deriving DecidableEq, Repr

/-- A health monitor (R724). -/
structure Monitor where
  kind : Nat := 0
  index : Nat := 0
  below : Bool := false
  excludeStrike : Bool := false
  events : Bool := false
  windowMs : Nat := 0
  high : Int := 0
  low : Int := 0
  tripped : Bool := false
  value : Int := 0
  evalAt : Nat := 0
  trips : Ctr := {}
  clears : Ctr := {}
  skipped : Ctr := {}
  /-- Start of the window in progress and the counter value then (source kind 1). -/
  windowStart : Nat := 0
  /-- none: no window has started yet. -/
  startValue : Option Nat := none
  stepped : Bool := false
deriving DecidableEq, Repr

/-- The tally of one strike window (R727). -/
structure Tally where
  strikeId : Nat
  opened : Bool
  openedAt : Nat
  endsAt : Nat
  kinds : Tbl Nat
deriving DecidableEq, Repr

/-- A retention log entry (R728). -/
structure LogEntry where
  secLo : Nat := 0
  nsQ : Nat := 0
  code : Nat := 0
  seq : Nat := 0
  data : List Byte := []
deriving DecidableEq, Repr

/-- An archive record (R729). -/
structure ArchRec where
  entry : LogEntry
  tb : Nat
  bootCount : Nat
  plen : Nat
  fromRetention : Bool
  payload : List Byte
deriving DecidableEq, Repr

/-- The schedule of stored snapshots (R720). -/
structure SnapSched where
  timer : Nat
deriving DecidableEq, Repr

/-- Counters, monitors and logs. -/
structure Count where
  ports : Tbl PortCtrs := []
  transports : Tbl TransportCtrs := []
  events : Tbl EvtCtr := []
  epoch : Nat := 0
  snaps : List StoredSnap := []
  nextSnapId : Nat := 1
  sched : Option SnapSched := none
  skipped : Nat := 0
  lastSkipReport : Option Nat := none
  bwWindowUs : Nat := 1000000
  /-- Start of the bandwidth window in progress, or of the next one (R722, R723). -/
  bwStart : Nat := 0
  bw : Tbl BwPort := []
  monitors : Tbl Monitor := []
  /-- Newest first, at most 16. -/
  tally : List Tally := []
  /-- Retention ring: entries by index 0 to 1,023. -/
  log : Tbl LogEntry := []
  logHead : Nat := 0
  logWraps : Nat := 0
  /-- Archive records by number modulo 4,194,304, and the next record's number. -/
  archive : Tbl (Option ArchRec) := []
  archNext : Nat := 0
  /-- Sets 1 to 3 lost lines since their restart (R589). -/
  lost : Bool := false
deriving DecidableEq, Repr

end Sys2Proof.Machine
end

