-- ==== Sys2Proof/Machine/Parts/Dbg.lean ====
section
/-! DEFINITION. Parts/Dbg.lean: debug access, core performance counters and frame capture (R685 to R702). -/

namespace Sys2Proof.Machine

/-- A capture record (R702 table): FLAGS bits EGRESS, DAMAGED and STRIKE. -/
structure CapRec where
  seq : Nat
  at0 : Nat
  port : Nat
  egress : Bool
  damaged : Bool
  strike : Bool
  length : Nat
  cls : Nat
  queue : Nat
  bytes : List Byte
deriving DecidableEq, Repr

/-- CAPTURE_STATE (CORE_STATUS_GET table). -/
inductive CapState where
  | none
  | running
  | stopped
deriving DecidableEq, Repr

/-- The frame capture. -/
structure Capture where
  state : CapState := .none
  port : Nat := 0
  egress : Bool := false
  stopWhenFull : Bool := false
  classMask : Nat := 0
  snapLen : Nat := 64
  nextSeq : Nat := 0
  missed : Nat := 0
  /-- Records held, oldest first. -/
  recs : List CapRec := []
deriving DecidableEq, Repr

/-- What the TAP's instruction register selects (R685). -/
inductive TapIr where
  | extest
  | idcode
  | sample
  | clamp
  | highz
  | dbg
  | bypass
deriving DecidableEq, Repr

/-- A performance counter (R695): event, task mask, MODE 0 off, 1 count, 2 sample, PERIOD, and the 64-bit value that its 48 bits
and the firmware's extension make (R698). -/
structure PerfCtr where
  event : Nat := 0
  mask : Nat := 0
  mode : Nat := 0
  period : Nat := 0
  value : Nat := 0
deriving DecidableEq, Repr

/-- A sample of R699. -/
structure PerfSample where
  seq : Nat
  at0 : Nat
  counter : Nat
  task : Nat
  pc : Nat
deriving DecidableEq, Repr

/-- What a core holds for the debugger and for performance (R691 to R700). -/
structure CoreDbg where
  halted : Bool := false
  /-- A halt waits for the end of a locked sequence: the sequence, and the elapsed instant of the request (R692). -/
  pend : Option (LockedSeq × Nat) := none
  /-- The sequence a forced halt cut through, to be reported on resume (R692). -/
  broken : Option LockedSeq := none
  /-- Core registers that the debugger has written since the core halted, by address. -/
  regs : Tbl Nat := []
  perf : Tbl PerfCtr := []
  /-- Samples held, oldest first. -/
  samples : List PerfSample := []
  sampleSeq : Nat := 0
  samplesLost : Nat := 0
  kmpRequests : Nat := 0
deriving DecidableEq, Repr

/-- A message that a transport holds while the core that serves KMP is halted (R694). -/
inductive HeldMsg where
  | req (code : Nat) (q : Req)
  | raw (t : Nat) (d : Dest) (bytes : List Byte)
deriving DecidableEq, Repr

/-- The TAP, debug access and the two cores. -/
structure Dbg where
  tap : TapIr := .idcode
  /-- What the boundary-scan register holds for the lands under SAMPLE/PRELOAD, EXTEST and CLAMP. -/
  boundary : List Bool := []
  /-- Levels sampled at the lands. -/
  sampled : List Bool := []
  /-- The result of the last debug operation (R689): DONE, ERROR, ADDRESS, DATA. -/
  done : Bool := false
  error : Bool := false
  address : W32 := 0
  data : W32 := 0
  opened : Bool := false
  /-- The end of debug access: in ns of the time base, and on the elapsed clock (R688). -/
  untilTb : Nat := 0
  endsAt : Nat := 0
  denied : Nat := 0
  lockBroken : Bool := false
  lockCount : Nat := 0
  control : CoreDbg := {}
  watch : CoreDbg := {}
  /-- Words of shared SRAM that the debugger has written since the control core halted. -/
  sram : Tbl Nat := []
  /-- The channel whose mode-register write a forced halt left unfinished (R693). -/
  modeWrite : Option Nat := none
  /-- Messages that transports hold while their core is halted, oldest first (R694). -/
  held : List HeldMsg := []
deriving DecidableEq, Repr

end Sys2Proof.Machine
end

