-- ==== Sys2Proof/Machine/Parts/Digest.lean ====
section
/-! DEFINITION. Parts/Digest.lean: key slots and the digest engine (R608 to R635). -/

namespace Sys2Proof.Machine

/-- STATE of a key slot (R627 table). -/
inductive KeyState where
  | empty
  | loaded
  | fused
  | fuseFault
deriving DecidableEq, Repr

/-- A key slot of R617. The inner and outer states are held as the key they are computed from. -/
structure KeySlot where
  state : KeyState := .empty
  key : List Byte := []
  usage : Nat := 0
  /-- SOURCE: 0 record in force, 1 command not yet committed, 2 fuses. -/
  source : Nat := 0
  generation : Nat := 0
  keyId : List Byte := []
  /-- Seconds of the time base, 0 when unknown. -/
  loadedAt : Nat := 0
deriving DecidableEq, Repr

/-- The digest engine. -/
structure Digest where
  slots : Tbl KeySlot := []
  compares : BitVec 16 := 0
  fails : BitVec 16 := 0
  katOk : Bool := false
  /-- Slots 1 to 15 that held a key when the present Keystone run began (R623, R630). -/
  hadKeys : List Nat := []
  slot0Ok : Bool := false
deriving DecidableEq, Repr

end Sys2Proof.Machine
end

