-- ==== Sys2Proof/Machine/Parts/Dram.lean ====
section
/-! DEFINITION. Parts/Dram.lean: the DRAM channels, policies, training results and error log (R575 to R607). -/

namespace Sys2Proof.Machine

/-- STATE of a channel (R599 table). -/
inductive ChState where
  | off
  | training
  | ready
  | retraining
  | frozen
deriving DecidableEq, Repr

/-- Settings of one direction of a byte lane (R593). -/
structure Eye where
  delay : Nat := 0
  width : Nat := 0
  vref : Nat := 0
  height : Nat := 0
deriving DecidableEq, Repr

/-- Settings of a byte lane. -/
structure LaneEyes where
  read : Eye := {}
  write : Eye := {}
deriving DecidableEq, Repr

/-- The last training or retrain of a channel (R594, DRAM_TRAIN_GET). -/
structure TrainResult where
  pass : Bool
  tempC : Int
  retrain : Bool
  trainedAt : Nat
  lanes : List LaneEyes
deriving DecidableEq, Repr

/-- A retrain in progress: points still to run, FORCE, slices at 1 ms intervals whatever the queues hold (R595, R596). -/
structure Retrain where
  left : Nat
  force : Bool
  everyMs : Bool
  lastSlice : Nat
deriving DecidableEq, Repr

/-- A channel (R575). -/
structure Channel where
  state : ChState := .off
  tempC : Int := 25
  trainTempC : Int := 25
  retrainDue : Bool := false
  dueSince : Nat := 0
  withdrawn : Bool := false
  corrected : Ctr := {}
  uncorrectable : Ctr := {}
  caAlerts : Ctr := {}
  caFailed : Ctr := {}
  retrains : Ctr := {}
  scrubPasses : Ctr := {}
  train : Option TrainResult := none
  retrain : Option Retrain := none
  repeatAt : Option Nat := none
  lastRefresh : Nat := 0
  postponed : Nat := 0
  scrubNext : Nat := 0
  /-- Stopped by an alert, and re-issuing its history after one (R585). -/
  stopped : Bool := false
  reissuing : Bool := false
  /-- Lines known to stay uncorrectable, with the beats in error. -/
  badLines : Tbl Nat := []
  lastCorrectedLog : Option Nat := none
  unreportedCorrected : Nat := 0
  uncorrSeen : Bool := false
  caFailedSeen : Bool := false
  /-- The copy of the trie is being rebuilt (R589). -/
  rebuild : Bool := false
deriving DecidableEq, Repr

/-- Policies of a region (R587): true for Freeze. -/
structure Policy where
  dataFreeze : Bool := false
  caFreeze : Bool := true
deriving DecidableEq, Repr

/-- A DRAM error log entry (R599 table). -/
structure DramLog where
  seq : Nat
  tb : Nat
  channel : Nat
  region : Nat
  kind : Nat
  freezePolicy : Bool
  repaired : Nat
  source : Nat
  beats : Nat
  offset : Nat
deriving DecidableEq, Repr

/-- A line waiting for its repair (R589). -/
structure Repair where
  channel : Nat
  region : Nat
  offset : Nat
  source : Nat
  beats : Nat
deriving DecidableEq, Repr

/-- The DRAM subsystem. -/
structure Dram where
  ch : Tbl Channel := []
  policies : Tbl Policy := []
  retrainWaitS : Nat := 600
  /-- Newest last, at most 64. -/
  errLog : List DramLog := []
  errSeq : Nat := 0
  repairs : List Repair := []
  /-- Archive records in lines read back bad (R589). -/
  archBad : List Nat := []
deriving DecidableEq, Repr

end Sys2Proof.Machine
end

