-- ==== Sys2Proof/Machine/Parts/Fio.lean ====
section
/-! DEFINITION. Parts/Fio.lean: field pins, GPIO pins and the housekeeping ADC (R636 to R677). -/

namespace Sys2Proof.Machine

/-- A pulse of a field pin (R647): its level, instants, timer, and whether it has started. -/
structure Pulse where
  level : Bool
  start : Nat
  widthUs : Nat
  timer : Nat
  active : Bool
deriving DecidableEq, Repr

/-- A field pin (R639 to R647). -/
structure FioPin where
  mode : Nat := 0
  invert : Bool := false
  edgeEvents : Bool := false
  retry : Bool := false
  initOn : Bool := false
  onMv : Nat := 9000
  offMv : Nat := 5000
  debounceMs : Nat := 10
  /-- The voltage on the pin, and the level sensed from it. -/
  mv : Nat := 0
  raw : Bool := false
  /-- The level last counted, and the time base and elapsed instant of a change that has not counted yet. -/
  settled : Bool := false
  change : Option (Nat × Nat) := none
  edges : Ctr := {}
  lastEvent : Option Nat := none
  newEdges : Nat := 0
  /-- Elapsed instant at which the cleaning pulse of a wetted input ends (R640). -/
  cleanUntil : Nat := 0
  /-- Level of the previous wetting pulse in Shelf (R641). -/
  wetLevel : Option Bool := none
  commanded : Bool := false
  /-- The output conducts. -/
  on : Bool := false
  latched : Bool := false
  overcurrent : Bool := false
  conflict : Bool := false
  conflictSticky : Bool := false
  /-- Elapsed instant at which the output entered limit, while it is in it. -/
  limitSince : Option Nat := none
  /-- First latch instant, the number of the last retry instant used, and the elapsed instant of a retry not yet recovered. -/
  firstLatch : Nat := 0
  retryNum : Nat := 0
  retryAt : Option Nat := none
  /-- What the readback test has seen since when: agreement or not (R646), and the instant it resumes. -/
  test : Option (Bool × Nat) := none
  quietUntil : Nat := 0
  pulse : Option Pulse := none
  latches : Ctr := {}
  retries : Ctr := {}
  conflicts : Ctr := {}
  /-- Time base of the last edge or fault. -/
  lastChange : Nat := 0
deriving DecidableEq, Repr

/-- A GPIO pin (GPIO_CONFIG_SET table). -/
structure GpioPin where
  alt : Bool := false
  mode : Nat := 0
  pull : Nat := 0
  initHigh : Bool := false
deriving DecidableEq, Repr

/-- A channel of the ADC (R655 to R660). -/
structure AdcChan where
  mode : Nat := 0
  limitEvents : Bool := false
  beta : Nat := 3435
  r25 : Nat := 10000
  low : Int := -2147483648
  high : Int := 2147483647
  hyst : Nat := 0
  status : Nat := 0
  rangeStep : Bool := false
  highRange : Bool := false
  belowLow : Bool := false
  aboveHigh : Bool := false
  value : Int := 0
  at0 : Nat := 0
  faults : Ctr := {}
  lastEvent : Option Nat := none
  changes : Nat := 0
deriving DecidableEq, Repr

/-- Field I/O, GPIO and the ADC. -/
structure FieldIo where
  /-- The pins are held as R637 states: no base section has been applied since the Keystone run, recovery or Shelf. -/
  released : Bool := true
  fio : Tbl FioPin := []
  gpio : Tbl GpioPin := []
  /-- The data register (R649). -/
  data : Nat := 0
  /-- Levels of TOUT0 to TOUT7 while their timers are held by KMP (R654). -/
  tout : Nat := 0
  /-- Levels that the outside gives the GPIO pins, as last seen. -/
  ext : Nat := 0
  rtsLeadMs : Nat := 50
  /-- Bank straps (R648): true for 3.3 V. -/
  bankA33 : Bool := false
  bankB33 : Bool := false
  /-- PRTAD1 and PRTAD0, as sampled at the Abutment start (R760). -/
  prtad : Nat := 0
  /-- Messages that UART0 holds while CTS is not asserted (R653), oldest first. -/
  ctsHeld : List (Dest × Msg) := []
  adc : Tbl AdcChan := []
  /-- The previous VIN sample in mV, once there is one (R656). -/
  vinPrev : Option Nat := none
  /-- The capture's timer (R661). -/
  capture : Option Nat := none
deriving DecidableEq, Repr

end Sys2Proof.Machine
end

