-- ==== Sys2Proof/Machine/Parts/Fwd.lean ====
section
/-! DEFINITION. Parts/Fwd.lean: the forwarding tables and learning (R425 to R466). -/

namespace Sys2Proof.Machine

/-- A VLAN entry (R429). -/
structure VlanEntry where
  valid : Bool := false
  learn : Bool := false
  routed : Bool := false
  flood : Bool := false
  members : Nat := 0
  untagged : Nat := 0
  bad : Bool := false
deriving DecidableEq, Repr

/-- A router MAC entry (R429): VLAN 0xFFFF is unused. -/
structure RouterMac where
  mac : Nat := 0
  vlan : Nat := 0xFFFF
  bad : Bool := false
deriving DecidableEq, Repr

/-- A bridge entry (R429, R430): RESULT with KIND in bit 31. -/
structure BEntry where
  vlan : Nat
  mac : Nat
  static : Bool
  keep : Bool
  image : Bool
  result : Nat
  lastSeen : Nat
  bad : Bool
deriving DecidableEq, Repr

/-- A host entry (R429): it lies at its first slot. -/
structure HEntry where
  af : Nat
  addr : Nat
  ref : Nat
  keep : Bool
  bad : Bool
deriving DecidableEq, Repr

/-- A label entry (R432). -/
structure LEntry where
  op : Nat
  ref : Nat
  keep : Bool
  bad : Bool
deriving DecidableEq, Repr

/-- A route (R429, R435). -/
structure Route where
  af : Nat
  len : Nat
  pfx : Nat
  ref : Nat
  keep : Bool
deriving DecidableEq, Repr

/-- A next hop (R429, R433). -/
structure NextHop where
  kind : Nat
  port : Nat
  vlan : Nat
  dmac : Nat
  smacIndex : Nat
  mplsOp : Nat
  label : Nat
  portSet : Nat
  keep : Bool
  bad : Bool
deriving DecidableEq, Repr

/-- An ECMP group (R434). -/
structure Ecmp where
  members : List Nat
  keep : Bool
  bad : Bool
deriving DecidableEq, Repr

/-- A port set. -/
structure PortSet where
  set : Nat
  keep : Bool
  bad : Bool
deriving DecidableEq, Repr

/-- The tables one generation serves (R454). -/
structure Tables where
  bridge : Tbl (Option BEntry) := []
  host : Tbl (Option HEntry) := []
  label : Tbl (Option LEntry) := []
  route : List Route := []
  nexthop : Tbl (Option NextHop) := []
  ecmp : Tbl (Option Ecmp) := []
  portset : Tbl (Option PortSet) := []
  /-- Route root slots marked BAD (R441). -/
  badRoots : List Nat := []
deriving DecidableEq, Repr

/-- Learning settings of a port. -/
structure PortLearn where
  learn : Bool := true
  flushOnDown : Bool := true
  limit : Nat := 0
deriving DecidableEq, Repr

/-- An open learn window (R444): its key, its start, its notifications with their stamps. -/
structure LearnWindow where
  mac : Nat
  vlan : Nat
  start : Nat
  notes : List (Nat × Nat)
deriving DecidableEq, Repr

/-- A posted result (R444, R445): the key, the start of its window, and its notifications with their stamps. -/
structure LearnResult where
  mac : Nat
  vlan : Nat
  start : Nat
  notes : List (Nat × Nat)
deriving DecidableEq, Repr

/-- State of a protection group (R439, R440). -/
structure Group where
  corrected : Ctr := {}
  uncorrectable : Ctr := {}
  lastEvent : Option Nat := none
  unreported : Nat := 0
deriving DecidableEq, Repr

/-- Report state of an event that is limited in rate. -/
structure Report where
  last : Option Nat := none
  count : Nat := 0
deriving DecidableEq, Repr

/-- Forwarding state. -/
structure Fwd where
  protect : Nat := 0xFF
  /-- PROTECT before its last change, and the elapsed instant of that change (R457). -/
  protectOld : Nat := 0xFF
  protectAt : Option Nat := none
  puntTtl : Bool := false
  labelBase : Nat := 16
  ageS : Nat := 300
  seed : Nat := 0
  router : List RouterMac := List.replicate 16 {}
  vlan : Tbl VlanEntry := []
  learn : Tbl PortLearn := []
  live : Tables := {}
  /-- Tables of the pending generation once written (R454), and the bridge slots it has taken (R463). -/
  pend : Option Tables := none
  pendSlots : List Nat := []
  gen : Bool := false
  loading : Bool := false
  windows : List LearnWindow := []
  results : List LearnResult := []
  /-- Time base of the last aging sweep (R556). -/
  sweepAt : Nat := 0
  queueFullSeen : Bool := false
  contestsWrap : Nat := 0
  /-- The eleven learning counters in TABLE_STATUS_GET order. -/
  learnCtrs : Tbl Ctr := []
  /-- The eleven drop counters in TABLE_STATUS_GET order. -/
  drops : Tbl Ctr := []
  groups : Tbl Group := []
  uncorrSeen : BitVec 8 := 0
  corrSeen : BitVec 8 := 0
  contestReport : Report := {}
  refused : Tbl Report := []
  /-- Report state of static conflicts by bridge slot. -/
  conflicts : Tbl Report := []
deriving DecidableEq, Repr

end Sys2Proof.Machine
end

