-- ==== Sys2Proof/Machine/Parts/Host.lean ====
section
/-! DEFINITION. Parts/Host.lean: the host window's own registers, rings and buffer (R214 to R249). -/

namespace Sys2Proof.Machine

/-- ACCESS_ERR (R225, R245). -/
structure AccessErr where
  offset : BitVec 16 := 0
  kind : BitVec 3 := 0
  path : Bool := false
  write : Bool := false
  width : BitVec 2 := 0
  overflow : Bool := false
  count : BitVec 8 := 0
deriving DecidableEq, Repr

/-- The request and response rings (R228 to R237). -/
structure Rings where
  enable : Bool := false
  locBuffer : Bool := false
  ownerSpi : Bool := false
  fault : BitVec 2 := 0
  reqBase : BitVec 64 := 0
  rspBase : BitVec 64 := 0
  reqLog2 : BitVec 4 := 1
  rspLog2 : BitVec 4 := 1
  reqTail : BitVec 16 := 0
  reqHead : BitVec 16 := 0
  rspHead : BitVec 16 := 0
  rspTail : BitVec 16 := 0
  /-- Responses and events waiting for room in the response ring (R231, R232). -/
  waiting : List Msg := []
deriving DecidableEq, Repr

/-- The time snapshot registers (R238, R245). -/
structure TimeSnap where
  ns : Nat := 0
  sec : Nat := 0
  count : BitVec 8 := 0
  cause : BitVec 2 := 0
  quality : BitVec 3 := 0
  armPps : Bool := false
deriving DecidableEq, Repr

/-- The host window's own state. -/
structure HostWin where
  err : AccessErr := {}
  intCause : BitVec 10 := 0
  /-- Elapsed instant at which cause bits were last set, and the bits set at it (R227). -/
  causeAt : Nat := 0
  causeNow : BitVec 10 := 0
  intMask : BitVec 10 := 0
  rings : Rings := {}
  snap : TimeSnap := {}
  driverUp : Bool := false
  quiesceReq : Bool := false
  hostFree : BitVec 24 := 0
  fwUp : Bool := false
  quiesced : Bool := false
  fwStarts : BitVec 16 := 0
  hostWrites : BitVec 16 := 0
  scratch0 : W32 := 0
  scratch1 : W32 := 0
  scratch2 : W32 := 0
  scratch3 : W32 := 0
  /-- Window buffer, 16 KiB from 0x4000; unlisted bytes read 0. -/
  buffer : Mem := []
  /-- The one entry of the MSI-X table, its mask bit, and its pending bit (R215; PCI Express Base 4.0). -/
  msixAddrLo : W32 := 0
  msixAddrHi : W32 := 0
  msixData : W32 := 0
  msixMask : Bool := true
  msixPending : Bool := false
  /-- Interrupts enabled in configuration space: 0 INTA, 1 MSI, 2 MSI-X; and Bus Master Enable (R226, R236). -/
  msiMode : Nat := 0
  busMaster : Bool := false
  linkUp : Bool := false
  linkWidth : Nat := 0
  linkRate : Nat := 0
  perst : Bool := false
  /-- Writes in the inbound buffer that may not be visible to the control core yet, by path, oldest first, at most 8 (R239). -/
  inbound : List (HostPath × Nat × List Byte) := []
  /-- Block selectors per path: lane block and Causeway block (R288, R358). -/
  laneSelPcie : Nat := 0
  laneSelSpi : Nat := 0
  cwSelPcie : Nat := 0
  cwSelSpi : Nat := 0
deriving DecidableEq, Repr

end Sys2Proof.Machine
end

