-- ==== Sys2Proof/Machine/Parts/Kmp.lean ====
section
/-! DEFINITION. Parts/Kmp.lean: the mailbox state of R148 to R213. -/

namespace Sys2Proof.Machine

/-- A duplicate cache entry of R173: the request's identity and content, and its response. -/
structure CacheEntry where
  requestId : Nat
  code : Nat
  request : List Byte
  status : Nat
  response : List Byte
  builtAt : Nat
deriving DecidableEq, Repr

/-- A session of R155. (DEDUCED: log entry 74) -/
structure Session where
  number : Nat
  controlling : Bool
  keySlot : Option Nat
  /-- The states of the slot it was opened under (R633), held as the key they come from. -/
  key : List Byte
  salt : List Byte
  /-- H of R167. -/
  h : Nat
  /-- Acknowledgement point of a read-only session (R180). -/
  ackPoint : Nat
  mask : Nat
  window : Nat
  retryMs : Nat
  dest : Dest
  lastRequestAt : Nat
  /-- Duplicate cache of a read-only session, newest first (R173). -/
  cache : List CacheEntry
  /-- Next event sequence to send (R181). -/
  nextSend : Nat
  /-- Outstanding events, oldest first: sequence and the instant each was last sent (R182). -/
  sent : List (Nat × Nat)
  /-- The present retry wait in ms (R182). -/
  waitMs : Nat
  /-- TARGET of SPAN_TARGET_SET: 0 local, 1 partner (R547). -/
  target : Nat
deriving DecidableEq, Repr

/-- A request that has passed step 6 of R167 and waits (R171). -/
structure Waiting where
  code : Nat
  req : Req
  /-- H before this request (R196 table, LAST_SEQ). -/
  hBefore : Nat
  /-- The Span leader has sent it for execution on this member (R547). -/
  run : Bool := false
deriving DecidableEq, Repr

/-- Verdict on a stage item (R188). -/
inductive ItemState where
  | incomplete
  | verified
  | failed
  | checkFailed
deriving DecidableEq, Repr

/-- A stage item: its type, its declared length, the bytes written so far, the key its first byte met (R632). -/
structure StageItem where
  typ : Nat
  length : Nat
  data : List Byte
  state : ItemState
  key : Option (List Byte)
deriving DecidableEq, Repr

/-- State of the stage (R196 table). -/
inductive StagePhase where
  | opened
  | verified
  | building
deriving DecidableEq, Repr

/-- The stage of R186. -/
structure Stage where
  id : Nat
  base : Nat
  items : List StageItem
  phase : StagePhase
deriving DecidableEq, Repr

/-- A commit being built or pending (R190 to R192): epoch in ns of the time base, 0 for completion. -/
structure Commit where
  stageId : Nat
  requestId : Nat
  sequence : Nat
  epoch : Nat
  slot : Nat
  items : List Item
  /-- Order of acceptance among scheduled epochs (R96). -/
  order : Nat
  /-- EPOCH was 0: the commit takes effect on completion of the record, whatever the quality (R192). -/
  onCompletion : Bool := false
deriving DecidableEq, Repr

/-- A changed transport waiting for its first authenticated request (R201). -/
structure Revert where
  transport : Transport
  oldBaud : Nat
  oldPort : Nat
  since : Nat
deriving DecidableEq, Repr

/-- Report state of EV_AUTH_FAIL and of untagged E_NO_SESSION answers on one transport (R164, R169). -/
structure TransportRates where
  authFails : Nat := 0
  lastAuthReport : Option Nat := none
  lastNoSession : Option Nat := none
  lastAuthOk : Option Nat := none
deriving DecidableEq, Repr

/-- The mailbox. -/
structure Kmp where
  sessions : List Session := []
  nextSession : Nat := 1
  opened : Nat := 0
  ctlCache : List CacheEntry := []
  openCache : List CacheEntry := []
  recoveryCache : List CacheEntry := []
  ctlAckPoint : Nat := 0
  ctlLastRequestId : Nat := 0
  waiting : List Waiting := []
  /-- The executing request is with the Span partner (R547). -/
  relayed : Bool := false
  eventSeq : Nat := 0
  hold : List EventRec := []
  stage : Option Stage := none
  building : Option Commit := none
  /-- The record being built is complete on this member, and on the Span partner (R554). -/
  built : Bool := false
  partnerBuilt : Bool := false
  committed : Option Commit := none
  acceptCount : Nat := 0
  /-- H of the session before the request that is executing (LAST_SEQ). -/
  hBefore : Nat := 0
  uart0Baud : Nat := 9600
  uart1Baud : Nat := 115200
  udpPort : Nat := 47410
  authRequired : Nat := 5
  rxGapMs : Nat := 500
  reverts : List Revert := []
  rates : Tbl TransportRates := []
deriving DecidableEq, Repr

end Sys2Proof.Machine
end

