-- ==== Sys2Proof/Machine/Parts/Lanes.lean ====
section
/-! DEFINITION. Parts/Lanes.lean: the 144 serial lanes (R250 to R295). -/

namespace Sys2Proof.Machine

/-- Owner of a lane (R251). -/
inductive LaneOwner where
  | none
  | ethernet
  | causeway
  | test
deriving DecidableEq, Repr

/-- State of half a lane. -/
inductive Half where
  | off
  | sleep
  | active
deriving DecidableEq, Repr

/-- Causeway alignment (R276). -/
inductive CwAlign where
  | idle
  | hunt
  | check
  | locked
deriving DecidableEq, Repr

/-- Settings of LANE_CONFIG_SET (R282 table). -/
structure LaneCfg where
  txInvert : Bool := false
  rxInvert : Bool := false
  ffeDefault : Bool := true
  ctleFixed : Bool := false
  dfeHold : Bool := false
  ctlePeak : Nat := 0
  impairEn : Nat := 3
  ffe : List Int := [0, 63, 0, 0]
  cmMv : Nat := 150
  burstMaxUs : Nat := 100
deriving DecidableEq, Repr

/-- A test on a lane (R265 to R267, R285). -/
structure LaneTest where
  gen : Nat := 0
  chk : Nat := 0
  loop : Nat := 0
  startedAt : Nat := 0
  locked : Bool := false
  inverted : Bool := false
  /-- Elapsed instant of the checker's lock, and the bits compared before it. -/
  lockedAt : Nat := 0
  bits : Ctr := {}
  errors : Ctr := {}
  lockLoss : Ctr := {}
  struck : Ctr := {}
deriving DecidableEq, Repr

/-- The last eye scan of a lane (R268, R282 table). -/
structure EyeScan where
  eyes : Nat := 0
  valid : Bool := false
  strike : Bool := false
  aborted : Bool := false
  dwell : Nat := 0
  finishedAt : Nat := 0
  /-- Height in mV and width in 1/64 UI, lower first. -/
  values : List (Nat × Nat) := []
deriving DecidableEq, Repr

/-- A lane. -/
structure Lane where
  owner : LaneOwner := .none
  rate : Nat := 0
  cfg : LaneCfg := {}
  tx : Half := .off
  rx : Half := .off
  /-- The state a half woken from OFF reaches when its lane PLL locks (R262). -/
  txGoal : Half := .off
  rxGoal : Half := .off
  signal : Bool := false
  cdr : Bool := false
  /-- The receive half was woken from SLEEP and has retained its taps (R262, R264). -/
  warm : Bool := false
  ctle : Nat := 0
  dfe : List Int := [0, 0, 0, 0, 0, 0, 0, 0, 0, 0, 0, 0]
  /-- Elapsed instants since which each tap has stood at its limit (R261). -/
  railSince : List (Option Nat) := [none, none, none, none, none, none, none, none, none, none, none, none]
  dfeRail : Bool := false
  lockedSince : Nat := 0
  align : CwAlign := .idle
  count : Nat := 0
  miss : Nat := 0
  stuffErr : Ctr := {}
  commaMiss : Ctr := {}
  alignLoss : Ctr := {}
  rxActiveAt : Nat := 0
  /-- Elapsed instant at which the acquisition in progress started (R295). -/
  acqAt : Nat := 0
  cmTriggers : Ctr := {}
  burstTriggers : Ctr := {}
  /-- Elapsed instants of the latest triggers, newest first (R281). -/
  triggers : List Nat := []
  quarantine : Bool := false
  /-- Adaptation pauses until this elapsed instant (R260). -/
  pauseUntil : Nat := 0
  lastLockEvent : Option Nat := none
  unreported : Nat := 0
  test : LaneTest := {}
  eye : EyeScan := {}
deriving DecidableEq, Repr

/-- The eye scan that runs (R269): its lane, dwell, and whether a strike window was open during any part of it (R290). -/
structure Scan where
  lane : Nat
  dwell : Nat
  strikeId : Nat
  strike : Bool
deriving DecidableEq, Repr

/-- The lanes. -/
structure Lanes where
  lane : Tbl Lane := []
  scan : Option Scan := none
deriving DecidableEq, Repr

end Sys2Proof.Machine
end

