-- ==== Sys2Proof/Machine/Parts/Out.lean ====
section
/-! DEFINITION. Parts/Out.lean: what the module has sent or shown to the outside, and the fused identity. -/

namespace Sys2Proof.Machine

/-- The VC0 messages a Span member sends. -/
inductive Vc0 where
  | relay (r : Relay)
  /-- R542. -/
  | claim (c : Claim)
  /-- R543: round and the leader's SERIAL. -/
  | decide (round serial : Nat)
  /-- R563. -/
  | heartbeat
  /-- A mirrored change (R551): kind 0 BRIDGE_ENTRY_SET, 1 BRIDGE_FLUSH, 2 FWD_CONFIG_SET payload; 3 a learned entry, 4 a
  removed one. -/
  | mirror (kind : Nat) (payload : List Byte)
  /-- Mirrored state for a sync (R555): items by type. -/
  | sync (items : List (Nat × List Byte))
  /-- The module is leaving, by SPAN_LEAVE or for a lower mode (R541, R563). -/
  | leaving (byCommand : Bool)
deriving DecidableEq, Repr

/-- One thing the module put out, in the order it did so. -/
inductive Output where
  /-- A KMP message leaves on a transport (R151). -/
  | message (d : Dest) (m : Msg)
  /-- The value answered to a host read (R220). -/
  | hostRead (p : HostPath) (bytes : List Byte)
  /-- One MSI or MSI-X message (R226). -/
  | msi
  /-- A ring entry written to host memory or the window buffer, at this ring index (R231). -/
  | ringEntry (index : Nat) (bytes : List Byte)
  /-- A frame begins transmission on a port (R508). -/
  | frame (port : Nat) (bytes : List Byte)
  /-- A frame leaves on M0 (R308). -/
  | m0Frame (bytes : List Byte)
  /-- A flow unit or replay frame leaves on a lane (R335, R339). -/
  | causeway (lane : Nat) (bytes : List Byte)
  /-- The levels a lane's transmitter sends for it (R270 to R274). -/
  | line (lane : Nat) (levels : List Nat)
  /-- A VC0 message leaves for the Span partner (chapter 14). -/
  | vc0 (m : Vc0)
  /-- A remote cell leaves on a lane by VC3 (R559): pipeline, Deck, sequence number, marks, result of a head cell. -/
  | vc3 (lane pipe deck seq : Nat) (sop eop : Bool) (pkt : Option Packet)
  /-- A message relayed by the leader leaves on a transport of this module (R546). -/
  | relayed (d : Dest) (raw : List Byte)
  /-- An I2C access to an optic: port, write, device address, register, bytes (R311). -/
  | i2c (port : Nat) (write : Bool) (dev : Nat) (reg : Nat) (bytes : List Byte)
  /-- Nine clock pulses and a stop condition on an I2C master (R312). -/
  | i2cRecover (master : Nat)
  /-- An output pin changes: name code and level. -/
  | pin (name : Nat) (level : Bool)
  /-- The value shifted out of the debug port (R685). -/
  | tdo (value : Nat)
deriving DecidableEq, Repr

/-- The fused identity (R197, R245, R619). -/
structure Ident where
  serial : BitVec 64
  iax : Bool
  revB : Bool
  slot0Key : List Byte
  fuseGood : Bool
  m0Mac : BitVec 48
  factoryTrim : Int
  vendor : BitVec 11
deriving DecidableEq, Repr

end Sys2Proof.Machine
end

