-- ==== Sys2Proof/Machine/Parts/Plane.lean ====
section
/-! DEFINITION. Parts/Plane.lean: packets, the Truss, the Decks and egress (R467 to R534). -/

namespace Sys2Proof.Machine

/-- A cell (R470): its sequence number, marks, and the packet where it is a head cell. -/
structure Cell where
  seq : Nat
  sop : Bool
  eop : Bool
  pkt : Option Packet
deriving DecidableEq, Repr

/-- A cell in a transit place: pipeline, deck and the slot it arrived in (R473, R474). -/
structure Transit where
  pipe : Nat
  deck : Nat
  slot : Nat
  cell : Cell
deriving DecidableEq, Repr

/-- A pipeline's side of the Truss. -/
structure Pipe where
  /-- Launch queues by Deck. -/
  queues : Tbl (List Cell) := []
  /-- Sequence counters by Deck (R471). -/
  seqs : Tbl Nat := []
  /-- Round-robin pointer for each plane (R473). -/
  rr : Tbl Nat := []
  dropPkts : Ctr := {}
  dropBytes : Ctr := {}
  report : Option Nat := none
  unreported : Nat := 0
  firstDeck : Nat := 0
deriving DecidableEq, Repr

/-- A middle plane: waiting cells in order of arrival. -/
structure Plane where
  cells : List Transit := []
  corr : Ctr := {}
  err : Ctr := {}
  last : Option Nat := none
  newCorr : Nat := 0
  newErr : Nat := 0
deriving DecidableEq, Repr

/-- A held cell and its arrival (R477). -/
structure HeldCell where
  cell : Cell
  at0 : Nat
deriving DecidableEq, Repr

/-- A packet being written to a Deck (R478, R483): the queue entries reserved for it are those of `queues`; an empty list
is a packet that was refused. -/
structure Writing where
  id : Nat
  pkt : Packet
  /-- Ports whose queue has admitted it. -/
  admitted : List Nat
  /-- Ports of those that were unformed or re-formed meanwhile (R500). -/
  abandoned : List Nat
deriving DecidableEq, Repr

/-- A resequencer (R476). -/
structure Reseq where
  next : Nat := 0
  held : List HeldCell := []
  writing : Option Writing := none
deriving DecidableEq, Repr

/-- A stored packet (R481). -/
structure Stored where
  pkt : Packet
  cells : Nat
  refs : Nat
deriving DecidableEq, Repr

/-- A Deck (R479). -/
structure Deck where
  freeCells : Nat := 40960
  freeDesc : Nat := 16384
  freeEntries : Nat := 32768
  minCells : Nat := 40960
  minDesc : Nat := 16384
  minEntries : Nat := 32768
  /-- Frees made during the present slot (R484). -/
  slotCells : Nat := 0
  slotDesc : Nat := 0
  slotEntries : Nat := 0
  /-- Cells that have left a plane for this Deck, with their pipeline, oldest first. -/
  arriving : List (Nat × Cell) := []
  reseq : Tbl Reseq := []
  stored : Tbl (Option Stored) := []
  timeouts : Ctr := {}
  skipped : Ctr := {}
  late : Ctr := {}
  lostPkts : Ctr := {}
  lostBytes : Ctr := {}
  reseqReport : Option Nat := none
  newSkipped : Nat := 0
  newLost : Nat := 0
  /-- Report states of exhausted cells, descriptors, entries. -/
  exhausted : Tbl (Option Nat × Nat) := []
deriving DecidableEq, Repr

/-- A queue entry that waits (R480). -/
structure QEntry where
  id : Nat
  /-- Elapsed instant at which it joined the tail (R519). -/
  joined : Nat
  /-- It has been counted in GATE_WAITS (R514). -/
  waited : Bool
deriving DecidableEq, Repr

/-- A shaper (R509, R510): tokens in 10^-6 byte; a change waits for its instant of effect. -/
structure Shaper where
  en : Bool := false
  rate : Nat := 64
  burst : Nat := 64
  tokens : Int := 0
  /-- Enable, rate, burst, and the elapsed instant of their acceptance. -/
  next : Option (Bool × Nat × Nat × Nat) := none
deriving DecidableEq, Repr

/-- An egress queue. -/
structure Queue where
  alphaK : Int := 0
  redLimit : Nat := 64
  ready : List QEntry := []
  /-- Entries reserved for packets still being written (R480, R483). -/
  reserved : Nat := 0
  /-- The entry of a frame in transmission, freed at its end (R481). -/
  busy : Nat := 0
  /-- ALPHA_K and RED_LIMIT before a change, and the slot they still decide (R493, R498). -/
  old : Option (Int × Nat × Nat) := none
  strict : Bool := false
  weight : Nat := 1
  shaper : Shaper := {}
  alarmUs : Nat := 0
  /-- WFQ start tag, and whether the queue was eligible when last examined (R507). -/
  tagS : Nat := 0
  eligible : Bool := false
  /-- The eight admission counters (R492 table). -/
  allot : Tbl Ctr := []
  /-- The five egress counters (R522 table). -/
  tx : Tbl Ctr := []
  depthHwm : Nat := 0
  depthHwmAt : Nat := 0
  delayHwm : Nat := 0
  delayHwmAt : Nat := 0
  /-- Largest sojourn of packets started in the present period (R519). -/
  periodMax : Nat := 0
  /-- Samples not both zero: period number, depth, largest sojourn; newest first. -/
  samples : List (Nat × Nat × Nat) := []
  oversizeReport : Option Nat := none
  oversizeNew : Nat := 0
  delayReport : Option Nat := none
  delayNew : Nat := 0
  delayMaxNew : Nat := 0
deriving DecidableEq, Repr

/-- A gate list (R511): gates and interval in ns of each entry. -/
structure GateList where
  entries : List (Nat × Nat)
  cycle : Nat
  base : Nat
  /-- The instant it took over or is to take over. -/
  takeover : Nat
deriving DecidableEq, Repr

/-- A pending list or removal (R516). -/
structure GatePend where
  list : Option GateList
  takeover : Nat
  fromCommit : Bool
deriving DecidableEq, Repr

/-- A frame in transmission (R508). -/
structure Sending where
  queue : Nat
  id : Nat
  /-- End of the frame and its IFG, in 1/256 ns of the time base and of the elapsed clock. -/
  endTb : Nat
  endAt : Nat
  /-- Close instant of the window it started in, in 1/256 ns of the time base (R532). -/
  closeTb : Option Nat
  /-- It is dropped instead of sent: the link is down (R301, R517). -/
  dropped : Bool
deriving DecidableEq, Repr

/-- Egress of a port. -/
structure Egress where
  shaper : Shaper := {}
  v : Nat := 0
  list : Option GateList := none
  pend : Option GatePend := none
  sending : Option Sending := none
  /-- Time base at which the queues were last examined (R507). -/
  seenAt : Nat := 0
deriving DecidableEq, Repr

/-- The Truss, the Decks and egress. -/
structure DataPlane where
  /-- Decks that are powered (R489). -/
  powered : List Nat := []
  slot : Nat := 0
  /-- Pipelines that have launched and planes that have sent in the present slot (R468). -/
  slotLaunched : List Nat := []
  slotSent : List Nat := []
  pipe : Tbl Pipe := []
  plane : Tbl Plane := []
  deck : Tbl Deck := []
  nextId : Nat := 1
  queue : Tbl Queue := []
  egress : Tbl Egress := []
  protClasses : Nat := 0
  /-- The mask before a change, and the slot it still decides (R503). -/
  protOld : Option (Nat × Nat) := none
  sampleUs : Nat := 1000
  periods : Nat := 0
  lastSample : Option Nat := none
  lastRefill : Option Nat := none
  reseqSeen : BitVec 8 := 0
  cellErrSeen : BitVec 8 := 0
  launchDropSeen : BitVec 8 := 0
  exhaustedSeen : BitVec 8 := 0
  delayAlarmMap : BitVec 128 := 0
deriving DecidableEq, Repr

end Sys2Proof.Machine
end

