-- ==== Sys2Proof/Machine/Parts/Ports.lean ====
section
/-! DEFINITION. Parts/Ports.lean: Ethernet ports, pluggable optics and M0 (R296 to R328). -/

namespace Sys2Proof.Machine

/-- An Ethernet port (R296 to R302, R316 tables). TYPE 0 is not formed. -/
structure Port where
  typ : Nat := 0
  fec : Nat := 0
  an : Bool := false
  adminDown : Bool := false
  maxFrame : Nat := 10240
  linkUpMs : Nat := 10
  linkDownUs : Nat := 200
  rxAdj : Int := 0
  txAdj : Int := 0
  link : Bool := false
  anDone : Bool := false
  /-- The condition that failed last, as a DOWN_CAUSE. -/
  failed : Nat := 0
  changes : Nat := 0
  since : Nat := 0
  lastEvent : Option Nat := none
  unreported : Nat := 0
deriving DecidableEq, Repr

/-- A cage and its map entry (R310 to R315). -/
structure Cage where
  mapped : Bool := false
  master : Nat := 0
  muxAddr : Nat := 0
  muxChannel : Nat := 0
  slow : Bool := false
  present : Bool := false
  /-- What the last poll found, before two agree. -/
  lastPoll : Bool := false
  ident : Nat := 0
  /-- The page last written, where one was. -/
  page : Option Nat := none
  /-- The step of R315 that runs, 1 to 5; 0 for none. -/
  step : Nat := 0
  ready : Bool := false
  mismatch : Bool := false
deriving DecidableEq, Repr

/-- An access held by a target that stretches the clock (R312). -/
inductive HeldAccess where
  | kmp (write : Bool) (q : Req)
  | poll (port : Nat)
deriving DecidableEq, Repr

/-- An I2C master (R312, R314). -/
structure I2cMaster where
  held : Option HeldAccess := none
  /-- The next access is preceded by 9 clock pulses and a stop. -/
  recover : Bool := false
deriving DecidableEq, Repr

/-- Settings of M0 (R316 table). -/
structure M0Cfg where
  ipv4 : Nat := 0
  prefix4 : Nat := 0
  prefix6 : Nat := 0
  vlan : Nat := 0
  gw4 : Nat := 0
  ipv6 : Nat := 0
  gw6 : Nat := 0
  an : Bool := true
deriving DecidableEq, Repr

/-- The management lane (R308, R309). -/
structure M0 where
  cfg : M0Cfg := {}
  link : Bool := false
  /-- Frames accepted in the present second of the elapsed clock, and that second. -/
  second : Nat := 0
  accepted : Nat := 0
  discarded : Ctr := {}
  /-- The settings before a change that awaits its first authenticated request, and since when (R319). -/
  old : Option (M0Cfg × Nat) := none
deriving DecidableEq, Repr

/-- Ports, cages, masters and M0. -/
structure Ports where
  port : Tbl Port := []
  cage : Tbl Cage := []
  master : Tbl I2cMaster := []
  m0 : M0 := {}
deriving DecidableEq, Repr

end Sys2Proof.Machine
end

