-- ==== Sys2Proof/Machine/Parts/Time.lean ====
section
/-! DEFINITION. Parts/Time.lean: clocks, the time base, the RTC and the general timers (R72 to R111). -/

namespace Sys2Proof.Machine

/-- Time quality (R86). -/
inductive Quality where
  | unset
  | held
  | free
  | holdover
  | lockedPps
  | lockedPtp
deriving DecidableEq, Repr

/-- Discipline sources (R82). -/
inductive Source where
  | none
  | pps
  | ptp
deriving DecidableEq, Repr

/-- Owner of a general timer (R97 table). -/
inductive TimerOwner where
  | free
  | kmp
  | adc
  | fio
  | snapshot
deriving DecidableEq, Repr

/-- A general timer (R92, R93): instants in ns of the time base. -/
structure GTimer where
  owner : TimerOwner := .free
  armed : Bool := false
  next : Nat := 0
  periodNs : Nat := 0
  start : Nat := 0
deriving DecidableEq, Repr

/-- The clocks of R77 that are running. -/
structure Clocks where
  reference : Bool := false
  corePll : Bool := false
  pipePll : Bool := false
  timePll : Bool := false
  /-- Lane references 0 to 3 that run. -/
  laneRefs : List Nat := []
  /-- DRAM PLLs 0 to 3 that run. -/
  dramPlls : List Nat := []
  /-- Failed starts of the reference since the last wake source (R110). -/
  refRetries : Nat := 0
  refFailedAt : Option Nat := none
deriving DecidableEq, Repr

/-- The RTC and the control block it is kept beside (R73 to R75, R88 to R91). -/
structure Rtc where
  /-- RTC count in 1/32,768 s at the elapsed instant `since`. -/
  ticks : Nat := 0
  since : Nat := 0
  running : Bool := false
  trimPpb : Int := 0
  valid : Bool := false
  alignedS : Nat := 0
  alarmS : Nat := 0
  periodS : Nat := 0
  /-- BLOCK_CRC valid: the control block holds what the module wrote (R74). -/
  blockGood : Bool := false
deriving DecidableEq, Repr

/-- The time base and its discipline. -/
structure TimeBase where
  /-- TAI ns since 1970-01-01 (R79). -/
  now : Nat := 0
  quality : Quality := .unset
  source : Source := .none
  offsetNs : Int := 0
  freqPpb : Int := 0
  lastStepAt : Nat := 0
  stepCount : Nat := 0
  tenMhz : Bool := false
  ppsPresent : Bool := false
  ppsAmbiguous : Bool := false
  rtcFail : Bool := false
  coldStart : Bool := false
  source1 : Source := .none
  source2 : Source := .none
  ptpPort : Nat := 0
  ptpDomain : Nat := 0
  use10m : Bool := false
  ptpL2 : Bool := false
  ppsOutEn : Bool := false
  rtcLearn : Bool := true
  stepNs : Nat := 1000000
  slewPpm : Nat := 100
  holdoverS : Nat := 3600
  ppsWidthUs : Nat := 100000
deriving DecidableEq, Repr

/-- Measurements the discipline keeps between pulses and Sync messages (R84 to R87, R90). -/
structure Discipline where
  ppsGood : Nat := 0
  ptpGood : Nat := 0
  lastBigPps : Option Int := none
  lastBigPtp : Option Int := none
  ppsLocked : Bool := false
  ptpLocked : Bool := false
  lastPpsAt : Option Nat := none
  lastSyncAt : Option Nat := none
  syncIntervalNs : Nat := 1000000000
  holdoverSince : Option Nat := none
  /-- Unaligned RTC interval in ns, while a period of quality HELD has not yet ended (R90). -/
  heldUnaligned : Option Nat := none
  firstOffset : Option Int := none
  ppsOutHigh : Bool := false
deriving DecidableEq, Repr

end Sys2Proof.Machine
end

