-- ==== Sys2Proof/Machine/Parts/Span.lean ====
section
/-! DEFINITION. Parts/Span.lean: the join of two modules (R535 to R574). -/

namespace Sys2Proof.Machine

/-- Join states (R541). -/
inductive Join where
  | off
  | probe
  | alone
  | link
  | elect
  | sync
  | joined
deriving DecidableEq, Repr

/-- Roles (R544). -/
inductive Role where
  | none
  | leader
  | follower
deriving DecidableEq, Repr

/-- Settings of SPAN_CONFIG_SET (R566 table). -/
structure SpanCfg where
  member : Nat := 0
  priority : Nat := 128
  autoJoin : Bool := false
  minLanes : Nat := 4
  spanId : Nat := 0
  laneMask : Nat := 0xFFFF
  lossMs : Nat := 20
  reseqUs : Nat := 20
deriving DecidableEq, Repr

/-- A resequencer of remote cells (R560), with the packet whose cells are being released. -/
structure RemoteReseq where
  next : Nat := 0
  held : List HeldCell := []
  gathered : Option Packet := none
deriving DecidableEq, Repr

/-- The Span layer. -/
structure SpanLayer where
  cfg : SpanCfg := {}
  state : Join := .off
  role : Role := .none
  lastCause : Nat := 0
  partnerSerial : Nat := 0
  /-- Last change of join state: time base and elapsed instant. -/
  since : Nat := 0
  enteredAt : Nat := 0
  /-- Elapsed instants of the last probe of ALONE, and of the start of the election round. -/
  probeAt : Nat := 0
  probing : Bool := false
  round : Nat := 0
  roundAt : Nat := 0
  /-- The partner's CLAIM of this round as read after the fence. -/
  claim : Option Claim := none
  timeOffset : Int := 0
  leaderQuality : Quality := .unset
  heartbeatAt : Nat := 0
  /-- Elapsed instant since which fewer than MIN_LANES links have been counted, while they are. -/
  lowSince : Option Nat := none
  lastMismatch : Option Nat := none
  /-- The ten counters in SPAN_STATUS_GET order. -/
  ctrs : Tbl Ctr := []
  /-- Joint launch queues by pipeline: target Deck and cell (R558). -/
  launchq : Tbl (List (Nat × Cell)) := []
  /-- Sequence counters of remote Decks, by pipeline times 8 plus Deck (R557). -/
  seqs : Tbl Nat := []
  /-- Rotation over the links by pipeline (R559). -/
  rot : Tbl Nat := []
  reseq : Tbl RemoteReseq := []
  /-- Tables hold Span port numbers (R552, R565). -/
  spanPorts : Bool := false
deriving DecidableEq, Repr

end Sys2Proof.Machine
end

