-- ==== Sys2Proof/Machine/Parts/Supply.lean ====
section
/-! DEFINITION. Parts/Supply.lean: supply, modes, wake and strike state (R22 to R71), and the supply outputs and
the thermal cut of R756 and R772. -/

namespace Sys2Proof.Machine

/-- TARGET_MODE (R52). -/
inductive Target where
  | watch
  | keep
  | full
deriving DecidableEq, Repr

/-- LAST_CAUSE of MODE_GET (R52). -/
inductive Cause where
  | powerOn
  | command
  | vinLow
  | holdFloor
  | wake
  | freezePolicy
  | debugFreeze
  | joinLost
  | climb
deriving DecidableEq, Repr

/-- A transition in progress (R48, R51): what it goes from and to, why, since when; `climbStep` counts the
steps of R128 that have completed (0 to 6), and `reqId` the command that asked for it. -/
structure Transition where
  src : Mode
  dst : Mode
  cause : Cause
  since : Nat
  climbStep : Nat
  reqId : Nat
  /-- The Shelf wake source, where there is one: 0 WAKE pin, 1 field input, 2 RTC alarm, 3 VIN restore. -/
  wakeSource : Option Nat
deriving DecidableEq, Repr

/-- A MODE_SET that has not run to its end: its mode code, its request, and what it waits for (R53, R57, R70). -/
structure Deferred where
  mode : Mode
  reqId : Nat
  /-- true: waits for the strike window to close; false: goes on when the present step ends or HOLD_READY comes. -/
  forStrike : Bool
deriving DecidableEq, Repr

/-- Thresholds in mV (R28). -/
structure Thresholds where
  fullOn : Nat := 16000
  fullOff : Nat := 15000
  keepOn : Nat := 9000
  keepOff : Nat := 8400
  watchOn : Nat := 6600
  watchOff : Nat := 6000
deriving DecidableEq, Repr

/-- Supply measurements, comparators and mode settings. -/
structure Supply where
  mode : Mode := .off
  target : Target := .watch
  lastCause : Cause := .powerOn
  vinMv : Nat := 0
  vholdMv : Nat := 0
  vinMinMv : Nat := 0xFFFF
  modeSince : Nat := 0
  /-- The mode Freeze was entered from (R679). -/
  frozenFrom : Mode := .full
  shedCount : Nat := 0
  transition : Option Transition := none
  deferred : Option Deferred := none
  /-- A Freeze trigger waiting for the end of a shedding step (R69). -/
  freezeTrigger : Option Cause := none
  /-- Instants VIN last fell below OFF of Full, Keep and Watch, while it is still below (R34). -/
  belowFull : Option Nat := none
  belowKeep : Option Nat := none
  belowWatch : Option Nat := none
  /-- Instants from which VIN has met ON of Full, Keep and Watch (R37). -/
  onFull : Option Nat := none
  onKeep : Option Nat := none
  onWatch : Option Nat := none
  /-- Instant of the last shedding step while its dwell applies (R37). -/
  dwellFrom : Option Nat := none
  /-- Start and end of the last dip below OFF of the present mode that ended before a shedding step, while it is unreported (R36). -/
  dip : Option (Nat × Nat) := none
  th : Thresholds := {}
  rideMs : Nat := 10
  dwellS : Nat := 60
  holdInShelf : Bool := false
  m0InWatch : Bool := false
  keepPorts : List Nat := []
deriving DecidableEq, Repr

/-- The input switch (R23) and the thermal cut (R772). -/
structure InputSwitch where
  ovCut : Bool := false
  thermalCut : Bool := false
  /-- The VIN the lands carry; the threshold decisions read 0 while the switch is open. -/
  landMv : Nat := 0
deriving DecidableEq, Repr

/-- Wake settings and state (R40 to R42, R62, R74). -/
structure Wake where
  sources : Nat := 0
  activeHigh : Bool := false
  riseMask : Nat := 0
  fallMask : Nat := 0
  waiting : Bool := false
  waitingSource : Nat := 0
  /-- SHELF_STATE: the mode before Shelf, whether Shelf was entered by shedding, and the quality then. -/
  modeBefore : Mode := .off
  byShed : Bool := false
  qualityAtShelf : Nat := 0
deriving DecidableEq, Repr

/-- Strike settings and the present or last window (R45 to R47, R52, R63). -/
structure Strike where
  surgeMv : Nat := 44000
  slewMv : Nat := 2000
  holdMs : Nat := 500
  sources : Nat := 7
  id : Nat := 0
  opened : Bool := false
  seen : Nat := 0
  /-- HOLD_MS of the window in progress (R63). -/
  windowHoldMs : Nat := 500
  openedAt : Nat := 0
  endsAt : Nat := 0
  /-- The same two instants on the elapsed clock. -/
  openedElapsed : Nat := 0
  endsElapsed : Nat := 0
  peakMv : Nat := 0
  triggers : Nat := 0
  windows : Nat := 0
deriving DecidableEq, Repr

/-- A supply output of R756: the elapsed instant of its last failure, while it is turned off. -/
structure Vio where
  offAt : Option Nat := none
deriving DecidableEq, Repr

end Sys2Proof.Machine
end

