-- ==== Sys2Proof/Machine/State.lean ====
section
/-! DEFINITION. Machine/State.lean: the whole state, the reasons a step can stop, and the state after reset. -/

namespace Sys2Proof.Machine

/-- Reasons the block stops with a fault. No command of this block has a meaning that faults, so there is none. -/
inductive Fault where
deriving DecidableEq, Repr

/-- Reasons a command is refused. -/
inductive Refusal where
  /-- Raised by `exec` for a command that has no meaning yet; safe, since the machine stops. -/
  | notModelled (mnemonic : String)
deriving DecidableEq, Repr

/-- The state of the module. -/
structure State where
  /-- The commands that wait, first in, first out (the model's queue). -/
  pending : List Instr
  /-- ns of the module's elapsed clock at the last command. -/
  elapsed : Nat
  ident : Ident
  sup : Supply
  sw : InputSwitch
  wake : Wake
  strike : Strike
  vio : Tbl Vio
  clk : Clocks
  rtc : Rtc
  tb : TimeBase
  disc : Discipline
  timers : Tbl GTimer
  boot : Boot
  flash : Mem
  kmp : Kmp
  host : HostWin
  dig : Digest
  cnt : Count
  dram : Dram
  lanes : Lanes
  ports : Ports
  cls : Cls
  fwd : Fwd
  dp : DataPlane
  cw : Causeway
  span : SpanLayer
  cap : Capture
  dbg : Dbg
  io : FieldIo
  /-- What the module has put out, oldest first (the model's record). -/
  out : List Output
  /-- Index of the next free value (the model's own; no field of the spec). -/
  freeCtr : Nat
deriving DecidableEq, Repr

/-- The two addressed memories, the boot flash and the buffer of the host window, are in canonical form. (DESIGN CHOICE: log entry 13) -/
def Memory.wf (s : State) : Bool := Tbl.wf 0xFF s.flash && Tbl.wf 0 s.host.buffer

/-- The fused identity at reset. (DESIGN CHOICE: log entry 11) -/
def Ident.fused : Ident :=
  ⟨Config.serial, Config.orderIax, Config.revisionB, Config.slot0Key, Config.fuseCrcGood, Config.m0Mac,
    Config.rtcFactoryTrim, Config.idcodeVendor⟩

/-- The state after reset: VIN absent, the Abutment off (R48, first row), nothing retained.
(DESIGN CHOICE: log entries 12, 13, 14, 15, 154, 194) -/
def State.reset : State where
  pending := []
  elapsed := 0
  ident := Ident.fused
  sup := {}
  sw := {}
  wake := {}
  strike := {}
  vio := []
  clk := {}
  rtc := {}
  tb := {}
  disc := {}
  timers := []
  boot := {}
  flash := []
  kmp := {}
  host := {}
  dig := {}
  cnt := {}
  dram := {}
  lanes := {}
  ports := {}
  cls := {}
  fwd := {}
  dp := {}
  cw := {}
  span := {}
  cap := {}
  dbg := {}
  io := {}
  out := []
  freeCtr := 0

end Sys2Proof.Machine
end

