-- ==== Sys2Proof/Machine/Flags.lean ====
section
/-! DEFINITION. Machine/Flags.lean: status codes, status bits, counters at their largest value and interrupt bits. -/

namespace Sys2Proof.Machine

open Sys2Proof

/-- Mode codes of every payload (R52); the unpowered state has none and reads as Shelf. -/
def Mode.code : Mode → Nat
  | .off => 0
  | .shelf => 0
  | .watch => 1
  | .keep => 2
  | .full => 3
  | .span => 4
  | .freeze => 5

/-- The mode of a TARGET_MODE. -/
def Target.mode : Target → Mode
  | .watch => .watch
  | .keep => .keep
  | .full => .full

/-- TARGET_MODE codes (R52). -/
def Target.code (t : Target) : Nat := t.mode.code

/-- LAST_CAUSE codes (R52). -/
def Cause.code : Cause → Nat
  | .powerOn => 0
  | .command => 1
  | .vinLow => 2
  | .holdFloor => 3
  | .wake => 4
  | .freezePolicy => 5
  | .debugFreeze => 6
  | .joinLost => 7
  | .climb => 8

/-- Time quality codes (R86). -/
def Quality.code : Quality → Nat
  | .unset => 0
  | .held => 1
  | .free => 2
  | .holdover => 3
  | .lockedPps => 4
  | .lockedPtp => 5

/-- Source codes (R97 table). -/
def Source.code : Source → Nat
  | .none => 0
  | .pps => 1
  | .ptp => 2

/-- The source a SOURCE field names (R97 table). -/
def Source.ofCode : Nat → Source
  | 1 => .pps
  | 2 => .ptp
  | _ => .none

/-- OWNER codes of a timer (R97 table). -/
def TimerOwner.code : TimerOwner → Nat
  | .free => 0
  | .kmp => 1
  | .adc => 2
  | .fio => 3
  | .snapshot => 4

/-- Quality bits of a log entry (R728). -/
def Quality.logCode : Quality → Nat
  | .unset => 0
  | .held => 1
  | .free => 2
  | .holdover => 2
  | .lockedPps => 3
  | .lockedPtp => 3

/-- BOOT_CAUSE codes (R140). -/
def BootCause.code : BootCause → Nat
  | .powerOn => 0
  | .wake => 1
  | .watchWatchdog => 2
  | .controlWatchdog => 3
  | .restart => 4
  | .preloadFailure => 5
  | .debugReset => 6

/-- STAGE codes (R140). -/
def BootStage.code : BootStage → Nat
  | .keystone => 0
  | .watch => 1
  | .clocks => 2
  | .training => 3
  | .streaming => 4
  | .installing => 5
  | .forming => 6
  | .running => 7

/-- STATE codes of a key slot (R627 table). -/
def KeyState.code : KeyState → Nat
  | .empty => 0
  | .loaded => 1
  | .fused => 2
  | .fuseFault => 3

/-- Transport numbers of R721 scope kind 5. -/
def transportNum : Transport → Nat
  | .uart0 => 0
  | .uart1 => 1
  | .m0 => 2
  | .pcie => 3
  | .spi => 4

/-- The AUTH_REQUIRED bit of a transport (R200 table): bit 3 covers both host paths (R227). -/
def transportAuthBit : Transport → Nat
  | .uart0 => 0
  | .uart1 => 1
  | .m0 => 2
  | .pcie => 3
  | .spi => 3

/-- ITEM_STATE codes of STAGE_VERIFY (R204 table). -/
def ItemState.code : ItemState → Nat
  | .incomplete => 0
  | .verified => 1
  | .failed => 2
  | .checkFailed => 3

/-- STAGE_STATE codes (R196 table). -/
def StagePhase.code : StagePhase → Nat
  | .opened => 1
  | .verified => 2
  | .building => 3

/-- Add to a statistics counter: 64 bits, wraps and sets the overflow flag (R714). (DESIGN CHOICE: log entry 8) -/
def Ctr.add64 (c : Ctr) (n : Nat) : Ctr :=
  ⟨(c.val + n) % 2 ^ 64, c.ovf || decide (2 ^ 64 ≤ c.val + n)⟩

/-- Add to an error counter: 32 bits, stays at its largest value and sets the saturated flag (R714). (DESIGN CHOICE: log entry 8) -/
def Ctr.add32 (c : Ctr) (n : Nat) : Ctr :=
  ⟨min (c.val + n) (2 ^ 32 - 1), c.ovf || decide (2 ^ 32 - 1 ≤ c.val + n)⟩

/-- INT_PENDING: INT_CAUSE AND INT_MASK (R226). -/
def intPending (h : HostWin) : BitVec 10 := h.intCause &&& h.intMask

/-- Bits of INT_CAUSE (R245). -/
def causeRspReady : BitVec 10 := 1
def causeReqDrained : BitVec 10 := 2
def causeMode : BitVec 10 := 4
def causeStrike : BitVec 10 := 8
def causeTime : BitVec 10 := 16
def causeAccess : BitVec 10 := 32
def causeRingFault : BitVec 10 := 64
def causeSnap : BitVec 10 := 128
def causeCoreFlag : BitVec 10 := 256
def causeBoot : BitVec 10 := 512

/-- HOST_IRQ_N is driven low: INT_PENDING non-zero in any mode but Shelf (R226). -/
def hostIrqLow (s : State) : Bool :=
  decide (intPending s.host ≠ 0) && decide (s.sup.mode ≠ .shelf) && decide (s.sup.mode ≠ .off)

/-- INTA is asserted: INT_PENDING non-zero without MSI or MSI-X (R226). -/
def intaAsserted (s : State) : Bool := decide (intPending s.host ≠ 0) && decide (s.host.msiMode = 0)

end Sys2Proof.Machine
end

