-- ==== Sys2Proof/Machine/Ops.lean ====
section
/-! DEFINITION. Machine/Ops.lean: the clock, the event stream, the logs, the interrupt causes and the counters that
every family of commands uses. -/

namespace Sys2Proof.Machine

open Sys2Proof

/-- Milliseconds in ns. -/
def msNs (n : Nat) : Nat := n * 1000000

/-- Seconds in ns. -/
def sNs (n : Nat) : Nat := n * nsPerS

/-- Microseconds in ns. -/
def usNs (n : Nat) : Nat := n * 1000

/-- Tick of the clock that counts the time base (R80); 0 where it stands still. -/
def tickNs : Mode → Nat
  | .off => 0
  | .shelf => 0
  | .watch => 40
  | .keep => 2
  | .full => 2
  | .span => 2
  | .freeze => 2

/-- The time base after the elapsed clock moves from `a` to `b` on a tick of `n` ns (R80). (DESIGN CHOICE: log entry 38) -/
def tbAfter (n now a b : Nat) : Nat := if n = 0 then now else now + n * (b / n - a / n)

/-- Move the elapsed clock, and the time base with it, to instant `t`; an instant already past changes nothing.
(DESIGN CHOICE: log entries 2, 3) -/
def advance (t : Nat) (s : State) : State :=
  if t ≤ s.elapsed then s
  else { s with elapsed := t, tb := { s.tb with now := tbAfter (tickNs s.sup.mode) s.tb.now s.elapsed t } }

/-- The RTC count in 1/32,768 s, trimmed by RTC_TRIM (R89, R90). -/
def rtcTicks (s : State) : Nat :=
  if s.rtc.running then
    s.rtc.ticks + (s.elapsed - s.rtc.since) * 32768 * ((1000000000 : Int) + s.rtc.trimPpb).toNat / 10 ^ 18
  else s.rtc.ticks

/-- RTC seconds (R91). -/
def rtcSeconds (s : State) : Nat := rtcTicks s / 32768

/-- The RTC in whole ns (R89). -/
def rtcNs (s : State) : Nat := rtcTicks s * nsPerS / 32768

/-- Set the RTC to a count (R75, R88). -/
def setRtc (ticks : Nat) (s : State) : State :=
  { s with rtc := { s.rtc with ticks := ticks, since := s.elapsed } }

/-- The time stamp of an event: the time base where it counts, and the RTC in Shelf (R13, R179). (DEDUCED: log entry 75) -/
def stamp (s : State) : Nat := if tickNs s.sup.mode = 0 then rtcNs s else s.tb.now

/-- The next free value's index. (DESIGN CHOICE: log entry 10) -/
def bumpFree (s : State) : State := { s with freeCtr := s.freeCtr + 1 }

/-- `n` free values have been read. -/
def bumpTimes (n : Nat) (s : State) : State := { s with freeCtr := s.freeCtr + n }

/-- Record an output. (DESIGN CHOICE: log entry 9) -/
def emit (o : Output) (s : State) : State := { s with out := s.out ++ [o] }

/-- An MSI or MSI-X message goes out; a masked MSI-X vector is left pending (R226; PCI Express Base 4.0). (PRESUMED: log entry 102) -/
def sendMsi (s : State) : State :=
  if s.host.msiMode = 0 then s
  else if s.host.msiMode = 2 ∧ s.host.msixMask then { s with host := { s.host with msixPending := true } }
  else emit .msi s

/-- Set bits of INT_CAUSE; with MSI enabled a message goes out as INT_PENDING leaves zero (R226). (DEDUCED: log entry 101) -/
def setCause (bits : BitVec 10) (s : State) : State :=
  let h := s.host
  let s1 := { s with host :=
    { h with
      intCause := h.intCause ||| bits
      causeAt := s.elapsed
      causeNow := if h.causeAt = s.elapsed then h.causeNow ||| bits else bits } }
  if intPending h = 0 ∧ intPending s1.host ≠ 0 then sendMsi s1 else s1

/-- A channel holds contents: it is trained and powered (R576). -/
def chPowered (c : Nat) (s : State) : Bool :=
  match (Tbl.get {} s.dram.ch c).state with
  | .off => false
  | .training => false
  | _ => true

/-- DRAM channel 0 is powered (R720, R729). -/
def ch0Powered (s : State) : Bool := chPowered 0 s

/-- A retention log entry (R728). -/
def logEntryOf (tb : Nat) (q : Quality) (code seq : Nat) (adds : List Byte) : LogEntry where
  secLo := tb / nsPerS % 2 ^ 32
  nsQ := tb % nsPerS + q.logCode * 2 ^ 30
  code := code
  seq := seq
  data := padTo 4 adds

/-- Append to the retention log: a ring of 1,024 entries, the newest over the oldest (R76). -/
def logPut (e : LogEntry) (c : Count) : Count :=
  let c1 := { c with log := Tbl.set {} c.log c.logHead e }
  if c.logHead = 1023 then { c1 with logHead := 0, logWraps := inc32 c.logWraps }
  else { c1 with logHead := c.logHead + 1 }

/-- Records the log archive holds (R729). -/
def archiveSize : Nat := 4194304

/-- Append to the log archive (R729). -/
def archPut (r : ArchRec) (c : Count) : Count :=
  { c with archive := Tbl.set none c.archive (c.archNext % archiveSize) (some r), archNext := c.archNext + 1 }

/-- Write an event to the retention log and, with channel 0 powered, to the archive (R728, R729). -/
def logEvent (code seq : Nat) (adds : List Byte) (s : State) : State :=
  let e := logEntryOf (stamp s) s.tb.quality code seq adds
  let s1 := { s with cnt := logPut e s.cnt }
  if ch0Powered s then
    { s1 with
      cnt := archPut ⟨e, stamp s, s.boot.bootCount, adds.length, false, adds.take 32⟩ s1.cnt
      dram := { s1.dram with archBad := s1.dram.archBad.filter fun i => decide (i ≠ s.cnt.archNext % archiveSize) } }
  else s1

/-- Events the module holds for delivery (R180). -/
def holdSize : Nat := 1024

/-- Push an event into the hold, dropping the oldest where it is full (R180). -/
def holdPush (r : EventRec) (h : List EventRec) : List EventRec := (h ++ [r]).drop (h.length + 1 - holdSize)

/-- The module is joined to its partner (R540). -/
def spanJoined (s : State) : Bool := decide (s.span.state = .joined)

/-- The module leads a Span: it serves KMP for both members (R545). -/
def spanLeads (s : State) : Bool := spanJoined s && decide (s.span.role = .leader)

/-- The module follows in a Span. -/
def spanFollows (s : State) : Bool := spanJoined s && decide (s.span.role = .follower)

/-- Add to the nth Span counter in SPAN_STATUS_GET order: 0 REMOTE_PKTS_TX, 1 REMOTE_CELLS_TX, 2 REMOTE_CELLS_RX,
3 SPAN_LAUNCH_DROP, 4 SPAN_REMOTE_DROP, 5 SPAN_RESEQ_TIMEOUTS, 6 SPAN_RESEQ_SKIPPED, 7 RELAYED_MESSAGES, 8 MIRROR_UPDATES,
9 SPLITS. -/
def countSpan (i n : Nat) (s : State) : State :=
  { s with span := { s.span with ctrs := Tbl.upd {} s.span.ctrs i (fun c => c.add64 n) } }

/-- Send a VC0 message to the partner. (DESIGN CHOICE: log entry 210) -/
def sendVc0 (m : Vc0) (s : State) : State := emit (.vc0 m) s

/-- The number a local port has in the tables: its Span port number where they hold those (R536, R552). -/
def ownNum (p : Nat) (s : State) : Nat := if s.span.spanPorts then 128 * s.span.cfg.member + p else p

/-- The leader sends a mirrored change to the follower (R551). -/
def mirror (kind : Nat) (payload : List Byte) (s : State) : State :=
  if spanLeads s then countSpan 8 1 (sendVc0 (.mirror kind payload) s) else s

/-- Relay a KMP message to the partner (R546). (DEDUCED: log entry 224) -/
def relayMsg (r : Relay) (s : State) : State := countSpan 7 1 (sendVc0 (.relay r) s)

/-- The control core is halted by the debugger: its duties stop (R694). -/
def ctlHalted (s : State) : Bool := s.dbg.control.halted

/-- The core that serves KMP is halted: the watch core in Watch, elsewhere the control core (R679, R694). -/
def kmpHalted (s : State) : Bool := if s.sup.mode = .watch then s.dbg.watch.halted else s.dbg.control.halted

/-- A halt of the core that serves KMP waits for the end of a locked sequence: no further one starts on it (R692). -/
def kmpHaltPends (s : State) : Bool := if s.sup.mode = .watch then s.dbg.watch.pend.isSome else s.dbg.control.pend.isSome

/-- The core that serves KMP takes a request (R700). -/
def takeRequest (s : State) : State :=
  if s.sup.mode = .watch ∧ !s.boot.recovery then
    { s with dbg := { s.dbg with watch := { s.dbg.watch with kmpRequests := s.dbg.watch.kmpRequests + 1 } } }
  else { s with dbg := { s.dbg with control := { s.dbg.control with kmpRequests := s.dbg.control.kmpRequests + 1 } } }

/-- Raise an event: it takes the next sequence number (R178), carries the time base of its cause (R179), is held for
delivery (R180) and logged (R728); on a Span follower it is logged and forwarded to the leader (R548). (DESIGN CHOICE: log entry 7) -/
def raise (e : Ev) (reqId : Nat) (adds : List Byte) (s : State) : State :=
  let r : EventRec := { seq := s.kmp.eventSeq, code := e.code, requestId := reqId, payload := tb10 (stamp s) ++ adds }
  let s1 := logEvent e.code s.kmp.eventSeq adds s
  if spanFollows s then
    sendVc0 (.relay (.event e.code r.payload)) { s1 with kmp := { s1.kmp with eventSeq := inc16 s1.kmp.eventSeq } }
  else { s1 with kmp := { s1.kmp with eventSeq := inc16 s1.kmp.eventSeq, hold := holdPush r s1.kmp.hold } }

/-- Raise an event where a condition holds. -/
def raiseIf (b : Bool) (e : Ev) (reqId : Nat) (adds : List Byte) (s : State) : State :=
  if b then raise e reqId adds s else s

/-- Apply a change where a condition holds. -/
def applyIf (b : Bool) (f : State → State) (s : State) : State := if b then f s else s

/-- Apply a change once for each member of a list, in order. -/
def forEach {α : Type} (l : List α) (f : α → State → State) (s : State) : State := l.foldl (fun s a => f a s) s

/-- A report is due: none was made, or the last one is at least `gap` ns ago. -/
def reportDue (last : Option Nat) (gap now : Nat) : Bool :=
  match last with
  | none => true
  | some a => decide (a + gap ≤ now)

/-- Instant `since` lies at least `d` ns back. -/
def heldFor (since : Option Nat) (d now : Nat) : Bool :=
  match since with
  | none => false
  | some a => decide (a + d ≤ now)

/-- A strike window is open at the present instant (R46, R11). -/
def strikeOpen (s : State) : Bool := s.strike.opened && decide (s.elapsed < s.strike.endsElapsed)

/-- Add `n` to kind `k` of the tally of the open window (R726, R727). (DEDUCED: log entry 275) -/
def tallyAdd (k n : Nat) (s : State) : State :=
  if strikeOpen s then
    match s.cnt.tally with
    | [] => s
    | w :: ws => { s with cnt := { s.cnt with tally := { w with kinds := Tbl.upd 0 w.kinds k (fun c => sat32 (c + n)) } :: ws } }
  else s

/-- Change the counters of port `p`. -/
def updPortCtrs (p : Nat) (f : PortCtrs → PortCtrs) (s : State) : State :=
  { s with cnt := { s.cnt with ports := Tbl.upd {} s.cnt.ports p f } }

/-- Change the counters of transport `n`. -/
def updTransportCtrs (n : Nat) (f : TransportCtrs → TransportCtrs) (s : State) : State :=
  { s with cnt := { s.cnt with transports := Tbl.upd {} s.cnt.transports n f } }

/-- A datapath event counter takes part in an event on the scopes given as (kind, index) pairs (R721); scope kind 0 is
the module. -/
def evtMatches (ev : Nat) (scopes : List (Nat × Nat)) (c : EvtCtr) : Bool :=
  decide (c.event = ev) && (decide (c.scopeKind = 0) || scopes.any fun p => decide (p = (c.scopeKind, c.scopeIndex)))

/-- Count `n` of datapath event `ev` in every counter whose scope it falls in (R721). -/
def countEvt (ev : Nat) (scopes : List (Nat × Nat)) (n : Nat) (s : State) : State :=
  { s with cnt := { s.cnt with events := s.cnt.events.map fun p =>
      (p.1, if evtMatches ev scopes p.2 then { p.2 with value := p.2.value.add64 n } else p.2) } }

/-- A message discarded without response on a transport, counted under R150, R164 or R229 (R721 event 0x19). -/
def countDiscard (tr : Nat) (f : TransportCtrs → TransportCtrs) (s : State) : State :=
  countEvt 0x19 [(5, tr)] 1 (updTransportCtrs tr f s)

end Sys2Proof.Machine
end

