-- ==== Sys2Proof/Machine/PlaneOps.lean ====
section
/-! DEFINITION. Machine/PlaneOps.lean: ports, queues and Decks as every family changes them (R302, R481, R500, R504). -/

namespace Sys2Proof.Machine

open Sys2Proof

/-- Port `p`. -/
def portOf (p : Nat) (s : State) : Port := Tbl.get {} s.ports.port p

/-- Change port `p`. -/
def updPort (p : Nat) (f : Port → Port) (s : State) : State :=
  { s with ports := { s.ports with port := Tbl.upd {} s.ports.port p f } }

/-- Lane `l`. -/
def laneOf (l : Nat) (s : State) : Lane := Tbl.get {} s.lanes.lane l

/-- Change lane `l`. -/
def updLane (l : Nat) (f : Lane → Lane) (s : State) : State :=
  { s with lanes := { s.lanes with lane := Tbl.upd {} s.lanes.lane l f } }

/-- Causeway link on lane `l`. -/
def linkOf (l : Nat) (s : State) : CwLink := Tbl.get {} s.cw.link l

/-- Change the link on lane `l`. -/
def updLink (l : Nat) (f : CwLink → CwLink) (s : State) : State :=
  { s with cw := { s.cw with link := Tbl.upd {} s.cw.link l f } }

/-- Lanes of a port TYPE (R297). -/
def typeLanes : Nat → Nat
  | 5 => 4
  | 6 => 2
  | 7 => 4
  | _ => 1

/-- Lane RATE of a port TYPE (R297). -/
def typeRate : Nat → Nat
  | 1 => 1
  | 2 => 2
  | 3 => 3
  | 4 => 4
  | 5 => 3
  | _ => 4

/-- Nominal Gbit/s of a port TYPE (R504). -/
def typeGbps : Nat → Nat
  | 1 => 1
  | 2 => 10
  | 3 => 25
  | 4 => 50
  | 5 => 100
  | 6 => 100
  | _ => 200

/-- The lanes of port `p`. -/
def portLanes (p : Nat) (s : State) : List Nat := (List.range (typeLanes (portOf p s).typ)).map (p + ·)

/-- A keep port as R60 wants it: formed as 1000BASE-X or 10GBASE-R. -/
def keepPortFit (p : Nat) (s : State) : Bool := decide ((portOf p s).typ = 1 ∨ (portOf p s).typ = 2)

/-- The present mode runs port `p` (R31, R299). -/
def portRuns (p : Nat) (s : State) : Bool :=
  match s.sup.mode with
  | .full => decide ((portOf p s).typ ≠ 0)
  | .span => decide ((portOf p s).typ ≠ 0)
  | .keep => s.sup.keepPorts.contains p && keepPortFit p s
  | _ => false

/-- Port `p` is a trunk port: a Causeway link is formed on its lane (R329). -/
def isTrunk (p : Nat) (s : State) : Bool := decide (p < 128) && (linkOf p s).formed

/-- The forwarding engine and the MAC treat port `p` as up (R300, R353). -/
def portUp (p : Nat) (s : State) : Bool :=
  if isTrunk p s then decide ((linkOf p s).state = .up ∨ (linkOf p s).state = .hold) else (portOf p s).link

/-- The Deck of a port (R18). -/
def deckNum (p : Nat) : Nat := p / 16

/-- Deck `d`. -/
def deckOf (d : Nat) (s : State) : Deck := Tbl.get {} s.dp.deck d

/-- Change Deck `d`. -/
def updDeck (d : Nat) (f : Deck → Deck) (s : State) : State :=
  { s with dp := { s.dp with deck := Tbl.upd {} s.dp.deck d f } }

/-- Index of queue `q` of port `p`. -/
def qKey (p q : Nat) : Nat := p * 8 + q

/-- Queue `q` of port `p`. -/
def queueOf (p q : Nat) (s : State) : Queue := Tbl.get {} s.dp.queue (qKey p q)

/-- Change queue `q` of port `p`. -/
def updQueue (p q : Nat) (f : Queue → Queue) (s : State) : State :=
  { s with dp := { s.dp with queue := Tbl.upd {} s.dp.queue (qKey p q) f } }

/-- Egress of port `p`. -/
def egressOf (p : Nat) (s : State) : Egress := Tbl.get {} s.dp.egress p

/-- Change the egress of port `p`. -/
def updEgress (p : Nat) (f : Egress → Egress) (s : State) : State :=
  { s with dp := { s.dp with egress := Tbl.upd {} s.dp.egress p f } }

/-- Length of a queue: its entries, a frame in transmission among them (R480, R481). (DEDUCED: log entry 192) -/
def qlen (x : Queue) : Nat := x.ready.length + x.reserved + x.busy

/-- The class is protected (R502). -/
def classProtected (c : Nat) (s : State) : Bool := bitOf s.dp.protClasses c

/-- Free cells, descriptors and entries of a Deck; frees count as made in the present slot (R484). (DESIGN CHOICE: log entry 191) -/
def deckFree (d cells desc entries : Nat) (s : State) : State :=
  updDeck d (fun y =>
    { y with
      freeCells := y.freeCells + cells
      freeDesc := y.freeDesc + desc
      freeEntries := y.freeEntries + entries
      slotCells := y.slotCells + cells
      slotDesc := y.slotDesc + desc
      slotEntries := y.slotEntries + entries }) s

/-- A queue gives up a packet: its entry is freed, and the packet's cells and descriptor with its last reference (R481). -/
def releaseRef (d id : Nat) (s : State) : State :=
  match Tbl.get none (deckOf d s).stored id with
  | none => s
  | some x =>
    if x.refs ≤ 1 then
      deckFree d x.cells 1 1 (updDeck d (fun y => { y with stored := Tbl.set none y.stored id none }) s)
    else
      deckFree d 0 0 1 (updDeck d (fun y => { y with stored := Tbl.set none y.stored id (some { x with refs := x.refs - 1 }) }) s)

/-- A mode drop on port `p` (R50). -/
def countModeDrop (p : Nat) (s : State) : State :=
  countEvt 0x07 [(1, p)] 1 (updPortCtrs p (fun c => { c with modeDrops := c.modeDrops.add64 1 }) s)

/-- A link-down drop on port `p` (R301, R302). (DEDUCED: log entry 188) -/
def countLinkDrop (p : Nat) (s : State) : State :=
  countEvt 0x08 [(1, p)] 1 (updPortCtrs p (fun c => { c with linkDownDrops := c.linkDownDrops.add64 1 }) s)

/-- Drop from queue `q` of port `p` the waiting packets that `gone` names, as mode drops (R50). -/
def dropFromQueue (gone : Packet → Bool) (p q : Nat) (s : State) : State :=
  let d := deckNum p
  let isGone : QEntry → Bool := fun e =>
    match Tbl.get none (deckOf d s).stored e.id with
    | some x => gone x.pkt
    | none => true
  let out := (queueOf p q s).ready.filter isGone
  let s1 := updQueue p q (fun y => { y with ready := y.ready.filter fun e => !isGone e }) s
  forEach out (fun e s => countModeDrop p (releaseRef d e.id s)) s1

/-- Drop waiting packets of every queue of port `p`. -/
def dropFromPort (gone : Packet → Bool) (p : Nat) (s : State) : State :=
  forEach (List.range 8) (fun q s => dropFromQueue gone p q s) s

/-- Packets still being written to port `p` are abandoned when their last cell arrives (R500). -/
def abandonWrites (p : Nat) (s : State) : State :=
  updDeck (deckNum p) (fun y =>
    { y with reseq := y.reseq.map fun r =>
        (r.1, { r.2 with writing := r.2.writing.map fun w =>
          if w.admitted.contains p then
            { w with admitted := w.admitted.filter (fun x => decide (x ≠ p)), abandoned := w.abandoned ++ [p] }
          else w }) }) s


/-- The frame in transmission leaves: its entry and its reference are freed (R481). -/
def endSending (p : Nat) (s : State) : State :=
  match (egressOf p s).sending with
  | none => s
  | some x =>
    releaseRef (deckNum p) x.id (updQueue p x.queue (fun y => { y with busy := y.busy - 1 })
      (updEgress p (fun y => { y with sending := none }) s))

/-- A frame in transmission as the link goes down is ended with an error and counted (R302); one that is dropped under R517
goes on. -/
def abortSending (p : Nat) (s : State) : State :=
  match (egressOf p s).sending with
  | none => s
  | some x => if x.dropped then s else endSending p (countLinkDrop p s)

/-- A port stops or is re-formed: what its queues hold is dropped (R50, R318, R500). -/
def dropPort (p : Nat) (s : State) : State := abandonWrites p (dropFromPort (fun _ => true) p (endSending p s))

/-- A dynamic bridge entry (R446, R449, R459). -/
def isDynamic (e : BEntry) : Bool := !e.static && !e.image

/-- Remove the dynamic bridge entries that `gone` names (R448, R449, R458). (DEDUCED: log entry 181) -/
def removeDynamic (gone : BEntry → Bool) (s : State) : State :=
  { s with fwd := { s.fwd with live := { s.fwd.live with
      bridge := s.fwd.live.bridge.filter fun x =>
        match x.2 with
        | some e => !(isDynamic e && gone e)
        | none => false } } }

/-- Dynamic bridge entries that `gone` names. -/
def countDynamic (gone : BEntry → Bool) (s : State) : Nat :=
  (s.fwd.live.bridge.filter fun x =>
    match x.2 with
    | some e => isDynamic e && gone e
    | none => false).length

/-- A bridge result that is port `p` (R430). -/
def resultIsPort (p r : Nat) : Bool := decide (r = p)

/-- Learning settings of a port. -/
def portLearn (p : Nat) (s : State) : PortLearn := Tbl.get {} s.fwd.learn p

/-- A port has gone down: FLUSH_ON_DOWN (R448). (DEDUCED: log entry 181) -/
def flushOnDown (p : Nat) (s : State) : State :=
  if (portLearn p s).flushOnDown then
    mirror 1 (enc [(1, ownNum p s), (1, 0), (2, 0)]) (removeDynamic (fun e => resultIsPort (ownNum p s) e.result) s)
  else s

/-- Why the link of port `p` is down, as DOWN_CAUSE (R316 table). -/
def downCause (p : Nat) (s : State) : Nat :=
  let x := portOf p s
  let cage := Tbl.get {} s.ports.cage p
  if x.typ = 0 ∨ x.link then 0
  else if x.adminDown then 1
  else if !portRuns p s then 7
  else if (portLanes p s).any fun l => decide ((laneOf l s).tx ≠ .active ∨ (laneOf l s).rx ≠ .active) then 6
  else if cage.mapped && cage.present && decide (cage.ident ≠ 3) && !cage.ready then 9
  else if x.failed = 0 then 2
  else x.failed

/-- EV_PORT_LINK, at most once per port per second (R323). (DEDUCED: log entry 127) -/
def portLinkEvent (p : Nat) (s : State) : State :=
  let x := portOf p s
  if reportDue x.lastEvent (sNs 1) s.elapsed then
    raise .portLink 0 (enc [(1, p), (1, b2n x.link), (1, downCause p s), (4, x.unreported)])
      (updPort p (fun y => { y with lastEvent := some s.elapsed, unreported := 0 }) s)
  else updPort p (fun y => { y with unreported := y.unreported + 1 }) s

/-- The link of port `p` goes up (R300). -/
def portGoesUp (p : Nat) (anDone : Bool) (s : State) : State :=
  portLinkEvent p (updPort p (fun y =>
    { y with link := true, anDone := anDone, failed := 0, changes := inc32 y.changes, since := s.tb.now }) s)

/-- The link of port `p` goes down with a cause (R300, R302, R326, R448). -/
def portGoesDown (p cause : Nat) (s : State) : State :=
  if (portOf p s).link then
    let s1 := updPort p (fun y =>
      { y with link := false, failed := cause, changes := inc32 y.changes, since := s.tb.now }) s
    portLinkEvent p (flushOnDown p (abortSending p s1))
  else updPort p (fun y => { y with failed := cause }) s

/-- The port that owns lane `l`, where one does (R251, R299). -/
def portOfLane (l : Nat) (s : State) : Option Nat :=
  [l, l - 1, l - 2, l - 3].find? fun p =>
    decide ((portOf p s).typ ≠ 0) && decide (p ≤ l) && decide (l < p + typeLanes (portOf p s).typ)

end Sys2Proof.Machine
end

