-- ==== Sys2Proof/Machine/CwOps.lean ====
section
/-! DEFINITION. Machine/CwOps.lean: the states of a Causeway link, hold and flush (R333, R350 to R357). -/

namespace Sys2Proof.Machine

open Sys2Proof

/-- STATE codes (R358 table). -/
def CwState.code : CwState → Nat
  | .off => 0
  | .train => 1
  | .init => 2
  | .up => 3
  | .hold => 4

/-- Sequence numbers of a link count modulo 2^13 in trunk mode and 2^16 in joint mode (R335, R340). -/
def cwMod (x : CwLink) : Nat := if x.joint then 65536 else 8192

/-- `a` after `b` on the link's circle. -/
def cwDist (x : CwLink) (a b : Nat) : Nat := (a + cwMod x - b % cwMod x) % cwMod x

/-- Bytes of a full DATA unit (R332). -/
def dataBytes (joint : Bool) : Nat := if joint then 28 else 30

/-- Add to the nth 64-bit counter of a link: 0 TX_UNITS, 1 RX_UNITS, 2 REPLAYED_UNITS, 3 FEC_CORRECTED, 4 FEC_SYMBOLS,
5 REPLAY_STALL_US, 6 CREDIT_STALL_US, 7 FLUSHED_PACKETS, 8 FLUSHED_BYTES. -/
def cwWide (l n k : Nat) (s : State) : State :=
  updLink l (fun y => { y with wide := Tbl.upd {} y.wide n (fun c => c.add64 k) }) s

/-- Add to the nth 32-bit counter of a link: 0 REPLAYS, 1 CRC_FAIL, 2 FEC_UNCORRECTABLE, 3 DUPLICATES, 4 HOLDS,
5 RESUMES, 6 FLUSHES, 7 STRIKE_CRC_FAIL, 8 STRIKE_REPLAYS. -/
def cwNarrow (l n k : Nat) (s : State) : State :=
  updLink l (fun y => { y with narrow := Tbl.upd {} y.narrow n (fun c => c.add32 k) }) s

/-- A unit that failed its check (R333, R341, R347). -/
def cwCrcFail (l : Nat) (s : State) : State :=
  let s1 := countEvt 0x14 [(4, l)] 1 (cwNarrow l 1 1 s)
  if strikeOpen s1 then tallyAdd 1 1 (cwNarrow l 7 1 s1) else s1

/-- Enter a state, reporting at most once per lane per second (R357, R361). -/
def cwEnter (l : Nat) (st : CwState) (cause : Nat) (s : State) : State :=
  let x := linkOf l s
  if x.state = st then s
  else
    let s1 := updLink l (fun y => { y with state := st, lastCause := cause, since := s.tb.now }) s
    if reportDue x.lastEvent (sNs 1) s.elapsed then
      raise .cwLink 0 (enc [(1, l), (1, x.state.code), (1, st.code), (1, cause), (4, x.unreported)])
        (updLink l (fun y => { y with lastEvent := some s.elapsed, unreported := 0 }) s1)
    else updLink l (fun y => { y with unreported := y.unreported + 1 }) s1

/-- KIND of a flow unit (R332). -/
def unitKind (u : List Byte) : Nat := f1 u 0 / 32

/-- VC of a DATA unit. -/
def unitVc (u : List Byte) : Nat := f1 u 0 / 8 % 4

/-- SOP of a DATA unit. -/
def unitSop (u : List Byte) : Bool := bitOf (f1 u 0) 2

/-- EOP of a DATA unit. -/
def unitEop (u : List Byte) : Bool := bitOf (f1 u 0) 1

/-- BYTES of a DATA unit. -/
def unitBytes (u : List Byte) : Nat := f1 u 0 % 2 * 16 + f1 u 1 / 16

/-- Valid bytes of a DATA unit: BYTES with EOP, all of DATA_BYTES otherwise (R332). -/
def unitValid (joint : Bool) (u : List Byte) : Nat := if unitEop u then unitBytes u else dataBytes joint

/-- The DATA units a link keeps. -/
def keptData (x : CwLink) : List (List Byte) := (x.kept.flatMap fun k => k.units).filter fun u => decide (unitKind u = 1)

/-- Packets of one channel with a part in a list of DATA units. -/
def packetsIn (us : List (List Byte)) : Nat :=
  match us with
  | [] => 0
  | u :: _ => (us.filter unitSop).length + b2n (!unitSop u)

/-- Packets a flush discards: those kept, those that wait, those held, and those being received (R354). -/
def flushPackets (x : CwLink) : Nat :=
  let d := keptData x
  let per := (List.range 4).map fun v =>
    let us := d.filter fun u => decide (unitVc u = v)
    let waiting := x.txq.filter fun e => decide (e.1 = v)
    packetsIn us + (waiting.filter fun e => !e.2.2).length +
      (if us = [] then (waiting.filter fun e => e.2.2).length else 0)
  per.sum + x.hold.length + (x.partials.filter Option.isSome).length

/-- Bytes a flush discards (R354). -/
def flushBytes (x : CwLink) : Nat :=
  ((keptData x).map (unitValid x.joint)).sum + (x.txq.map fun e => e.2.1.length).sum +
    (x.hold.map fun e => e.2.length).sum + (x.partials.map fun p => ((p.map fun y => y.2.length).getD 0)).sum

/-- Bytes in the hold store (R358 table). -/
def heldBytes (x : CwLink) : Nat := (x.hold.map fun e => e.2.length).sum

/-- EV_CW_HOLD (R361). (DESIGN CHOICE: log entry 136) -/
def cwHoldEvent (l action packets bytes us : Nat) (s : State) : State :=
  raise .cwHold 0 (enc [(1, l), (1, action), (8, packets), (8, bytes), (4, us)]) s

/-- Forget what a flush discards and what a fresh link starts from (R352, R354). -/
def clearLink (y : CwLink) : CwLink :=
  { y with
    kept := []
    txq := []
    hold := []
    partials := [none, none, none, none]
    replayFrom := none
    markDue := false
    nakFrom := none
    replayRun := 0
    rxNext := 0
    lineSeq := 0
    txNext := 0
    replayWait := false
    nakAt := none
    ackSent := 0
    ackSince := none
    creditSince := none
    peerFreed := [0, 0, 0, 0]
    sentUnits := [0, 0, 0, 0]
    freed := [0, 0, 0, 0]
    freedSent := [0, 0, 0, 0]
    ctrl := []
    graceEnd := 0
    graceAt := none
    resumeFrom := none
    stallSince := none
    creditStall := none
    fecRun := 0 }

/-- A flush (R354); one from a mode change counts mode drops. -/
def cwFlush (l : Nat) (modeChange : Bool) (s : State) : State :=
  let x := linkOf l s
  let n := flushPackets x
  let b := flushBytes x
  let us := if x.state = .hold then (s.elapsed - x.holdAt) / 1000 else 0
  let s1 := cwNarrow l 6 1 (cwWide l 8 b (cwWide l 7 n s))
  let s2 := countEvt 0x15 [(4, l)] n (updLink l clearLink s1)
  let s3 := if modeChange ∧ l < 128 then
      countEvt 0x07 [(1, l)] n (updPortCtrs l (fun c => { c with modeDrops := c.modeDrops.add64 n }) s2) else s2
  let s4 := if l < 128 ∧ (x.state = .up ∨ x.state = .hold) then flushOnDown l s3 else s3
  cwHoldEvent l 2 n b us s4

/-- The next incarnation: BOOT_COUNT [15:0], or 1, at first; later the next value, skipping 0 (R350). -/
def nextIncarnation (boot cur : Nat) : Nat :=
  if cur = 0 then (if boot % 65536 = 0 then 1 else boot % 65536)
  else if (cur + 1) % 65536 = 0 then 1 else (cur + 1) % 65536

/-- Take a new incarnation. (DEDUCED: log entry 138) -/
def takeIncarnation (l : Nat) (s : State) : State :=
  updLink l (fun y => { y with incarnation := nextIncarnation s.boot.bootCount y.incarnation }) s

/-- The line is good: alignment, and in trunk mode FEC lock (R357). -/
def lineGood (l : Nat) (s : State) : Bool :=
  decide ((laneOf l s).align = .locked) && ((linkOf l s).joint || (linkOf l s).fecLock)

/-- Enter INIT, or TRAIN without line, after a flush (R357). -/
def cwRestart (l cause : Nat) (s : State) : State :=
  if lineGood l s then cwEnter l .init cause (takeIncarnation l s) else cwEnter l .train cause s

/-- Enter HOLD (R353). -/
def enterHold (l cause : Nat) (s : State) : State :=
  let x := linkOf l s
  let g := msNs x.graceMs
  let s1 := updLink l (fun y =>
    { y with
      graceEnd := s.tb.now + g
      graceAt := some (s.elapsed + g)
      holdAt := s.elapsed
      holdQuota := y.quotaMiB
      resumeFrom := some y.peerIncarnation
      replayFrom := none
      markDue := false }) s
  cwHoldEvent l 0 (flushPackets x) (flushBytes x) 0 (cwEnter l .hold cause (cwNarrow l 4 1 s1))

/-- A joint lane of LANE_MASK. -/
def spanLane (l : Nat) (s : State) : Bool := decide (128 ≤ l) && bitOf s.span.cfg.laneMask (l - 128)

/-- The join state changes (R541). -/
def enterJoin (j : Join) (s : State) : State :=
  { s with span := { s.span with state := j, since := s.tb.now, enteredAt := s.elapsed, probing := false } }

/-- A joint lane has reached LOCKED while a join is probed (R541). -/
def spanAligned (l : Nat) (s : State) : State :=
  if spanLane l s ∧ (s.span.state = .probe ∨ s.span.state = .alone ∧ s.span.probing) then enterJoin .link s else s

/-- The line has come up (R357). -/
def lineUp (l : Nat) (s0 : State) : State :=
  let s := spanAligned l s0
  let x := linkOf l s
  if x.formed ∧ lineGood l s then
    let s1 := updLink l (fun y => { y with lostSince := none }) s
    if x.state = .train then cwEnter l .init 0 (takeIncarnation l s1) else s1
  else s

/-- The line has been lost (R338, R357). -/
def lineDown (l : Nat) (s : State) : State :=
  let x := linkOf l s
  if x.formed then
    updLink l (fun y =>
      { y with
        fecLock := if (laneOf l s).align = .locked then y.fecLock else false
        lostSince := match y.lostSince with
          | none => some s.elapsed
          | some a => some a }) s
  else s

end Sys2Proof.Machine
end

