-- ==== Sys2Proof/Machine/Strike.lean ====
section
/-! DEFINITION. Machine/Strike.lean: the VIN measurement and strike windows (R34, R45 to R47, R63, R67, R71, R280, R726). -/

namespace Sys2Proof.Machine

open Sys2Proof

/-- VIN for every threshold decision: 0 while the input switch is open (R23, R71, R772). -/
def vinEff (s : State) : Nat := if s.sw.ovCut || s.sw.thermalCut then 0 else s.sw.landMv

/-- Instant since when a condition holds. -/
def sinceWhen (b : Bool) (now : Nat) (since : Option Nat) : Option Nat :=
  if b then (match since with
    | some a => some a
    | none => some now)
  else none

/-- Since when VIN has been below OFF of a mode (R34). -/
def belowSince (m : Mode) (s : State) : Option Nat :=
  match m with
  | .off => none
  | .shelf => none
  | .watch => s.sup.belowWatch
  | .keep => s.sup.belowKeep
  | .freeze => s.sup.belowKeep
  | .full => s.sup.belowFull
  | .span => s.sup.belowFull

/-- The dip below OFF of the present mode that a change of VIN ends (R36); a new dip withdraws an earlier one. (DEDUCED: log entry 21) -/
def dipAfter (old new : Option Nat) (now : Nat) (d : Option (Nat × Nat)) : Option (Nat × Nat) :=
  match old, new with
  | some a, none => some (a, now)
  | none, some _ => none
  | _, _ => d

/-- The threshold comparators after a change of VIN (R33, R34, R37, R67). -/
def compareLevels (s : State) : State :=
  let v := vinEff s
  let th := s.sup.th
  { s with sup :=
      { s.sup with
        belowFull := sinceWhen (decide (v < th.fullOff)) s.elapsed s.sup.belowFull
        belowKeep := sinceWhen (decide (v < th.keepOff)) s.elapsed s.sup.belowKeep
        belowWatch := sinceWhen (decide (v < th.watchOff)) s.elapsed s.sup.belowWatch
        onFull := sinceWhen (decide (th.fullOn ≤ v)) s.elapsed s.sup.onFull
        onKeep := sinceWhen (decide (th.keepOn ≤ v)) s.elapsed s.sup.onKeep
        onWatch := sinceWhen (decide (th.watchOn ≤ v)) s.elapsed s.sup.onWatch } }

/-- The comparators, and the dip of the present mode that the change ends (R33, R34, R36). -/
def compareVin (s : State) : State :=
  let s1 := compareLevels s
  { s1 with sup :=
      { s1.sup with dip := dipAfter (belowSince s.sup.mode s) (belowSince s.sup.mode s1) s.elapsed s.sup.dip } }

/-- VIN in a strike window's peak, at 100 mV resolution (R52 table). (DESIGN CHOICE: log entry 20) -/
def peakOf (s : State) : Nat := s.sw.landMv / 100 * 100

/-- VIN is measured: the peak of an open strike window, the comparators. (DEDUCED: log entry 18) -/
def setVin (mv : Nat) (s : State) : State :=
  let s1 := { s with sw := { s.sw with landMv := mv } }
  let s2 := if strikeOpen s1 then { s1 with strike := { s1.strike with peakMv := max s1.strike.peakMv (peakOf s1) } } else s1
  compareVin s2

/-- The end of the open window (R47): the tally keeps its end. -/
def endTally (s : State) : State :=
  match s.cnt.tally with
  | [] => s
  | w :: ws => { s with cnt := { s.cnt with tally := { w with opened := false, endsAt := s.strike.endsAt } :: ws } }

/-- Close the open strike window (R47). -/
def closeStrike (s : State) : State :=
  let s1 := endTally { s with strike := { s.strike with opened := false } }
  setCause causeStrike (raise .strikeClose 0
    (enc [(2, s.strike.id), (1, s.strike.seen), (2, s.strike.triggers), (2, s.strike.peakMv)]) s1)

/-- Open a strike window by a trigger at elapsed instant `at0` of source `src` (R46). (DEDUCED: log entry 275) -/
def openStrike (src at0 : Nat) (s : State) : State :=
  let id := inc16 s.strike.id
  let back := s.elapsed - at0
  let openedTb := stamp s - back
  let holdNs := msNs s.strike.holdMs
  let s1 := { s with
    strike := { s.strike with
      id := id
      opened := true
      seen := 2 ^ src
      windowHoldMs := s.strike.holdMs
      openedAt := openedTb
      endsAt := openedTb + holdNs
      openedElapsed := at0
      endsElapsed := at0 + holdNs
      peakMv := peakOf s
      triggers := 1
      windows := inc32 s.strike.windows }
    cnt := { s.cnt with tally := (⟨id, true, openedTb, openedTb + holdNs, []⟩ :: s.cnt.tally).take 16 } }
  setCause causeStrike (raise .strikeOpen 0 (enc [(2, id), (1, src)]) s1)

/-- Extend the open window by a trigger at elapsed instant `at0` (R46). -/
def extendStrike (src at0 : Nat) (s : State) : State :=
  let w := s.strike
  let newEnd := max w.endsElapsed (at0 + msNs w.windowHoldMs)
  let s1 := { s with strike :=
    { w with
      seen := if bitOf w.seen src then w.seen else w.seen + 2 ^ src
      endsElapsed := newEnd
      endsAt := w.endsAt + (newEnd - w.endsElapsed)
      triggers := min (w.triggers + 1) 65535 } }
  match s1.cnt.tally with
  | [] => s1
  | k :: ks => { s1 with cnt := { s1.cnt with tally := { k with endsAt := s1.strike.endsAt } :: ks } }

/-- The window has reached its end without being closed yet. (DEDUCED: log entry 19) -/
def strikeOverdue (s : State) : Bool := s.strike.opened && decide (s.strike.endsElapsed ≤ s.elapsed)

/-- A strike trigger of source `src` (0 surge level, 1 slew, 2 lane impairment) at elapsed instant `at0` (R45, R46, R280);
a source that STRIKE_CONFIG_SET leaves out triggers nothing. (DEDUCED: log entry 19) -/
def strikeTrigger (src at0 : Nat) (s : State) : State :=
  if bitOf s.strike.sources src then
    let s1 := if strikeOverdue s then closeStrike s else s
    if s1.strike.opened then extendStrike src at0 s1 else openStrike src at0 s1
  else s

/-- The Abutment runs, and with it the VIN monitor. -/
def abutmentOn (s : State) : Bool := decide (s.sup.mode ≠ .off)

/-- SURGE_TRIGGER: VIN has exceeded SURGE_MV for 1 µs (R45). -/
def surgeTriggerEffect (t mv : Nat) (s0 : State) : State :=
  let s := advance t s0
  if abutmentOn s then
    let s1 := setVin mv s
    if s.strike.surgeMv < mv then strikeTrigger 0 s1.elapsed s1 else s1
  else s

/-- SLEW_TRIGGER: VIN has changed faster than SLEW_MV_PER_US (R45). (DEDUCED: log entry 18) -/
def slewTriggerEffect (t mv : Nat) (s0 : State) : State :=
  let s := advance t s0
  if abutmentOn s then strikeTrigger 1 s.elapsed (setVin mv s) else s

/-- SURGE_TRIGGER. -/
def execSurgeTrigger (t : Nat) (mv : Nat) (s : State) : Host.Outcome State Fault Refusal := .next (surgeTriggerEffect t mv s)

/-- SLEW_TRIGGER. -/
def execSlewTrigger (t : Nat) (mv : Nat) (s : State) : Host.Outcome State Fault Refusal := .next (slewTriggerEffect t mv s)

end Sys2Proof.Machine
end

