-- ==== Sys2Proof/Machine/LaneOps.lean ====
section
/-! DEFINITION. Machine/LaneOps.lean: halves, receive lock, alignment and ownership of a lane (R250 to R264, R289 to R295). -/

namespace Sys2Proof.Machine

open Sys2Proof

/-- Default FFE weights of a RATE (R255). (DESIGN CHOICE: log entry 116) -/
def ffeDefault : Nat → List Int
  | 1 => [0, 63, 0, 0]
  | 2 => [-4, 52, -7, 0]
  | 3 => [-6, 46, -10, -1]
  | 4 => [-6, 46, -10, -1]
  | 5 => [-7, 44, -11, -1]
  | _ => (List.range 4).map Config.ffeNoRate

/-- A set of FFE weights is valid (R255). -/
def ffeValid (w : List Int) : Bool :=
  match w with
  | [m1, c0, p1, p2] =>
    decide (m1.natAbs + c0.natAbs + p1.natAbs + p2.natAbs ≤ 63) && decide (24 ≤ c0) && decide (m1.natAbs ≤ 15) &&
      decide (p1.natAbs ≤ 24) && decide (p2.natAbs ≤ 8)
  | _ => false

/-- The lane-reference synthesiser of a lane (R253). -/
def laneGroup (l : Nat) : Nat := if l < 128 then l / 32 else (l - 128) / 4

/-- The lanes of a group (R253). -/
def groupLanes (g : Nat) : List Nat := (List.range 32).map (32 * g + ·) ++ (List.range 4).map (128 + 4 * g + ·)

/-- A lane counts as formed for its reference: a half is not OFF, or waits for its PLL (R77, R253). -/
def laneRuns (x : Lane) : Bool := decide (x.tx ≠ .off ∨ x.rx ≠ .off ∨ x.txGoal ≠ .off ∨ x.rxGoal ≠ .off)

/-- The lane reference of a group runs while a lane of it is formed (R77). -/
def refreshRef (l : Nat) (s : State) : State :=
  let g := laneGroup l
  let runs := (groupLanes g).any fun k => laneRuns (laneOf k s)
  let others := s.clk.laneRefs.filter fun k => decide (k ≠ g)
  { s with clk := { s.clk with laneRefs := if runs then others ++ [g] else others } }

/-- EV_LANE_RX_LOCK, at most once per lane per second (R287). -/
def rxLockEvent (l : Nat) (locked warm : Bool) (s : State) : State :=
  let x := laneOf l s
  if reportDue x.lastLockEvent (sNs 1) s.elapsed then
    raise .laneRxLock 0 (enc [(1, l), (1, b2n locked), (1, b2n warm), (4, x.unreported)])
      (updLane l (fun y => { y with lastLockEvent := some s.elapsed, unreported := 0 }) s)
  else updLane l (fun y => { y with unreported := y.unreported + 1 }) s

/-- EV_CW_ALIGN (R276): 1 locked, 0 lost. (DESIGN CHOICE: log entry 117) -/
def alignEvent (l : Nat) (locked : Bool) (s : State) : State := raise .cwAlign 0 (enc [(1, l), (1, b2n locked)]) s

/-- Alignment goes to a state; leaving LOCKED is reported and ends the line (R276, R338). -/
def alignTo (l : Nat) (st : CwAlign) (s : State) : State :=
  let x := laneOf l s
  let s1 := updLane l (fun y => { y with align := st, count := 0, miss := 0 }) s
  if x.align = .locked then lineDown l (alignEvent l false s1) else s1

/-- Bits per ns of a RATE, as a fraction (R252). -/
def bitRate : Nat → Nat × Nat
  | 1 => (5, 4)
  | 2 => (165, 16)
  | 3 => (825, 32)
  | 4 => (425, 8)
  | 5 => (225, 4)
  | _ => (0, 1)

/-- BITS at the present instant (R267). -/
def prbsBits (x : Lane) (now : Nat) : Ctr :=
  if x.test.locked then x.test.bits.add64 ((now - x.test.lockedAt) * (bitRate x.rate).1 / (bitRate x.rate).2) else x.test.bits

/-- The checker stops comparing: its bits so far are kept. (DEDUCED: log entry 114) -/
def prbsStop (l : Nat) (s : State) : State :=
  updLane l (fun y => { y with test := { y.test with bits := prbsBits y s.elapsed, locked := false } }) s

/-- A strike window was open during some part of the scan that runs (R290). -/
def scanStruck (c : Scan) (s : State) : Bool := c.strike || strikeOpen s || decide (c.strikeId ≠ s.strike.id)

/-- FLAGS of an eye scan. -/
def eyeFlags (e : EyeScan) : Nat := flags [e.valid, e.strike, e.aborted]

/-- The running scan ends (R268, R290). -/
def endScan (aborted : Bool) (values : List (Nat × Nat)) (s : State) : State :=
  match s.lanes.scan with
  | none => s
  | some c =>
    let e : EyeScan := { eyes := if (laneOf c.lane s).rate ≤ 3 then 1 else 3, valid := !aborted, strike := scanStruck c s,
                         aborted := aborted, dwell := c.dwell, finishedAt := s.tb.now, values := values }
    let s1 := updLane c.lane (fun y => { y with eye := e }) { s with lanes := { s.lanes with scan := none } }
    raise .laneEyeDone 0 (enc [(1, c.lane), (1, eyeFlags e)]) s1

/-- A scan on lane `l` is aborted (R290). -/
def abortScan (l : Nat) (s : State) : State :=
  if s.lanes.scan.any fun c => c.lane == l then endScan true [] s else s

/-- CDR lock is lost (R276, R290). (DEDUCED: log entry 114) -/
def loseCdr (l : Nat) (s : State) : State :=
  if (laneOf l s).cdr then
    let s1 := updLane l (fun y => { y with cdr := false, acqAt := s.elapsed }) (abortScan l (prbsStop l s))
    alignTo l .idle (rxLockEvent l false false s1)
  else s

/-- Cold acquisition starts anew on an ACTIVE receive half (R258, R283). -/
def coldAcquire (l : Nat) (s : State) : State :=
  updLane l (fun y => { y with warm := false, acqAt := s.elapsed }) (loseCdr l s)

/-- The receive half reaches ACTIVE (R262). (DEDUCED: log entry 112) -/
def rxActivate (l : Nat) (warm : Bool) (s : State) : State :=
  updLane l (fun y =>
    { y with rx := .active, rxGoal := .off, warm := warm, rxActiveAt := s.elapsed, acqAt := s.elapsed }) s

/-- The receive half is told to go to a state; from OFF it waits for its lane PLL (R262). -/
def setRx (l : Nat) (h : Half) (s : State) : State :=
  let x := laneOf l s
  match h with
  | .off => refreshRef l (updLane l (fun y => { y with rx := .off, rxGoal := .off, signal := false, warm := false }) (loseCdr l s))
  | .sleep =>
    match x.rx with
    | .off => refreshRef l (updLane l (fun y => { y with rxGoal := .sleep }) s)
    | _ => updLane l (fun y => { y with rx := .sleep, rxGoal := .off, signal := false, warm := false }) (loseCdr l s)
  | .active =>
    match x.rx with
    | .off => refreshRef l (updLane l (fun y => { y with rxGoal := .active }) s)
    | .sleep => rxActivate l true s
    | .active => s

/-- The transmit half is told to go to a state (R262). (DEDUCED: log entry 112) -/
def setTx (l : Nat) (h : Half) (s : State) : State :=
  let x := laneOf l s
  match h with
  | .off => refreshRef l (updLane l (fun y => { y with tx := .off, txGoal := .off }) s)
  | _ =>
    match x.tx with
    | .off => refreshRef l (updLane l (fun y => { y with txGoal := h }) s)
    | _ => updLane l (fun y => { y with tx := h, txGoal := .off }) s

/-- An owner takes a lane at a RATE and brings both halves to ACTIVE (R251, R285, R299, R357). -/
def ownLane (l : Nat) (o : LaneOwner) (rate : Nat) (s : State) : State :=
  setRx l .active (setTx l .active (updLane l (fun y => { y with owner := o, rate := rate }) s))

/-- Both halves go OFF. -/
def lanesOff (l : Nat) (s : State) : State := setRx l .off (setTx l .off s)

/-- A lane returns to owner none (R251). -/
def freeLane (l : Nat) (s : State) : State :=
  updLane l (fun y => { y with owner := .none, rate := 0 }) (lanesOff l s)

/-- A test ends with a cause: 0 command, 1 mode change, 2 reference failure (R287, R289). -/
def stopTest (l cause : Nat) (s : State) : State :=
  if (laneOf l s).owner = .test then
    raise .laneTestStopped 0 (enc [(1, l), (1, cause)]) (freeLane l (prbsStop l s))
  else s

/-- The Causeway owner of a lane starts its alignment when the receive half locks at RATE 5 (R276). -/
def startAlign (l : Nat) (s : State) : State :=
  let x := laneOf l s
  if x.owner = .causeway ∧ x.rate = 5 ∧ x.cdr then alignTo l .hunt s else s

end Sys2Proof.Machine
end

