-- ==== Sys2Proof/Machine/LineCode.lean ====
section
/-! DEFINITION. Machine/LineCode.lean: the Causeway line code of a transmitter: scrambler, Gray code, blocks, stuffing, and the
RS(544,514) codewords of trunk mode (R270 to R274, R336, R337). -/

namespace Sys2Proof.Machine

open Sys2Proof

/-- The bits of bytes, most significant first. -/
def byteBits (l : List Byte) : List Bool := l.flatMap fun b => (List.range 8).map fun i => bitOf b.toNat (7 - i)

/-- The value of bits, most significant first. -/
def bitsVal (l : List Bool) : Nat := l.foldl (fun a b => 2 * a + b2n b) 0

/-- One bit through the scrambler (R270): the scrambled bit, and the history with it. -/
def scrambleBit (h : List Bool) (d : Bool) : Bool × List Bool :=
  let x := (d != (h.getD 38 false)) != (h.getD 57 false)
  (x, (x :: h).take 58)

/-- Bits through the scrambler. -/
def scramble : List Bool → List Bool → List Bool × List Bool
  | h, [] => ([], h)
  | h, d :: ds =>
    let a := scrambleBit h d
    let r := scramble a.2 ds
    (a.1 :: r.1, r.2)

/-- The PAM4 level of a pair of bits (R271). -/
def grayLevel (a b : Bool) : Nat :=
  match a, b with
  | false, false => 0
  | false, true => 1
  | true, true => 2
  | true, false => 3

/-- The levels of payload bits. -/
def levelsOf : List Bool → List Nat
  | a :: b :: rest => grayLevel a b :: levelsOf rest
  | _ => []

/-- The comma (R273). -/
def commaLevels : List Nat := [0] ++ List.replicate 31 3 ++ [1, 2, 0, 3, 1, 2, 0, 1]

/-- Payload symbols of a block (R272). -/
def blockSymbols : Nat := 8192

/-- Longest run of identical symbols (R274). -/
def maxRun : Nat := 31

/-- One payload symbol with the comma that opens its block and the stuff symbol its run calls for (R272, R274). -/
def sendSymbol (t : LineTx) (l : Nat) : List Nat × LineTx :=
  let open0 := decide (t.sent = 0)
  let level := if open0 then 1 else t.level
  let run0 := if open0 then 1 else t.run
  let run := if l = level then run0 + 1 else 1
  let sent := if t.sent + 1 = blockSymbols then 0 else t.sent + 1
  let lead := if open0 then commaLevels else []
  if run = maxRun then (lead ++ [l, 3 - l], { t with level := 3 - l, run := 1, sent := sent })
  else (lead ++ [l], { t with level := l, run := run, sent := sent })

/-- Payload symbols one after another. -/
def sendSymbols : LineTx → List Nat → List Nat × LineTx
  | t, [] => ([], t)
  | t, l :: ls =>
    let a := sendSymbol t l
    let r := sendSymbols a.2 ls
    (a.1 ++ r.1, r.2)

/-- Scrambled payload bits onto the line. -/
def sendPayload (bits : List Bool) (t : LineTx) : List Nat × LineTx := sendSymbols t (levelsOf bits)

/-! ### RS(544,514) (R336, R337; IEEE 802.3 Clause 91: x^10 + x^3 + 1, roots 1 to 2^29) -/

/-- A field element times 2. (PRESUMED: log entry 121) -/
def gfDouble (a : Nat) : Nat := if 2 * a < 1024 then 2 * a else (2 * a) ^^^ 1033

/-- Field product of `a` and the low `n` bits of `b`. -/
def gfMulN (a b : Nat) : Nat → Nat
  | 0 => 0
  | n + 1 => gfDouble (gfMulN a b n) ^^^ (if bitOf b (9 - n) then a else 0)

/-- Field product. -/
def gfMul (a b : Nat) : Nat := gfMulN a b 10

/-- A polynomial, highest degree first, times (x + r). -/
def polyTimes (p : List Nat) (r : Nat) : List Nat := List.zipWith (· ^^^ ·) (p ++ [0]) (0 :: p.map (gfMul r))

/-- The generator polynomial: `n` roots from `r` on. -/
def rsGen : Nat → Nat → List Nat → List Nat
  | 0, _, p => p
  | n + 1, r, p => rsGen n (gfDouble r) (polyTimes p r)

/-- The 30 lower coefficients of the generator. (PRESUMED: log entry 121) -/
def rsTaps : List Nat := (rsGen 30 1 [1]).tail

/-- The parity of message symbols. -/
def rsParity (taps : List Nat) : List Nat → List Nat → List Nat
  | par, [] => par
  | par, m :: ms =>
    let f := m ^^^ par.headD 0
    rsParity taps (List.zipWith (· ^^^ ·) (par.tail ++ [0]) (taps.map (gfMul f))) ms

/-- Ten-bit symbols of bits, most significant bit first. -/
def tenBits : Nat → List Bool → List Nat
  | 0, _ => []
  | n + 1, l => bitsVal (l.take 10) :: tenBits n (l.drop 10)

/-- The bits of a ten-bit symbol. -/
def symBits (x : Nat) : List Bool := (List.range 10).map fun i => bitOf x (9 - i)

/-- Message bits of a codeword (R336). -/
def msgBits : Nat := 5140

/-- A codeword: its scrambled message bits, then its parity. (DEDUCED: log entry 150) -/
def codeword (m : List Bool) : List Bool := m ++ (rsParity rsTaps (List.replicate 30 0) (tenBits 514 m)).flatMap symBits

/-- Send the whole codewords that the waiting message bits fill; `n` is more than there can be. (DEDUCED: log entry 150) -/
def sendCodewords : Nat → LineTx → List Nat × LineTx
  | 0, t => ([], t)
  | n + 1, t =>
    if t.msg.length < msgBits then ([], t)
    else
      let a := scramble t.hist (t.msg.take msgBits)
      let b := sendPayload (codeword a.1) { t with hist := a.2, msg := t.msg.drop msgBits }
      let r := sendCodewords n b.2
      (b.1 ++ r.1, r.2)

/-- The levels a flow unit or a replay frame puts on the line. -/
def lineLevels (joint : Bool) (bytes : List Byte) (t : LineTx) : List Nat × LineTx :=
  if joint then
    let a := scramble t.hist (byteBits bytes)
    sendPayload a.1 { t with hist := a.2 }
  else sendCodewords 5 { t with msg := t.msg ++ byteBits bytes }

/-- A flow unit or replay frame leaves on a lane. -/
def lineSend (l : Nat) (bytes : List Byte) (s : State) : State :=
  let x := linkOf l s
  let a := lineLevels x.joint bytes x.tx
  emit (.line l a.1) (emit (.causeway l bytes) (updLink l (fun y => { y with tx := a.2 }) s))

end Sys2Proof.Machine
end

