-- ==== Sys2Proof/Machine/CwSend.lean ====
section
/-! DEFINITION. Machine/CwSend.lean: flow units and replay frames as a link sends them, replay, and forming and releasing a
link (R329 to R357). -/

namespace Sys2Proof.Machine

open Sys2Proof

/-! ### Flow units (R332, R334, R335) -/

/-- A unit's 30 bytes with what follows them: in joint mode the CRC under a prefix (R335). -/
def sealUnit (joint : Bool) (pfx : Nat) (b : List Byte) : List Byte :=
  if joint then b ++ be 2 (Crc.crc16 0xFFFF (be 2 pfx ++ b)) else b

/-- A DATA unit. -/
def dataUnit (joint : Bool) (seq vc : Nat) (sop eop : Bool) (b : List Byte) : List Byte :=
  let h := 0x2000 + vc * 0x800 + b2n sop * 0x400 + b2n eop * 0x200 + b.length * 0x10
  sealUnit joint seq (be 2 h ++ padTo (dataBytes joint) b)

/-- A CTRL unit. -/
def ctrlUnit (joint : Bool) (ctype : Nat) (b : List Byte) : List Byte :=
  sealUnit joint 0xFFFF (be 2 (0x4000 + ctype * 0x100) ++ padTo (dataBytes joint) b)

/-- An IDLE unit. -/
def idleUnit (joint : Bool) : List Byte := sealUnit joint 0xFFFF (List.replicate (dataBytes joint + 2) 0)

/-- A CTRL unit waits to be sent. -/
def queueCtrl (l ctype : Nat) (b : List Byte) (s : State) : State :=
  updLink l (fun y => { y with ctrl := y.ctrl ++ [ctrlUnit y.joint ctype b] }) s

/-- Units of credit this module gives (R348). -/
def ownCredits : List Nat := [256, 0xFFFF, 0xFFFF, 2048]

/-- The data field of an INIT (R334, R351). -/
def initData (l : Nat) (s : State) : List Byte :=
  let x := linkOf l s
  enc [(1, b2n x.joint), (1, b2n (decide (x.state = .hold))), (2, x.incarnation), (2, x.peerIncarnation), (2, x.rxNext),
    (2, x.depth), (8, s.ident.serial.toNat), (1, l), (1, 0)] ++ ownCredits.flatMap (be 2)

/-- The partner's STRIKE signal counts (R346). -/
def peerStruck (x : CwLink) (s : State) : Bool :=
  match x.peerStrikeAt with
  | some a => decide (s.elapsed < a + msNs 10)
  | none => false

/-- The stretch of R346 is in force. -/
def stretchNow (x : CwLink) (s : State) : Bool := strikeOpen s || peerStruck x s

/-- A unit as it is kept when it is sent (R344, R346). -/
def keepUnit (x : CwLink) (seq : Nat) (us : List (List Byte)) (s : State) : Kept :=
  let b := stretchNow x s
  ⟨seq, us, s.elapsed, usNs (x.replayUs * (if b then x.stretch else 1)), b⟩

/-- Queue an ACK unit (R342, R347). -/
def sendAck (l : Nat) (s : State) : State :=
  let e := (linkOf l s).rxNext
  updLink l (fun y => { y with ackSent := e, ackSince := none })
    (queueCtrl l 2 (enc [(2, e), (1, b2n (strikeOpen s))]) s)

/-- Queue a NAK unit (R342). -/
def sendNak (l : Nat) (s : State) : State :=
  updLink l (fun y => { y with nakAt := some s.elapsed }) (queueCtrl l 3 (be 2 (linkOf l s).rxNext) s)

/-- Queue a CREDIT unit (R349). -/
def sendCredit (l : Nat) (s : State) : State :=
  updLink l (fun y => { y with freedSent := y.freed, creditSince := none })
    (queueCtrl l 5 ((linkOf l s).freed.flatMap (be 2)) s)

/-! ### Which unit is sent next (R348, R349, R352) -/

/-- The channel has credit. -/
def hasCredit (x : CwLink) (v : Nat) : Bool :=
  let c := x.peerCredits.getD v 0xFFFF
  decide (c = 0xFFFF) || decide ((x.sentUnits.getD v 0 + 65536 - x.peerFreed.getD v 0) % 65536 < c)

/-- A unit of a channel is ready. -/
def chanReady (x : CwLink) (v : Nat) : Bool := x.txq.any fun e => decide (e.1 = v)

/-- The channel whose unit goes next. -/
def nextVc (x : CwLink) : Option Nat :=
  ([0, 1] ++ if x.vc3Next then [3, 2] else [2, 3]).find? fun v => chanReady x v && hasCredit x v

/-- Held traffic goes into the link in its order, one packet at a time (R352). -/
def takeHeld (x : CwLink) : CwLink :=
  match x.txq, x.hold with
  | [], (v, b) :: rest => { x with txq := [(v, b, false)], hold := rest }
  | _, _ => x

/-- The next part of the first packet of a channel. -/
def cutFirst (v n : Nat) : List (Nat × List Byte × Bool) → Option ((Bool × Bool × List Byte) × List (Nat × List Byte × Bool))
  | [] => none
  | e :: es =>
    if e.1 = v then
      let rest := e.2.1.drop n
      some ((!e.2.2, decide (rest = []), e.2.1.take n), if rest = [] then es else (v, rest, true) :: es)
    else (cutFirst v n es).map fun r => (r.1, e :: r.2)

/-- Take the next DATA unit, numbered `seq` in joint mode. -/
def takeData (seq : Nat) (x0 : CwLink) : Option (List Byte × CwLink) :=
  let x := takeHeld x0
  match nextVc x with
  | none => none
  | some v =>
    match cutFirst v (dataBytes x.joint) x.txq with
    | none => none
    | some ((sop, eop, b), q) =>
      some (dataUnit x.joint seq v sop eop b,
        { x with
          txq := q
          sentUnits := x.sentUnits.set v ((x.sentUnits.getD v 0 + 1) % 65536)
          vc3Next := if v = 2 then true else if v = 3 then false else x.vc3Next })

/-- Up to `n` DATA units for a trunk frame. -/
def takeMany : Nat → CwLink → List (List Byte) × CwLink
  | 0, x => ([], x)
  | n + 1, x =>
    match takeData 0 x with
    | none => ([], x)
    | some (u, y) =>
      let r := takeMany n y
      (u :: r.1, r.2)

/-! ### Slots (R335, R339, R340, R343, R345) -/

/-- The replay frame with an FSEQ and its units (R339). (DEDUCED: log entry 151) -/
def replayFrame (x : CwLink) (fseq : Nat) (idle : Bool) (us : List (List Byte)) (s : State) : List Byte :=
  let h := fseq * 2 ^ 19 + x.rxNext * 2 ^ 6 + b2n idle * 32 + b2n x.replayWait * 16 + b2n (strikeOpen s) * 8
  let b := be 4 h ++ us.flatten ++ List.replicate (32 * (64 - us.length)) 0
  b ++ be 4 (Crc.crc32 b)

/-- The kept unit after a sequence number, as the next of a replay. -/
def nextKept (seq : Nat) : List Kept → Option Nat
  | [] => none
  | k :: ks => if k.seq = seq then (ks.head?.map fun n => n.seq) else nextKept seq ks

/-- A kept unit is sent again (R343). -/
def resendKept (l : Nat) (k : Kept) (s : State) : State :=
  let x := linkOf l s
  let k1 := keepUnit x k.seq k.units s
  let s1 := cwWide l 2 1 (updLink l (fun y =>
    { y with kept := y.kept.map (fun e => if e.seq = k.seq then k1 else e), replayFrom := nextKept k.seq y.kept }) s)
  if x.joint then lineSend l (k.units.headD (idleUnit true)) s1
  else lineSend l (replayFrame x k.seq false k.units s) s1

/-- The time a stall lasted is added to its counter in whole µs; the rest is kept. -/
def endStall (l : Nat) (s : State) : State :=
  match (linkOf l s).stallSince with
  | none => s
  | some a =>
    let n := (linkOf l s).stallNs + (s.elapsed - a)
    cwWide l 5 (n / 1000) (updLink l (fun y => { y with stallSince := none, stallNs := n % 1000 }) s)

/-- The same for credit. -/
def endCreditStall (l : Nat) (s : State) : State :=
  match (linkOf l s).creditStall with
  | none => s
  | some a =>
    let n := (linkOf l s).creditNs + (s.elapsed - a)
    cwWide l 6 (n / 1000) (updLink l (fun y => { y with creditStall := none, creditNs := n % 1000 }) s)

/-- The replay buffer is full (R345). -/
def bufferFull (x : CwLink) : Bool := decide (x.depth ≤ x.kept.length)

/-- A unit of new traffic is ready. -/
def dataReady (x : CwLink) : Bool := decide (x.txq ≠ []) || decide (x.hold ≠ [])

/-- Stalls begin and end with what this slot finds (R345, R349). -/
def noteStalls (l : Nat) (s : State) : State :=
  let x := linkOf l s
  let starved := [0, 3].any fun v => chanReady x v && !hasCredit x v
  let s1 :=
    if bufferFull x && dataReady x then
      updLink l (fun y => { y with stallSince := some (y.stallSince.getD s.elapsed) }) s
    else endStall l s
  if starved then updLink l (fun y => { y with creditStall := some (y.creditStall.getD s.elapsed) }) s1 else endCreditStall l s1

/-- New DATA units are numbered and kept (R335, R340). -/
def numberUnits (l : Nat) (us : List (List Byte)) (x : CwLink) (s : State) : State :=
  cwWide l 0 1 (updLink l (fun _ =>
    { x with txNext := (x.txNext + 1) % cwMod x, kept := x.kept ++ [keepUnit x x.txNext us s] }) s)

/-- A trunk frame slot without replay. -/
def trunkSlot (l : Nat) (s : State) : State :=
  let x := linkOf l s
  let cs := x.ctrl.take 64
  let x1 := { x with ctrl := x.ctrl.drop 64 }
  let d := if x.state = .up ∧ !bufferFull x then takeMany (64 - cs.length) x1 else ([], x1)
  if d.1 = [] then lineSend l (replayFrame x x.txNext true cs s) (updLink l (fun _ => x1) s)
  else lineSend l (replayFrame x x.txNext false (cs ++ d.1) s) (numberUnits l (cs ++ d.1) d.2 s)

/-- A joint unit slot without replay. -/
def jointSlot (l : Nat) (s : State) : State :=
  let x := linkOf l s
  match x.ctrl with
  | c :: cs => lineSend l c (updLink l (fun y => { y with ctrl := cs }) s)
  | [] =>
    match (if x.state = .up ∧ !bufferFull x then takeData x.txNext x else none) with
    | some (u, x1) => lineSend l u (numberUnits l [u] x1 s)
    | none => lineSend l (idleUnit true) s

/-- The next unit of a replay, where one runs. -/
def replaySlot (l : Nat) (s : State) : Option State :=
  let x := linkOf l s
  if x.state ≠ .up then none
  else
    match x.replayFrom with
    | none => none
    | some r =>
      match x.kept.find? fun k => decide (k.seq = r) with
      | none => none
      | some k =>
        if x.markDue then
          some (lineSend l (ctrlUnit true 4 (be 2 r)) (updLink l (fun y => { y with markDue := false }) s))
        else some (resendKept l k s)

/-! ### Replay (R343, R344) -/

/-- A replay starts from a kept unit (R343, R344, R347); REPLAY_LIMIT of them bring the link to HOLD. -/
def startReplay (l seq : Nat) (s : State) : State :=
  let x := linkOf l s
  let b := stretchNow x s
  let run := if b then x.replayRun else x.replayRun + 1
  let s1 := countEvt 0x13 [(4, l)] 1 (cwNarrow l 0 1 s)
  let s2 := if b then cwNarrow l 8 1 s1 else s1
  let s3 := updLink l (fun y => { y with replayRun := run, replayFrom := some seq, markDue := y.joint }) s2
  if !b ∧ x.limit ≤ run then enterHold l 3 s3 else s3

/-! ### Forming and releasing (R289, R357, R359) -/

/-- The mode runs Causeway lanes (R289, R31). -/
def cwRuns (s : State) : Bool := decide (s.sup.mode = .full ∨ s.sup.mode = .span)

/-- A formed link starts: its lane is brought up and it trains (R357); in another mode the lane is only owned. -/
def startLink (l : Nat) (s : State) : State :=
  if cwRuns s then cwEnter l .train 0 (ownLane l .causeway 5 s)
  else updLane l (fun y => { y with owner := .causeway, rate := 5 }) s

/-- A mode change stops a link (R357, R367). -/
def stopLink (l : Nat) (s : State) : State :=
  if (linkOf l s).formed ∧ (linkOf l s).state ≠ .off then
    updLink l (fun y => { y with fecLock := false, lostSince := none }) (lanesOff l (cwEnter l .off 6 (cwFlush l true s)))
  else s

/-- A link is released: it flushes, and its lane returns to owner none (R357, R359). (DEDUCED: log entry 146) -/
def releaseLink (l : Nat) (s : State) : State :=
  if (linkOf l s).formed then
    let s1 := if (linkOf l s).state = .off then s else cwEnter l .off 0 (cwFlush l false s)
    updLink l (fun y => { y with formed := false, fecLock := false, lostSince := none }) (freeLane l s1)
  else s

/-- The joint links of a Span join (R538). -/
def formJoint (l : Nat) (s : State) : State :=
  startLink l (updLink l (fun y =>
    { y with
      formed := true, joint := true, depth := 512, replayUs := 10, limit := 8, stretch := 4, graceMs := 10, downUs := 200,
      quotaMiB := 0 }) s)

end Sys2Proof.Machine
end

