-- ==== Sys2Proof/Machine/Freeze.lean ====
section
/-! DEFINITION. Machine/Freeze.lean: starting a transition, and the Freeze trigger (R48, R69, R588, R605). -/

namespace Sys2Proof.Machine

open Sys2Proof

/-- Start a transition: CHANGE_PENDING sets, which sets INT_CAUSE bit MODE (R66, R245). (DESIGN CHOICE: log entry 35) -/
def startTransition (dst : Mode) (cause : Cause) (reqId : Nat) (s : State) : State :=
  setCause causeMode
    { s with sup := { s.sup with transition := some ⟨s.sup.mode, dst, cause, s.elapsed, 0, reqId, none⟩ } }

/-- A mode whose data plane runs. -/
def dataPlaneMode (m : Mode) : Bool :=
  match m with
  | .keep => true
  | .full => true
  | .span => true
  | _ => false

/-- A transition that sheds or was commanded down. -/
def stepsDown (x : Transition) : Bool := decide (x.dst = .shelf ∨ x.dst = .watch ∧ x.src ≠ .shelf ∨ x.dst = .keep ∧ x.src ≠ .watch ∨ x.src = .span)

/-- A Freeze trigger (R48): it starts the transition from Keep, Full or Span, in place of a climb; during a step down it waits
for the end of that step (R69); in Freeze it changes nothing (R605). -/
def freezeTrigger (cause : Cause) (reqId : Nat) (s : State) : State :=
  if dataPlaneMode s.sup.mode then
    match s.sup.transition with
    | none => startTransition .freeze cause reqId s
    | some x =>
      if x.dst = .freeze then s
      else if stepsDown x then { s with sup := { s.sup with freezeTrigger := some cause } }
      else startTransition .freeze cause reqId s
  else s

end Sys2Proof.Machine
end

