-- ==== Sys2Proof/Machine/Sha.lean ====
section
/-! DEFINITION. Machine/Sha.lean: SHA-256, SHA-384 and their HMAC forms (R608, FIPS 180-4, RFC 2104). -/

namespace Sys2Proof.Machine.Sha

open Sys2Proof

/-- The round constants of SHA-512 and SHA-384 (FIPS 180-4 section 4.2.3); SHA-256 uses the upper halves of the first 64. -/
def k512a : List Nat :=
  [0x428a2f98d728ae22, 0x7137449123ef65cd, 0xb5c0fbcfec4d3b2f, 0xe9b5dba58189dbbc,
   0x3956c25bf348b538, 0x59f111f1b605d019, 0x923f82a4af194f9b, 0xab1c5ed5da6d8118,
   0xd807aa98a3030242, 0x12835b0145706fbe, 0x243185be4ee4b28c, 0x550c7dc3d5ffb4e2,
   0x72be5d74f27b896f, 0x80deb1fe3b1696b1, 0x9bdc06a725c71235, 0xc19bf174cf692694,
   0xe49b69c19ef14ad2, 0xefbe4786384f25e3, 0x0fc19dc68b8cd5b5, 0x240ca1cc77ac9c65,
   0x2de92c6f592b0275, 0x4a7484aa6ea6e483, 0x5cb0a9dcbd41fbd4, 0x76f988da831153b5,
   0x983e5152ee66dfab, 0xa831c66d2db43210, 0xb00327c898fb213f, 0xbf597fc7beef0ee4,
   0xc6e00bf33da88fc2, 0xd5a79147930aa725, 0x06ca6351e003826f, 0x142929670a0e6e70,
   0x27b70a8546d22ffc, 0x2e1b21385c26c926, 0x4d2c6dfc5ac42aed, 0x53380d139d95b3df]

/-- The rest of the round constants. -/
def k512b : List Nat :=
  [0x650a73548baf63de, 0x766a0abb3c77b2a8, 0x81c2c92e47edaee6, 0x92722c851482353b,
   0xa2bfe8a14cf10364, 0xa81a664bbc423001, 0xc24b8b70d0f89791, 0xc76c51a30654be30,
   0xd192e819d6ef5218, 0xd69906245565a910, 0xf40e35855771202a, 0x106aa07032bbd1b8,
   0x19a4c116b8d2d0c8, 0x1e376c085141ab53, 0x2748774cdf8eeb99, 0x34b0bcb5e19b48a8,
   0x391c0cb3c5c95a63, 0x4ed8aa4ae3418acb, 0x5b9cca4f7763e373, 0x682e6ff3d6b2b8a3,
   0x748f82ee5defb2fc, 0x78a5636f43172f60, 0x84c87814a1f0ab72, 0x8cc702081a6439ec,
   0x90befffa23631e28, 0xa4506cebde82bde9, 0xbef9a3f7b2c67915, 0xc67178f2e372532b,
   0xca273eceea26619c, 0xd186b8c721c0c207, 0xeada7dd6cde0eb1e, 0xf57d4f7fee6ed178,
   0x06f067aa72176fba, 0x0a637dc5a2c898a6, 0x113f9804bef90dae, 0x1b710b35131c471b,
   0x28db77f523047d84, 0x32caab7b40c72493, 0x3c9ebe0a15c9bebc, 0x431d67c49c100d4c,
   0x4cc5d4becb3e42b6, 0x597f299cfc657e2a, 0x5fcb6fab3ad6faec, 0x6c44198c4a475817]

/-- The eighty constants. -/
def k512 : List Nat := k512a ++ k512b

/-- The sixty-four constants of SHA-256. -/
def k256 : List Nat := (k512.take 64).map fun k => k / 4294967296

/-- What differs between the two algorithms: word width, rotation counts and round constants. -/
structure Alg where
  w : Nat
  bigA : Nat × Nat × Nat
  bigE : Nat × Nat × Nat
  small0 : Nat × Nat × Nat
  small1 : Nat × Nat × Nat
  k : List Nat
  init : List Nat

/-- SHA-256. -/
def alg256 : Alg :=
  ⟨32, (2, 13, 22), (6, 11, 25), (7, 18, 3), (17, 19, 10), k256,
   [0x6a09e667, 0xbb67ae85, 0x3c6ef372, 0xa54ff53a, 0x510e527f, 0x9b05688c, 0x1f83d9ab, 0x5be0cd19]⟩

/-- SHA-384, on the 64-bit words of SHA-512. -/
def alg384 : Alg :=
  ⟨64, (28, 34, 39), (14, 18, 41), (1, 8, 7), (19, 61, 6), k512,
   [0xcbbb9d5dc1059ed8, 0x629a292a367cd507, 0x9159015a3070dd17, 0x152fecd8f70e5939,
    0x67332667ffc00b31, 0x8eb44a8768581511, 0xdb0c2e0d64f98fa7, 0x47b5481dbefa4fa4]⟩

/-- Rotate right in a word of `w` bits. -/
def rotr (w n x : Nat) : Nat := Nat.lor (x / 2 ^ n) (x * 2 ^ (w - n) % 2 ^ w)

/-- The upper-case sigma functions: three rotations. -/
def bigSigma (w : Nat) (r : Nat × Nat × Nat) (x : Nat) : Nat :=
  Nat.xor (Nat.xor (rotr w r.1 x) (rotr w r.2.1 x)) (rotr w r.2.2 x)

/-- The lower-case sigma functions: two rotations and a shift. -/
def smallSigma (w : Nat) (r : Nat × Nat × Nat) (x : Nat) : Nat :=
  Nat.xor (Nat.xor (rotr w r.1 x) (rotr w r.2.1 x)) (x / 2 ^ r.2.2)

/-- The message schedule: `n` further words, the last sixteen held newest first. -/
def schedule (a : Alg) : Nat → List Nat → List Nat
  | 0, ws => ws
  | n + 1, ws =>
    let w := (smallSigma a.w a.small1 (ws.getD 1 0) + ws.getD 6 0 +
      smallSigma a.w a.small0 (ws.getD 14 0) + ws.getD 15 0) % 2 ^ a.w
    schedule a n (w :: ws)

/-- One round over the working variables. -/
def round (a : Alg) (v : List Nat) (kw : Nat) : List Nat :=
  match v with
  | [va, vb, vc, vd, ve, vf, vg, vh] =>
    let ch := Nat.xor (Nat.land ve vf) (Nat.land (2 ^ a.w - 1 - ve) vg)
    let maj := Nat.xor (Nat.xor (Nat.land va vb) (Nat.land va vc)) (Nat.land vb vc)
    let t1 := vh + bigSigma a.w a.bigE ve + ch + kw
    let t2 := bigSigma a.w a.bigA va + maj
    [(t1 + t2) % 2 ^ a.w, va, vb, vc, (vd + t1) % 2 ^ a.w, ve, vf, vg]
  | _ => v

/-- Big-endian words of `n` bytes. -/
def wordsOf (n : Nat) : Nat → List Byte → List Nat
  | 0, _ => []
  | k + 1, bs => beVal (bs.take n) :: wordsOf n k (bs.drop n)

/-- One compression. -/
def compress (a : Alg) (h : List Nat) (block : List Byte) : List Nat :=
  let ws := (schedule a (a.k.length - 16) (wordsOf (a.w / 8) 16 block).reverse).reverse
  let v := List.foldl (round a) h (List.zipWith (fun k w => k + w) a.k ws)
  List.zipWith (fun x y => (x + y) % 2 ^ a.w) h v

/-- Blocks of `2 w` bytes, `n` of them. -/
def blocks (a : Alg) : Nat → List Nat → List Byte → List Nat
  | 0, h, _ => h
  | n + 1, h, bs => blocks a n (compress a h (bs.take (2 * a.w))) (bs.drop (2 * a.w))

/-- Padding of FIPS 180-4 section 5.1. -/
def padded (a : Alg) (m : List Byte) : List Byte :=
  let blk := 2 * a.w
  let lenBytes := a.w / 4
  let z := (blk - (m.length + 1 + lenBytes) % blk) % blk
  m ++ [0x80] ++ List.replicate z 0 ++ be lenBytes (8 * m.length)

/-- The hash of a message, as the words of its final state. -/
def hash (a : Alg) (m : List Byte) : List Byte :=
  let p := padded a m
  (blocks a (p.length / (2 * a.w)) a.init p).flatMap (be (a.w / 8))

/-- SHA-256: 32 bytes. (DESIGN CHOICE: log entry 68) -/
def sha256 (m : List Byte) : List Byte := hash alg256 m

/-- SHA-384: 48 bytes. (DESIGN CHOICE: log entry 68) -/
def sha384 (m : List Byte) : List Byte := (hash alg384 m).take 48

/-- HMAC with hash `f` and block length `n` (RFC 2104). (DESIGN CHOICE: log entry 68) -/
def hmac (f : List Byte → List Byte) (n : Nat) (key m : List Byte) : List Byte :=
  let k := padTo n (if key.length ≤ n then key else f key)
  f (k.map (· ^^^ 0x5c) ++ f (k.map (· ^^^ 0x36) ++ m))

/-- HMAC-SHA-256. -/
def hmac256 (key m : List Byte) : List Byte := hmac sha256 64 key m

/-- HMAC-SHA-384. -/
def hmac384 (key m : List Byte) : List Byte := hmac sha384 128 key m

end Sys2Proof.Machine.Sha
end

