-- ==== Sys2Proof/Machine/Kmp.lean ====
section
/-! DEFINITION. Machine/Kmp.lean: the order of request checks, the duplicate caches, acknowledgement and responses
(R148 to R196), shared by every KMP command. -/

namespace Sys2Proof.Machine

open Sys2Proof

/-- The header of R152. -/
def msgHeader (m : Msg) : List Byte :=
  enc [(1, 1), (1, m.typ), (2, flags [m.auth, m.replayed, m.loss]), (2, m.session), (2, m.code), (4, m.requestId),
    (2, m.seq), (2, m.ack), (2, m.status), (2, m.payload.length), (4, 0)]

/-- The message as sent: header, payload, tag. -/
def msgBytes (m : Msg) : List Byte := msgHeader m ++ m.payload ++ m.tag

/-- The tag of R162 under a key and a salt. -/
def authTag (key salt : List Byte) (m : Msg) : List Byte :=
  (Sha.hmac256 key (salt ++ msgHeader m ++ m.payload)).take 16

/-- The message with its tag, where AUTH is set (R165). -/
def tagged (key salt : List Byte) (m : Msg) : Msg := if m.auth then { m with tag := authTag key salt m } else m

/-- The transport is served in the present mode (R148), outside a Keystone run (R210); recovery serves the UARTs (R132). -/
def transportServed (tr : Transport) (s : State) : Bool :=
  if s.boot.recovery then decide (tr = .uart0 ∨ tr = .uart1)
  else if s.boot.awaitConfig then false
  else
    match s.sup.mode with
    | .off => false
    | .shelf => false
    | .watch =>
      match tr with
      | .uart0 => true
      | .uart1 => true
      | .m0 => s.sup.m0InWatch
      | .pcie => false
      | .spi => true
    | _ => true

/-- Step 9 of R167 by the command's Modes entry (R784); every group that R32 marks None lists no command there. -/
def cmdInMode (c : Cmd) (m : Mode) : Bool :=
  match m with
  | .off => false
  | .shelf => false
  | .watch => c.row.watch
  | .keep => c.row.keep
  | .full => c.row.full
  | .span => c.row.span
  | .freeze => c.row.freeze

/-- The command exists under the active baseline (R742, R785). -/
def cmdKnown (c : Cmd) (s : State) : Bool :=
  match c with
  | .siteLabelSet => s.boot.baseline == 2
  | .siteLabelGet => s.boot.baseline == 2
  | _ => true

/-- The open session with a number. -/
def findSession (n : Nat) (s : State) : Option Session := s.kmp.sessions.find? fun x => x.number == n

/-- Change the session with a number. -/
def updSession (n : Nat) (f : Session → Session) (s : State) : State :=
  { s with kmp := { s.kmp with sessions := s.kmp.sessions.map fun x => if x.number = n then f x else x } }

/-- The controlling session, where one is open (R155). -/
def ctlSession (s : State) : Option Session := s.kmp.sessions.find? fun x => x.controlling

/-- The slot holds a key for the use of USAGE bit `use` (R617, R618). -/
def slotKey (slot use : Nat) (s : State) : Option (List Byte) :=
  let k := Tbl.get {} s.dig.slots slot
  if (k.state = .loaded ∨ k.state = .fused) ∧ bitOf k.usage use then some k.key else none

/-- The acknowledgement point of a session (R180): the controlling role's, or its own. -/
def ackPointOf (x : Session) (s : State) : Nat := if x.controlling then s.kmp.ctlAckPoint else x.ackPoint

/-- What a response needs of the session it goes to (R151, R165, R172). -/
structure ReplyCtx where
  session : Nat
  ack : Nat
  auth : Bool
  key : List Byte
  salt : List Byte
deriving DecidableEq, Repr

/-- A session's responses: ACK is H + 1 (R172), with a tag where it is authenticated (R165). -/
def replySession (x : Session) : ReplyCtx := ⟨x.number, inc16 x.h, x.keySlot.isSome, x.key, x.salt⟩

/-- A response without session: ACK 0, no tag (R169). -/
def replyBare (q : Req) : ReplyCtx := ⟨q.session, 0, false, [], []⟩

/-- A refused SESSION_OPEN: ACK 0 and, with AUTH, a tag under its KEY_SLOT with CLIENT_NONCE as salt (R168). -/
def replyOpen (q : Req) (s : State) : ReplyCtx :=
  match slotKey (f1 q.payload 2) 0 s with
  | some k => ⟨0, 0, q.auth, k, slice q.payload 4 8⟩
  | none => ⟨0, 0, false, [], []⟩

/-- A response in recovery: a tag under slot 0 with the zero salt (R166). -/
def replyRecovery (s : State) : ReplyCtx := ⟨0, 0, true, (Tbl.get {} s.dig.slots 0).key, List.replicate 8 0⟩

/-- The response message (R152, R165). -/
def mkResponse (x : ReplyCtx) (code : Nat) (q : Req) (status : Nat) (payload : List Byte) (replayed : Bool) : Msg :=
  tagged x.key x.salt
    { typ := 2, auth := x.auth, replayed := replayed, loss := false, session := x.session, code := code,
      requestId := q.requestId, seq := q.seq, ack := x.ack, status := status, payload := payload, tag := [] }

/-- M0 can reach an address (R309): inside the prefix of its family, or through a gateway. An IPv4 address lies below
2^32. The link-local prefix is always reached. -/
def m0Reaches (a : Nat) (s : State) : Bool :=
  let c := s.ports.m0.cfg
  if a < 2 ^ 32 then decide (c.gw4 ≠ 0) || decide (a / 2 ^ (32 - c.prefix4) = c.ipv4 / 2 ^ (32 - c.prefix4))
  else decide (a / 2 ^ 64 = 0xFE80000000000000) || decide (c.gw6 ≠ 0) ||
    decide (a / 2 ^ (128 - c.prefix6) = c.ipv6 / 2 ^ (128 - c.prefix6))

/-- A destination is served: a transport of the partner while this module leads (R546). -/
def destServed (d : Dest) (s : State) : Bool := if d.remote then spanLeads s else transportServed d.transport s

/-- Pin numbers of `Output.pin`: GPIO0, which carries UART0 RTS. -/
def pinRts : Nat := 0

/-- GPIO pin `n` holds its alternate function (R651). -/
def gpioAlt (n : Nat) (s : State) : Bool := (Tbl.get {} s.io.gpio n).alt && !s.io.released

/-- UART0 must not send: CTS is claimed and not asserted low (R653). (DEDUCED: log entries 96, 249) -/
def ctsStops (s : State) : Bool := gpioAlt 1 s && bitOf s.io.ext 1

/-- UART0 sends a message: inside RTS where that is claimed, and not before CTS is asserted where that is (R653). (DEDUCED: log entry 96) -/
def uart0Send (d : Dest) (m : Msg) (s : State) : State :=
  if ctsStops s then { s with io := { s.io with ctsHeld := s.io.ctsHeld ++ [(d, m)] } }
  else if gpioAlt 0 s then emit (.pin pinRts true) (emit (.message d m) (emit (.pin pinRts false) s))
  else emit (.message d m) s

/-- Send a message by a transport of this module: on a host path it waits for room in the response ring (R231), elsewhere it leaves at once. -/
def sendLocal (d : Dest) (m : Msg) (s : State) : State :=
  let s1 := updTransportCtrs (transportNum d.transport) (fun c => { c with txMessages := c.txMessages.add64 1 }) s
  match d.transport with
  | .pcie => { s1 with host := { s1.host with rings := { s1.host.rings with waiting := s1.host.rings.waiting ++ [m] } } }
  | .spi => { s1 with host := { s1.host with rings := { s1.host.rings with waiting := s1.host.rings.waiting ++ [m] } } }
  | .m0 => if m0Reaches d.addr s then emit (.message d m) s1 else s1
  | .uart0 => uart0Send d m s1
  | _ => emit (.message d m) s1

/-- Send a message where its transport is served: over VC0 where that lies on the partner (R546). -/
def sendMsg (d : Dest) (m : Msg) (s : State) : State :=
  if !destServed d s then s
  else if d.remote then relayMsg (.outbound d.transport d.addr d.port (msgBytes m)) s else sendLocal d m s

/-- Where the response to a request goes (R151). -/
def reqDest (q : Req) : Dest := ⟨q.transport, q.addr, q.port, q.remote⟩

/-- Answer a request. -/
def respond (x : ReplyCtx) (code : Nat) (q : Req) (status : Nat) (payload : List Byte) (replayed : Bool) (s : State) :
    State :=
  sendMsg (reqDest q) (mkResponse x code q status payload replayed) s

/-- Life of a cache entry: 600 s from the building of its response (R173, R206). -/
def cacheLife : Nat := sNs 600

/-- The cached entry of a request ID, while it is held (R173, R206). -/
def cacheFind (id now : Nat) (l : List CacheEntry) : Option CacheEntry :=
  l.find? fun e => e.requestId == id && decide (now < e.builtAt + cacheLife)

/-- Cache an entry, keeping the newest `cap` (R173). -/
def cachePush (cap : Nat) (e : CacheEntry) (l : List CacheEntry) : List CacheEntry :=
  (e :: l.filter fun x => decide (x.requestId ≠ e.requestId)).take cap

/-- The cache that serves a session: the controlling role's, or its own (R159, R173). -/
def sessionCache (x : Session) (s : State) : List CacheEntry := if x.controlling then s.kmp.ctlCache else x.cache

/-- Cache the response of a request of session `x`, where it is still held (R173). -/
def cacheSession (x : Session) (e : CacheEntry) (s : State) : State :=
  if x.controlling then { s with kmp := { s.kmp with ctlCache := cachePush 64 e s.kmp.ctlCache } }
  else updSession x.number (fun y => { y with cache := cachePush 8 e y.cache }) s

/-- The same CODE, LENGTH and payload as the cached request (R174). -/
def sameRequest (e : CacheEntry) (code : Nat) (q : Req) : Bool := decide (e.code = code) && decide (e.request = q.payload)

/-- A code is of a Replayable command (R174); a code with no row was refused and its refusal is repeated. -/
def codeReplayable (code : Nat) : Bool :=
  match Cmd.ofCode code with
  | some c => c.row.replayable
  | none => true

/-- Duplicate handling of R174 and R175. -/
def answerDuplicate (x : ReplyCtx) (e : CacheEntry) (code : Nat) (q : Req) (s : State) : State :=
  if sameRequest e code q then
    if codeReplayable code then respond x code q e.status e.response true s
    else respond x code q Err.stale.code [] true s
  else respond x code q Err.idReused.code [] false s

/-- Rates of a transport. -/
def ratesOf (tr : Transport) (s : State) : TransportRates := Tbl.get {} s.kmp.rates (transportNum tr)

/-- Change the rates of a transport. -/
def updRates (tr : Transport) (f : TransportRates → TransportRates) (s : State) : State :=
  { s with kmp := { s.kmp with rates := Tbl.upd {} s.kmp.rates (transportNum tr) f } }

/-- A message that fails step 2: discarded, counted, and reported at most once per 10 s per transport (R164). -/
def authFail (tr : Transport) (s : State) : State :=
  let s1 := countDiscard (transportNum tr) (fun c => { c with auth := c.auth.add32 1 }) s
  let s2 := updRates tr (fun r => { r with authFails := r.authFails + 1 }) s1
  let r := ratesOf tr s2
  if reportDue r.lastAuthReport (sNs 10) s2.elapsed then
    raise .authFail 0 (enc [(1, transportNum tr), (4, r.authFails)])
      (updRates tr (fun r => { r with authFails := 0, lastAuthReport := some s2.elapsed }) s2)
  else s2

/-- E_NO_SESSION, at most once per transport per 100 ms (R169). -/
def noSession (code : Nat) (q : Req) (s : State) : State :=
  if reportDue (ratesOf q.transport s).lastNoSession (msNs 100) s.elapsed then
    respond (replyBare q) code q Err.noSession.code [] false
      (updRates q.transport (fun r => { r with lastNoSession := some s.elapsed }) s)
  else s

/-- The ACK of a request acknowledges all events before it (R184): accepted at or after the acknowledgement point and
not after the next event sequence. -/
def ackValid (ack point next : Nat) : Bool := decide (seqDist ack point ≤ seqDist next point)

/-- Set the acknowledgement point of a session, forgetting what it had outstanding before it (R182, R184). -/
def ackSession (n ack : Nat) (s : State) : State :=
  match findSession n s with
  | none => s
  | some x =>
    let p := ackPointOf x s
    if ackValid ack p s.kmp.eventSeq then
      let next := if seqDist x.nextSend p < seqDist ack p then ack else x.nextSend
      let s1 := updSession n (fun y =>
        { y with
          ackPoint := if y.controlling then y.ackPoint else ack
          nextSend := next
          sent := y.sent.filter fun e => decide (seqDist ack p ≤ seqDist e.1 p)
          waitMs := if ack = p then y.waitMs else y.retryMs }) s
      if x.controlling then { s1 with kmp := { s1.kmp with ctlAckPoint := ack } } else s1
    else s

/-- A request of an open session that passed authentication: it renews the session, redirects its events (R151) and
acknowledges events (R184). -/
def touchSession (q : Req) (x : Session) (s : State) : State :=
  let s1 := updSession x.number (fun y => { y with dest := reqDest q, lastRequestAt := s.elapsed }) s
  let s2 := if x.keySlot.isSome then updRates q.transport (fun r => { r with lastAuthOk := some s.elapsed }) s1 else s1
  ackSession x.number q.ack s2

/-- What the arrival of a request came to: refused, discarded or answered from a cache; or passed step 6 of R167. -/
inductive Arrival where
  | done (s : State)
  | go (hBefore : Nat) (s : State)

/-- Most requests that wait (R167 step 5). -/
def waitingMax : Nat := 16

/-- Largest distance of SEQ after H that step 6 passes (R167, R207). -/
def seqWindow : Nat := 1024

/-- A hardware compare of the digest engine is counted (R615, R631). -/
def countCompare (pass : Bool) (s : State) : State :=
  { s with dig := { s.dig with
      compares := s.dig.compares + 1
      fails := if pass then s.dig.fails else s.dig.fails + 1 } }

/-- The tag of a request was compared under a key: in recovery, of an open authenticated session, or of a SESSION_OPEN whose
KEY_SLOT holds one (R162 to R169). -/
def tagCompared (code : Nat) (q : Req) (s : State) : Bool :=
  q.auth &&
    (s.boot.recovery ||
      if q.session = 0 then decide (code = Cmd.sessionOpen.row.code) && (slotKey (f1 q.payload 2) 0 s).isSome
      else (findSession q.session s).any fun x => x.keySlot.isSome)

/-- Steps 2 to 6 of R167 for a request whose framing and tag are good; step 2 here tests that its AUTH flag is its
session's (R164). -/
def arrive (code : Nat) (q : Req) (s0 : State) : Arrival :=
  let s := if tagCompared code q s0 then countCompare true s0 else s0
  if s.boot.recovery then
    if q.session ≠ 0 ∨ !q.auth then .done (countDiscard (transportNum q.transport) (fun c => { c with auth := c.auth.add32 1 }) s)
    else
      match cacheFind q.requestId s.elapsed s.kmp.recoveryCache with
      | some e => .done (answerDuplicate (replyRecovery s) e code q s)
      | none => .go 0 s
  else if q.session = 0 then
    if code = Cmd.sessionOpen.row.code then
      match cacheFind q.requestId s.elapsed s.kmp.openCache with
      | some e =>
        let x :=
          match findSession (f2 e.response 0) s with
          | some y => if e.status = 0 then replySession y else replyOpen q s
          | none => replyOpen q s
        .done (answerDuplicate x e code q s)
      | none =>
        if s.kmp.waiting.length < waitingMax then .go 0 s
        else .done (respond (replyOpen q s) code q Err.busy.code [] false s)
    else .done (noSession code q s)
  else
    match findSession q.session s with
    | none => .done (noSession code q s)
    | some x =>
      if q.auth ≠ x.keySlot.isSome then .done (authFail q.transport s)
      else
        let s1 := touchSession q x s
        match cacheFind q.requestId s1.elapsed (sessionCache x s1) with
        | some e => .done (answerDuplicate (replySession x) e code q s1)
        | none =>
          if waitingMax ≤ s1.kmp.waiting.length then .done (respond (replySession x) code q Err.busy.code [] false s1)
          else if 1 ≤ seqDist q.seq x.h ∧ seqDist q.seq x.h ≤ seqWindow then
            .go x.h (updSession x.number (fun y => { y with h := q.seq }) s1)
          else .done (respond (replySession x) code q Err.seqWindow.code [] false s1)

/-- Commands recovery serves (R132). -/
def recoveryServes : Cmd → Bool
  | .bootStatusGet => true
  | .bankErase => true
  | .bankWrite => true
  | .bankSeal => true
  | .bankSelect => true
  | .restart => true
  | _ => false

/-- How an executed request is answered: with success and a payload, with an error and a payload after what it did, or
later, by the command that ends what it began. -/
inductive Reply where
  | ok (resp : List Byte)
  | err (e : Err) (resp : List Byte)
  | later
deriving DecidableEq, Repr

/-- What a command's own definition does: an error without any effect (R167 step 10), or the next state and the answer. -/
abbrev Body := Except Err (State × Reply)

/-- Steps 7 to 10 of R167; the leader has tested the role of a request that a follower executes (R547). (DEDUCED: log entry 89) -/
def runChecks (c : Cmd) (x : Option Session) (s : State) (body : State → Body) : Body :=
  if s.boot.recovery then
    if recoveryServes c then body s else .error .recovery
  else if !cmdKnown c s then .error .unknownCmd
  else if c.row.control && !(x.any fun y => y.controlling) && !spanFollows s then .error .readOnly
  else if !cmdInMode c s.sup.mode then .error .modeNotAllowed
  else body s

/-- The reply context of an executed request: the session it came from, the session a SESSION_OPEN created, or what a
refused one is answered with (R168). -/
def replyAfter (code : Nat) (q : Req) (x : Option Session) (ok : Bool) (resp : List Byte) (s : State) : ReplyCtx :=
  if s.boot.recovery then replyRecovery s
  else
    match x with
    | some y => replySession y
    | none =>
      if code = Cmd.sessionOpen.row.code ∧ ok then
        match findSession (f2 resp 0) s with
        | some y => replySession y
        | none => replyOpen q s
      else replyOpen q s

/-- Cache a response where R167 and R173 say: the session's cache, the sessionless one, or recovery's. -/
def cacheResponse (code : Nat) (q : Req) (x : Option Session) (status : Nat) (resp : List Byte) (s : State) : State :=
  let e : CacheEntry := ⟨q.requestId, code, q.payload, status, resp, s.elapsed⟩
  if s.boot.recovery then { s with kmp := { s.kmp with recoveryCache := cachePush 8 e s.kmp.recoveryCache } }
  else
    match x with
    | some y => cacheSession y e s
    | none => { s with kmp := { s.kmp with openCache := cachePush 8 e s.kmp.openCache } }

/-- The controlling role's last request (R196). -/
def noteRequest (q : Req) (x : Option Session) (s : State) : State :=
  if x.any fun y => y.controlling then { s with kmp := { s.kmp with ctlLastRequestId := q.requestId } } else s

/-- Answer an executed request, and cache the answer; a Span follower answers to the leader (R547). -/
def finish (code : Nat) (q : Req) (x : Option Session) (ok : Bool) (status : Nat) (resp : List Byte) (s : State) : State :=
  if spanFollows s then sendVc0 (.relay (.ran code q status resp)) s
  else noteRequest q x (cacheResponse code q x status resp (respond (replyAfter code q x ok resp s) code q status resp false s))

/-- The command acts on the TARGET member of its session (R547): those of chapters 2, 4, 7 to 13, 15 to 20 and
SPAN_CONFIG_SET, SPAN_CONFIG_GET and SPAN_STATUS_GET, but for commands on mirrored state (R551). (DEDUCED: log entry 89) -/
def actsOnTarget (c : Cmd) : Bool :=
  let n := c.row.code
  let boot := [Cmd.bootStatusGet, .bankErase, .bankWrite, .bankSeal, .bankSelect, .bankConfirm, .restart, .baselineGet,
    .baselineSet, .recordErase, .recordWrite, .siteLabelSet, .siteLabelGet].contains c
  let mirrored := [Cmd.fwdConfigSet, .bridgeEntrySet, .bridgeFlush].contains c
  let own := [Cmd.spanJoin, .spanLeave, .spanTargetSet].contains c
  boot || (decide (0x0200 ≤ n) && !mirrored && !own)

/-- The request is for the partner to execute (R547). (DEDUCED: log entry 226) -/
def forPartner (c : Cmd) (x : Option Session) (s : State) : Bool :=
  spanLeads s && actsOnTarget c && x.any fun y => decide (y.target = 1)

/-- The request comes from the controlling session, opened under slot 0 (R624, R688, R747); a Span follower executes what its leader
has found so. -/
def underSlot0 (q : Req) (s : State) : Bool :=
  spanFollows s || (findSession q.session s).any fun x => x.controlling && decide (x.keySlot = some 0)

/-- Commands accepted only from a controlling session under slot 0 (R624, R747), opening debug access among them (R688). -/
def needsSlot0 (c : Cmd) (q : Req) : Bool :=
  [Cmd.keyLoad, .keyClear, .baselineSet, .recordErase, .recordWrite].contains c ||
    (decide (c = .debugAccessSet) && decide (f1 q.payload 0 ≠ 0))

/-- A command's own definition, or its relay to the member it acts on (R547). -/
def bodyOrRun (c : Cmd) (q : Req) (x : Option Session) (body : State → Body) (s : State) : Body :=
  if forPartner c x s then
    if needsSlot0 c q ∧ !underSlot0 q s then .error .keyAuth
    else .ok (sendVc0 (.relay (.run c.row.code q)) { s with kmp := { s.kmp with relayed := true } }, .later)
  else body s

/-- Execute a request that has passed step 6: steps 7 to 10, the effect, the response, the cache (R167, R171, R173). -/
def execute (c : Cmd) (q : Req) (body : State → Body) (s : State) : State :=
  let x := findSession q.session s
  match runChecks c x s (bodyOrRun c q x body) with
  | .ok (s1, .ok resp) => finish c.row.code q x true 0 resp s1
  | .ok (s1, .err e resp) => finish c.row.code q x false e.code resp s1
  | .ok (s1, .later) => s1
  | .error e => finish c.row.code q x false e.code [] s

/-- The request is the oldest of those that wait (R171). (DEDUCED: log entry 5) -/
def isHead (code : Nat) (q : Req) (s : State) : Option Waiting :=
  match s.kmp.waiting with
  | [] => none
  | w :: _ => if w.code = code ∧ w.req = q then some w else none

/-- Count a message received on a transport (R731, set 2). (DEDUCED: log entry 95) -/
def countRx (tr : Transport) (s : State) : State :=
  updTransportCtrs (transportNum tr) (fun c => { c with rxMessages := c.rxMessages.add64 1 }) s

/-- A request that passed step 6 waits for its execution; an unknown code is refused at step 7 at once (R167, R171). -/
def enqueue (code : Nat) (q : Req) (h : Nat) (s : State) : State :=
  match Cmd.ofCode code with
  | some _ => { s with kmp := { s.kmp with waiting := s.kmp.waiting ++ [⟨code, q, h, false⟩] } }
  | none => finish code q (findSession q.session s) false Err.unknownCmd.code [] s

/-- The executing request has not ended: the Span partner executes it (R547), or its I2C access is held by its target (R312); no
other request executes meanwhile (R171). -/
def requestHeld (s : State) : Bool :=
  s.kmp.relayed || s.ports.master.any fun m =>
    match m.2.held with
    | some (.kmp _ _) => true
    | _ => false

/-- A transition down that VIN or VHOLD asked for is under way (R33, R57). -/
def shedUnderWay (s : State) : Bool :=
  match s.sup.transition with
  | none => false
  | some x => decide (x.cause = .vinLow ∨ x.cause = .holdFloor)

/-- An I2C master is busy with an access its target holds (R312, R314). -/
def masterBusy (p : Nat) (s : State) : Bool := (Tbl.get {} s.ports.master (Tbl.get {} s.ports.cage p).master).held.isSome

/-- The request waits for the end of what goes on: an executing request, a mode step (R325), a shedding step (R57), an
access on the same master (R314), a halt that pends (R692). (DEDUCED: log entry 268) -/
def mustWait (c : Cmd) (q : Req) (s : State) : Bool :=
  requestHeld s || kmpHalted s ||
    match c with
    | .portForm => s.sup.transition.isSome
    | .modeSet => shedUnderWay s
    | .opticsRead => masterBusy (f1 q.payload 0) s
    | .opticsWrite => masterBusy (f1 q.payload 0) s
    | .keyLoad => kmpHaltPends s
    | _ => false

/-- A request as a message without its tag. -/
def reqBytes (code : Nat) (q : Req) : List Byte :=
  msgHeader { typ := 1, auth := q.auth, replayed := false, loss := false, session := q.session, code := code,
              requestId := q.requestId, seq := q.seq, ack := q.ack, status := 0, payload := q.payload, tag := [] } ++ q.payload

/-- The transport of a held message. -/
def HeldMsg.transport : HeldMsg → Transport
  | .req _ q => q.transport
  | .raw _ d _ => d.transport

/-- A message reaches its transport while the core that serves KMP is halted: held up to 16 to a transport, or discarded (R694). -/
def holdMessage (m : HeldMsg) (s : State) : State :=
  if (s.dbg.held.filter fun x => decide (x.transport = m.transport)).length < 16 then
    { s with dbg := { s.dbg with held := s.dbg.held ++ [m] } }
  else countDiscard (transportNum m.transport) (fun c => { c with other := c.other.add32 1 }) s

/-- A KMP command: the request is the oldest that waits and is executed; or it arrives now, passes steps 2 to 6 of R167,
and is executed if none waits before it (R171). On a transport that is not served nothing answers (R148, R210). A Span follower
relays it to the leader (R546). (DEDUCED: log entries 4, 5) -/
def kmpExec (c : Cmd) (q : Req) (body : State → Body) (s0 : State) : State :=
  let s := advance q.t s0
  match isHead c.row.code q s with
  | some w =>
    if mustWait c q s then s
    else execute c q body { s with kmp := { s.kmp with waiting := s.kmp.waiting.tail, hBefore := w.hBefore } }
  | none =>
    if !destServed (reqDest q) s then s
    else if spanFollows s then
      relayMsg (.request q.transport q.addr q.port (reqBytes c.row.code q)) (countRx q.transport s)
    else if kmpHalted s then holdMessage (.req c.row.code q) (if q.remote then s else countRx q.transport s)
    else
      match arrive c.row.code q (takeRequest (if q.remote then s else countRx q.transport s)) with
      | .done s1 => s1
      | .go h s1 =>
        if s1.kmp.waiting = [] ∧ !mustWait c q s1 then execute c q body { s1 with kmp := { s1.kmp with hBefore := h } }
        else enqueue c.row.code q h s1

/-- The first check that fails decides (R167 step 10). -/
def checks (l : List (Bool × Err)) (k : Body) : Body :=
  match l with
  | [] => k
  | (b, e) :: l => if b then checks l k else .error e

/-- A payload of exactly `n` bytes, or E_BAD_PAYLOAD (R205). (DEDUCED: log entry 6) -/
def lenIs (q : Req) (n : Nat) : Bool × Err := (decide (q.payload.length = n), .badPayload)

/-- A successful command with an empty response. -/
def okEmpty (s : State) : Body := .ok (s, .ok [])

/-- A command that only reports. -/
def okResp (s : State) (resp : List Byte) : Body := .ok (s, .ok resp)

end Sys2Proof.Machine
end

