-- ==== Sys2Proof/Machine/Dram.lean ====
section
/-! DEFINITION. Machine/Dram.lean: the DRAM subsystem (R575 to R607). -/

namespace Sys2Proof.Machine

open Sys2Proof

/-! ### Channels, regions and the error log -/

/-- Channel `c`. -/
def chan (c : Nat) (s : State) : Channel := Tbl.get {} s.dram.ch c

/-- Change channel `c`. -/
def updChan (c : Nat) (f : Channel → Channel) (s : State) : State :=
  { s with dram := { s.dram with ch := Tbl.upd {} s.dram.ch c f } }

/-- STATE codes of a channel (R599 table). -/
def ChState.code : ChState → Nat
  | .off => 0
  | .training => 1
  | .ready => 2
  | .retraining => 3
  | .frozen => 4

/-- The region of a line (R577): 0 route, 1 keep replica, 2 counter store, 3 log archive, 4 hold store, 5 capture,
0xFF reserved. -/
def regionOf (c off : Nat) : Nat :=
  if off < 0x60000000 then 0
  else if c = 0 then
    if off < 0x68000000 then 1
    else if off < 0x88000000 then 2
    else if off < 0x98000000 then 3
    else 0xFF
  else if off < 0x80000000 then 4
  else if off < 0xC0000000 then 5
  else 0xFF

/-- The policies of a region (R587). -/
def policyOf (r : Nat) (s : State) : Policy := Tbl.get {} s.dram.policies r

/-- Append to the error log, which holds the 64 most recent entries (R591). (DESIGN CHOICE: log entry 230) -/
def dramLog (c region kind : Nat) (frz : Bool) (repaired source beats off : Nat) (s : State) : State :=
  let e : DramLog := ⟨s.dram.errSeq, s.tb.now, c, region, kind, frz, repaired, source, beats, off⟩
  { s with dram := { s.dram with
      errLog := (s.dram.errLog ++ [e]).drop (s.dram.errLog.length + 1 - 64)
      errSeq := s.dram.errSeq + 1 } }

/-- The payload EV_DRAM_ERROR adds (R602). -/
def dramErrorAdds (c region kind : Nat) (frz : Bool) (off repaired : Nat) : List Byte :=
  enc [(1, c), (1, region), (1, kind), (1, b2n frz), (4, off), (1, repaired)]

/-- Log an error and raise EV_DRAM_ERROR (R589). -/
def dramReport (c region kind : Nat) (frz : Bool) (repaired source beats off : Nat) (s : State) : State :=
  raise .dramError 0 (dramErrorAdds c region kind frz off repaired)
    (dramLog c region kind frz repaired source beats off s)

/-- A corrected line: counted (R584), tallied (R727), logged and reported at most once per channel per second (R591, R602). -/
def dramCorrected (c off beats source : Nat) (s : State) : State :=
  let s1 := countEvt 0x1A [(8, c)] 1 (tallyAdd 5 1 (updChan c (fun x =>
    { x with corrected := x.corrected.add32 1, unreportedCorrected := x.unreportedCorrected + 1 }) s))
  if reportDue (chan c s1).lastCorrectedLog (sNs 1) s1.elapsed then
    let n := (chan c s1).unreportedCorrected
    let s2 := dramLog c (regionOf c off) 0 false 0xFF source beats off s1
    raise .dramError 0 (dramErrorAdds c (regionOf c off) 0 false off 0xFF ++ be 4 n)
      (updChan c (fun x => { x with lastCorrectedLog := some s2.elapsed, unreportedCorrected := 0 }) s2)
  else s1

/-- A Freeze policy applies (R588): EV_DRAM_FREEZE, then the trigger; the line stays as it was found. -/
def dramFreeze (c region kind source beats off : Nat) (s : State) : State :=
  freezeTrigger .freezePolicy 0
    (raise .dramFreeze 0 (enc [(1, c), (1, region), (1, kind), (4, off)])
      (dramLog c region kind true 0xFF source beats off s))

/-- The counters in a line of the counter store restart and are marked lost (R589). Which ones lie in a line is not given: the set
of one port, chosen freely, does. (DEDUCED: log entry 232) -/
def loseCounters (s : State) : State :=
  let p := Config.freeNat s.freeCtr % 128
  bumpFree { s with cnt := { s.cnt with lost := true, ports := Tbl.set {} s.cnt.ports p {} } }

/-- The capture record in a failing line is returned with DAMAGED set (R589); which one lies in it is not given. -/
def damageCapture (s : State) : State :=
  let n := Config.freeNat s.freeCtr
  bumpFree { s with cap := { s.cap with recs := s.cap.recs.zipIdx.map fun x =>
    if x.2 = n % s.cap.recs.length then { x.1 with damaged := true } else x.1 } }

/-- A held packet that cannot be read is discarded and counted (R589). -/
def dropHeldPacket (l n : Nat) (s : State) : State :=
  let x := linkOf l s
  let i := n % x.hold.length
  let b := ((x.hold.drop i).take 1).map fun e => e.2.length
  cwWide l 8 b.sum (cwWide l 7 b.length (updLink l (fun y => { y with hold := y.hold.eraseIdx i }) s))

/-- A failing line of the hold store holds a held packet or a replay frame of some link (R589); which is not given. A replay frame
flushes its link, which restarts from INIT as on CW_FLUSH. -/
def loseHeld (s0 : State) : State :=
  let l := Config.freeNat s0.freeCtr % 144
  let n := Config.freeNat (s0.freeCtr + 1)
  let frame := Config.freeBool (s0.freeCtr + 2)
  let s := bumpFree (bumpFree (bumpFree s0))
  let x := linkOf l s
  if !x.formed then s
  else if frame ∧ x.kept ≠ [] then cwRestart l 7 (cwFlush l false s)
  else dropHeldPacket l n s

/-- What the owner of a region does about an uncorrectable line under Report, beyond the report itself (R589); under Freeze the
failing access returns its error to its owner in the same way (R588). -/
def ownerAction (region off : Nat) (s : State) : State :=
  match region with
  | 2 => loseCounters s
  | 3 => { s with dram := { s.dram with archBad := s.dram.archBad ++ [(off - 0x88000000) / 64] } }
  | 4 => loseHeld s
  | 5 => damageCapture s
  | _ => s

/-- What the owner does about a failed command on a line that is not given (R589). -/
def ownerAfterCommand (region : Nat) (s : State) : State :=
  ownerAction region (0x88000000 + Config.freeNat s.freeCtr % 2 ^ 22 * 64) (bumpFree s)

/-- Queue a line for its repair (R586, R589). -/
def queueRepair (c region off source beats : Nat) (s : State) : State :=
  { s with dram := { s.dram with repairs := s.dram.repairs ++ [⟨c, region, off, source, beats⟩] } }

/-- An uncorrectable line found by the scrubber (source 1) or by DRAM_READ (source 2): R586, R588, R589, R598, R605. -/
def dramUncorrectable (c off beats source : Nat) (s : State) : State :=
  let r := regionOf c off
  let s1 := updChan c (fun x => { x with uncorrectable := x.uncorrectable.add32 1, uncorrSeen := true }) s
  if s.sup.mode = .freeze then dramLog c r 1 (policyOf r s).dataFreeze 0xFF source beats off s1
  else if r ≤ 1 then queueRepair c r off source beats s1
  else if r ≠ 0xFF ∧ (policyOf r s).dataFreeze then
    ownerAction r off
      (dramFreeze c r 1 source beats off (updChan c (fun x => { x with badLines := Tbl.set 0 x.badLines off beats }) s1))
  else ownerAction r off (dramReport c r 1 false 0xFF source beats off s1)

/-! ### Training (R592 to R594) -/

/-- The passing delays of a sweep row, delay 0 first. -/
def rowBits (r : BitVec 128) : List Bool := (List.range 128).map fun i => r.getLsbD i

/-- The longest run of true, the first on equal length: (start, length). -/
def longestRun : List Bool → (idx start len bestStart bestLen : Nat) → Nat × Nat
  | [], _, _, _, bs, bl => (bs, bl)
  | b :: l, i, st, n, bs, bl =>
    if b then
      let st' := if n = 0 then i else st
      if bl < n + 1 then longestRun l (i + 1) st' (n + 1) st' (n + 1) else longestRun l (i + 1) st' (n + 1) bs bl
    else longestRun l (i + 1) st 0 bs bl

/-- W(v) of a row with where its run starts (R593 step 1). -/
def rowRun (r : BitVec 128) : Nat × Nat := longestRun (rowBits r) 0 0 0 0 0

/-- Indices of a list equal to a value. -/
def indicesOf (x : Nat) : List Nat → Nat → List Nat
  | [], _ => []
  | y :: l, i => if y = x then i :: indicesOf x l (i + 1) else indicesOf x l (i + 1)

/-- Distance of an index from the middle of the tied rows, doubled. -/
def midDist (lo hi v : Nat) : Nat := if 2 * v < lo + hi then lo + hi - 2 * v else 2 * v - (lo + hi)

/-- V1: the widest row, and among ties the one nearest the middle of the tied rows, the lower on equal distance
(R593 step 2). -/
def chooseRow (ws : List Nat) : Nat :=
  let w := ws.foldl max 0
  let tied := indicesOf w ws 0
  let lo := tied.headD 0
  let hi := tied.getLastD 0
  tied.foldl (fun best v => if midDist lo hi v < midDist lo hi best then v else best) lo

/-- Passing rows above and below an index, counted outwards. -/
def runUp : List Bool → Nat
  | true :: l => runUp l + 1
  | _ => 0

/-- The settings one direction of a byte lane gets from its sweep (R593). -/
def chooseEye (rows : List (BitVec 128)) : Eye :=
  let runs := rows.map rowRun
  let v := chooseRow (runs.map fun r => r.2)
  let (st, w) := runs.getD v (0, 0)
  if w = 0 then {}
  else
    let delay := (st + (st + w - 1)) / 2
    let col := rows.map fun r => r.getLsbD delay
    let up := runUp (col.drop v)
    let down := runUp ((col.take v).reverse)
    { delay := delay, width := w, vref := (v - down + (v + up - 1)) / 2, height := up + down }

/-- The sweep a retrain sees: delays DELAY − 16 to DELAY + 16 and indices VREF − 4 to VREF + 4 (R595). -/
def windowRows (e : Eye) (rows : List (BitVec 128)) : List (BitVec 128) :=
  rows.mapIdx fun v r =>
    if e.vref ≤ v + 4 ∧ v ≤ e.vref + 4 then
      BitVec.ofNat 128 (((List.range 128).map fun d =>
        if r.getLsbD d ∧ e.delay ≤ d + 16 ∧ d ≤ e.delay + 16 then 2 ^ d else 0).sum)
    else 0

/-- A byte lane's sweeps: read rows and write rows by Vref index. -/
abbrev LaneSweep := List (BitVec 128) × List (BitVec 128)

/-- The settings of a channel's five lanes from their sweeps. -/
def chooseLanes (l : List LaneSweep) : List LaneEyes := l.map fun p => ⟨chooseEye p.1, chooseEye p.2⟩

/-- One direction passes (R594). -/
def eyePass (e : Eye) : Bool := decide (24 ≤ e.width) && decide (8 ≤ e.height)

/-- One direction passes with a low margin (R594). -/
def eyeLow (e : Eye) : Bool := decide (e.width < 32) || decide (e.height < 12)

/-- A lane passes in both directions (R594). -/
def lanePass (x : LaneEyes) : Bool := eyePass x.read && eyePass x.write

/-- A channel passes when all five lanes do (R594). -/
def lanesPass (l : List LaneEyes) : Bool := decide (l.length = 5) && l.all lanePass

/-- EV_DRAM_MARGIN of one direction of a lane (R602). -/
def marginEvent (c lane dir : Nat) (e : Eye) (s : State) : State :=
  raiseIf (eyeLow e) .dramMargin 0 (enc [(1, c), (1, lane), (1, dir), (1, e.width), (1, e.height)]) s

/-- EV_DRAM_MARGIN for every direction of a passing lane that is low (R594). -/
def marginEvents (c : Nat) (l : List LaneEyes) (s : State) : State :=
  forEach (l.zipIdx) (fun p s =>
    if lanePass p.1 then marginEvent c (5 * c + p.2) 1 p.1.write (marginEvent c (5 * c + p.2) 0 p.1.read s) else s) s

/-- Lane, direction, WIDTH and HEIGHT of the first failing lane (R602). -/
def firstFailing (c : Nat) (l : List LaneEyes) : List Byte :=
  match l.zipIdx.find? fun p => !lanePass p.1 with
  | none => []
  | some p =>
    if eyePass p.1.read then enc [(1, 5 * c + p.2), (1, 1), (1, p.1.write.width), (1, p.1.write.height)]
    else enc [(1, 5 * c + p.2), (1, 0), (1, p.1.read.width), (1, p.1.read.height)]

/-- Lowest WIDTH and HEIGHT over lanes and directions. -/
def lowest (f : Eye → Nat) (l : List LaneEyes) : Nat :=
  (l.flatMap fun x => [f x.read, f x.write]).foldl min 255

/-- The end of a channel's training: result kept, settings applied, EV_DRAM_TRAINED and EV_DRAM_MARGIN (R594). (DEDUCED: log entry 229) -/
def trainChannel (c : Nat) (sweep : List LaneSweep) (s : State) : State :=
  let lanes := chooseLanes sweep
  let ok := lanesPass lanes
  let temp := (chan c s).tempC
  let s1 := updChan c (fun x =>
    { x with
      state := if ok then .ready else .off
      trainTempC := temp
      retrainDue := false
      withdrawn := if ok then false else x.withdrawn
      lastRefresh := s.elapsed
      train := some ⟨ok, temp, false, s.tb.now, lanes⟩ }) s
  let s2 := raise .dramTrained 0
    (enc [(1, c), (1, b2n (!ok)), (1, lowest (fun e => e.width) lanes), (1, lowest (fun e => e.height) lanes)] ++
      firstFailing c lanes) s1
  if ok then marginEvents c lanes s2 else s2

/-! ### Retraining (R595 to R597) -/

/-- Points of a retrain (R595). -/
def retrainPoints : Nat := 594

/-- Make a retrain due (R595, R599). -/
def makeDue (c : Nat) (force : Bool) (s : State) : State :=
  updChan c (fun x =>
    { x with
      retrainDue := true
      dueSince := s.elapsed
      retrain := if force then some ⟨retrainPoints, true, true, s.elapsed⟩ else x.retrain }) s

/-- The end of a retrain: settings from the window sweep, applied only where every lane passes; otherwise the previous
ones stay and the retrain is repeated 60 s later (R597). -/
def finishRetrain (c : Nat) (force : Bool) (sweep : List LaneSweep) (s : State) : State :=
  let x := chan c s
  let old := (x.train.map fun r => r.lanes).getD []
  let lanes := List.zipWith (fun (e : LaneEyes) (p : LaneSweep) =>
    LaneEyes.mk (chooseEye (windowRows e.read p.1)) (chooseEye (windowRows e.write p.2))) old sweep
  let ok := lanesPass lanes
  let s1 := updChan c (fun y =>
    { y with
      state := .ready
      retrain := none
      retrainDue := !ok
      trainTempC := if ok then y.tempC else y.trainTempC
      retrains := y.retrains.add32 1
      repeatAt := if ok then none else some (s.elapsed + sNs 60)
      train := if ok then some ⟨true, y.tempC, true, s.tb.now, lanes⟩ else y.train }) s
  raise .dramRetrain 0
    (enc [(1, c), (1, twos 1 x.trainTempC), (1, twos 1 x.tempC), (1, b2n ok), (1, b2n force)]) s1

/-- A slice of at most 10 points (R595). -/
def slicePoints : Nat := 10

/-- A retrain slice may start: the queues have been empty for 10 µs, or the slices run at 1 ms intervals (R596). -/
def sliceMayRun (x : Channel) (emptyNs : Nat) (now : Nat) : Bool :=
  match x.retrain with
  | some r => if r.everyMs then decide (r.lastSlice + msNs 1 ≤ now) else decide (usNs 10 ≤ emptyNs)
  | none => x.retrainDue && decide (usNs 10 ≤ emptyNs)

/-- Run a slice; the last one completes the retrain with its sweeps. -/
def runSlice (c : Nat) (sweep : List LaneSweep) (s : State) : State :=
  let x := chan c s
  let r := x.retrain.getD ⟨retrainPoints, false, false, s.elapsed⟩
  let left := r.left - slicePoints
  let s1 := updChan c (fun y =>
    { y with state := .retraining, retrain := some { r with left := left, lastSlice := s.elapsed } }) s
  if left = 0 then finishRetrain c r.force sweep s1 else s1

/-- RETRAIN_SLICE (R596); none runs in Freeze (R598). -/
def retrainSliceEffect (t : Nat) (c : Fin 4) (emptyNs : Nat) (sweep : List LaneSweep) (s0 : State) : State :=
  let s := advance t s0
  if dataPlaneMode s.sup.mode ∧ chPowered c s ∧ s.dbg.modeWrite ≠ some c.val ∧ sliceMayRun (chan c s) emptyNs s.elapsed then runSlice c sweep s else s

/-- RETRAIN_WAIT_EXPIRY: still incomplete RETRAIN_WAIT_S after it became due (R596). -/
def retrainWaitExpiryEffect (t : Nat) (c : Fin 4) (s0 : State) : State :=
  let s := advance t s0
  let x := chan c s
  if dataPlaneMode s.sup.mode ∧ x.retrainDue ∧ x.dueSince + sNs s.dram.retrainWaitS ≤ s.elapsed then
    updChan c (fun y =>
      let r := y.retrain.getD ⟨retrainPoints, false, false, s.elapsed⟩
      { y with retrain := some { r with everyMs := true } }) s
  else s

/-- RETRAIN_REPEAT: 60 s after a failed retrain (R597). -/
def retrainRepeatEffect (t : Nat) (c : Fin 4) (s0 : State) : State :=
  let s := advance t s0
  match (chan c s).repeatAt with
  | some a =>
    if a ≤ s.elapsed ∧ dataPlaneMode s.sup.mode ∧ chPowered c s then
      updChan c (fun y => { y with repeatAt := none, retrainDue := true, dueSince := s.elapsed }) s
    else s
  | none => s

/-! ### Refresh, temperature, scrubbing, alerts and repairs -/

/-- The refresh interval in ns (R583). -/
def refreshNs (x : Channel) : Nat := if x.tempC ≤ 85 then 3900 else 1950

/-- REFRESH: an interval has elapsed; a busy channel postpones at most four (R583). -/
def refreshEffect (t : Nat) (c : Fin 4) (busy : Bool) (s0 : State) : State :=
  let s := advance t s0
  let x := chan c s
  if chPowered c s ∧ !x.stopped ∧ x.lastRefresh + refreshNs x ≤ s.elapsed then
    updChan c (fun y =>
      { y with
        lastRefresh := s.elapsed
        postponed := if busy ∧ y.postponed < 4 then y.postponed + 1 else if busy then y.postponed else 0 }) s
  else s

/-- The difference that makes a retrain due (R595, R606). -/
def tempDrift (a b : Int) : Bool := decide (20 ≤ a - b ∨ 20 ≤ b - a)

/-- A sensor reading is stored, and a drift of 20 °C makes a retrain due (R583, R595, R606); not in Freeze (R598). -/
def readTemp (c : Nat) (temp : Int) (s : State) : State :=
  let s1 := updChan c (fun y => { y with tempC := temp }) s
  let x := chan c s1
  if tempDrift temp x.trainTempC ∧ !x.retrainDue ∧ x.repeatAt = none ∧ dataPlaneMode s.sup.mode then makeDue c false s1
  else s1

/-- What a scrub of one line found. -/
def scrubLine (c off status beats : Nat) (s : State) : State :=
  match status with
  | 0 => s
  | 1 => dramCorrected c off beats 1 s
  | _ => dramUncorrectable c off beats 1 s

/-- The line after `off`; at the end of the channel a pass is complete (R586). -/
def scrubStep (c off : Nat) (s : State) : State :=
  let next := off + 64
  if next < 2 ^ 32 then updChan c (fun y => { y with scrubNext := next }) s
  else updChan c (fun y => { y with scrubNext := 0, scrubPasses := y.scrubPasses.add32 1 }) s

/-- The control core rewrote a failing line and read it back (R589, R590). (DEDUCED: log entry 231) -/
def finishRepair (r : Repair) (clean : Bool) (s : State) : State :=
  let s1 := { s with dram := { s.dram with repairs := s.dram.repairs.filter fun x => decide (x ≠ r) } }
  if clean then
    dramReport r.channel r.region 1 false 1 r.source r.beats r.offset
      (updChan r.channel (fun y => { y with badLines := Tbl.set 0 y.badLines r.offset 0 }) s1)
  else
    let s2 := updChan r.channel (fun y =>
      { y with
        badLines := Tbl.set 0 y.badLines r.offset r.beats
        withdrawn := y.withdrawn || (decide (r.region = 0) && decide (s.sup.mode = .full ∨ s.sup.mode = .span)) }) s1
    if (policyOf r.region s).dataFreeze then dramFreeze r.channel r.region 1 3 r.beats r.offset s2
    else dramReport r.channel r.region 1 false 0 3 r.beats r.offset s2

/-- ROUTE_REPAIR: the oldest queued line of a channel (R589, R590); no repair runs in Freeze (R598). -/
def routeRepairEffect (t : Nat) (c : Fin 4) (clean : Bool) (s0 : State) : State :=
  let s := advance t s0
  match s.dram.repairs.find? fun r => r.channel == c.val with
  | none => s
  | some r => if dataPlaneMode s.sup.mode ∧ !ctlHalted s then finishRepair r clean s else s

/-- COPY_REBUILD: a channel's trie copy has been rebuilt after a failed command (R589). -/
def copyRebuildEffect (t : Nat) (c : Fin 4) (s0 : State) : State :=
  let s := advance t s0
  if dataPlaneMode s.sup.mode ∧ (chan c s).rebuild then updChan c (fun y => { y with rebuild := false }) s else s

/-- A failed command (R585, R587 to R589): region 0xFF is a refresh, mode-register or calibration command, which follows
Freeze if any region of its channel has CA policy Freeze. -/
def caFailed (c region : Nat) (s : State) : State :=
  let s1 := updChan c (fun y => { y with caFailed := y.caFailed.add32 1, caFailedSeen := true }) s
  let regions := if c = 0 then [0, 1, 2, 3] else [0, 4, 5]
  let frz := if region ≤ 5 then (policyOf region s).caFreeze else regions.any fun r => (policyOf r s).caFreeze
  if s.sup.mode = .freeze then dramLog c region 2 frz 0xFF 0 0 0 s1
  else if frz then ownerAfterCommand region (dramFreeze c region 2 0 0 0 s1)
  else
    let s2 := dramReport c region 2 false 0xFF 0 0 0 s1
    if region ≤ 1 then updChan c (fun y => { y with rebuild := true }) s2 else ownerAfterCommand region s2

/-- The channel stops at an alert (R585); an alert on a re-issued command fails it. -/
def alertOn (c : Fin 4) (region : Nat) (again : Bool) (s : State) : State :=
  if chPowered c s then
    let s1 := updChan c (fun y => { y with stopped := true, caAlerts := y.caAlerts.add32 1 }) s
    if again ∧ (chan c s).reissuing then caFailed c region (updChan c (fun y => { y with reissuing := false }) s1) else s1
  else s

/-- ALERT_N_HIGH: the controller re-issues its history (R585). -/
def alertNHighEffect (t : Nat) (c : Fin 4) (s0 : State) : State :=
  let s := advance t s0
  if chPowered c s ∧ (chan c s).stopped then updChan c (fun y => { y with stopped := false, reissuing := true }) s else s

/-- The scrubber reads a line (R586); it does not run in Freeze (R598), nor while a mode-register write is unfinished (R693). -/
def scrubRead (c : Fin 4) (line : BitVec 26) (status : Fin 3) (beats : BitVec 16) (s : State) : State :=
  if dataPlaneMode s.sup.mode ∧ chPowered c s ∧ s.dbg.modeWrite ≠ some c.val then
    let off := line.toNat * 64
    scrubStep c off (scrubLine c off status.val beats.toNat s)
  else s

/-! ### Commands -/

/-- CHANNEL of a request is a channel (R599). -/
def chOk (c : Nat) : Bool := decide (c ≤ 3)

/-- Flags of a channel in DRAM_STATUS_GET. -/
def chFlags (x : Channel) : Nat := flags [x.retrainDue, x.withdrawn, decide (85 < x.tempC)]

/-- The six counters of a channel. -/
def chCtrs (x : Channel) : List Ctr := [x.corrected, x.uncorrectable, x.caAlerts, x.caFailed, x.retrains, x.scrubPasses]

/-- A channel record of DRAM_STATUS_GET. -/
def chRecord (x : Channel) : List Byte :=
  enc [(1, x.state.code), (1, chFlags x), (1, twos 1 x.tempC), (1, twos 1 x.trainTempC)] ++
    (chCtrs x).flatMap fun c => be 4 c.val

/-- DRAM_STATUS_GET: one snapshot (R599, R718). -/
def dramStatusGetBody (q : Req) (s : State) : Body :=
  let cs := [chan 0 s, chan 1 s, chan 2 s, chan 3 s]
  checks [lenIs q 0] (okResp s (tb10 s.tb.now ++ be 2 0 ++ be 4 (flags (cs.flatMap fun x => (chCtrs x).map fun c => c.ovf)) ++
    cs.flatMap chRecord))

/-- A lane record of DRAM_TRAIN_GET. -/
def laneRecord (x : LaneEyes) : List Byte :=
  enc [(1, x.read.delay), (1, x.read.width), (1, x.read.vref), (1, x.read.height), (1, x.write.delay), (1, x.write.width),
    (1, x.write.vref), (1, x.write.height),
    (1, flags [lanePass x && (eyeLow x.read || eyeLow x.write), !lanePass x]), (3, 0)]

/-- DRAM_TRAIN_GET (R599). -/
def dramTrainGetBody (q : Req) (s : State) : Body :=
  let c := f1 q.payload 0
  let r := (chan c s).train
  checks [lenIs q 4, (chOk c, .dramParam), (chPowered c s, .dramChannelOff)]
    (okResp s (match r with
      | none => enc [(1, c), (1, 2), (1, 0), (1, 0)] ++ padTo 72 []
      | some r => enc [(1, c), (1, b2n (!r.pass)), (1, twos 1 r.tempC), (1, b2n r.retrain)] ++ tb10 r.trainedAt ++ be 2 0 ++
          padTo 60 (r.lanes.flatMap laneRecord)))

/-- The fields of a DRAM_POLICY_SET payload are in range (R600). -/
def dramPolicyOk (p : List Byte) : Bool :=
  ((List.range 12).all fun i => decide (f1 p i ≤ 1)) && decide (10 ≤ f2 p 12) && decide (f2 p 12 ≤ 3600)

/-- Apply a DRAM policy set (R600). -/
def setDramPolicy (p : List Byte) (s : State) : State :=
  { s with dram := { s.dram with
      policies := (List.range 6).foldl (fun t r => Tbl.set {} t r ⟨f1 p (2 * r) == 1, f1 p (2 * r + 1) == 1⟩) s.dram.policies
      retrainWaitS := f2 p 12 } }

/-- DRAM_POLICY_SET (R600). -/
def dramPolicySetBody (q : Req) (s : State) : Body :=
  checks [lenIs q 16, (dramPolicyOk q.payload, .dramParam)] (okEmpty (setDramPolicy q.payload s))

/-- The policies in the layout of DRAM_POLICY_SET. -/
def dramPolicyResp (s : State) : List Byte :=
  ((List.range 6).flatMap fun r => enc [(1, b2n (policyOf r s).dataFreeze), (1, b2n (policyOf r s).caFreeze)]) ++
    enc [(2, s.dram.retrainWaitS), (2, 0)]

/-- DRAM_POLICY_GET. -/
def dramPolicyGetBody (q : Req) (s : State) : Body := checks [lenIs q 0] (okResp s (dramPolicyResp s))

/-- DRAM_RETRAIN (R600). -/
def dramRetrainBody (q : Req) (s : State) : Body :=
  let c := f1 q.payload 0
  checks [lenIs q 4, (chOk c, .dramParam), (chPowered c s, .dramChannelOff),
      (decide ((chan c s).state ≠ .retraining), .dramRetrainBusy)]
    (okEmpty (makeDue c (bitOf (f1 q.payload 1) 0) s))

/-- An entry of DRAM_ERROR_LOG_GET. -/
def dramLogRecord (e : DramLog) : List Byte :=
  be 4 e.seq ++ tb10 e.tb ++ enc [(1, e.channel), (1, e.region), (1, e.kind), (1, b2n e.freezePolicy), (1, e.repaired),
    (1, e.source), (2, e.beats), (2, 0), (4, e.offset), (4, 0)]

/-- DRAM_ERROR_LOG_GET (R599). -/
def dramErrorLogGetBody (q : Req) (s : State) : Body :=
  let first := f4 q.payload 0
  let n := f1 q.payload 4
  let es := (s.dram.errLog.filter fun e => decide (first ≤ e.seq)).take n
  let next := match es.getLast? with
    | some e => e.seq + 1
    | none => first
  checks [lenIs q 8, (decide (1 ≤ n) && decide (n ≤ 32), .dramParam)]
    (okResp s (enc [(4, next), (1, es.length), (3, 0)] ++ es.flatMap dramLogRecord))

/-- Fresh free bytes: what DRAM holds is the firmware's, in layouts the spec does not give. (DESIGN CHOICE: log entry 228) -/
def freeBytes (n : Nat) (s : State) : List Byte := (List.range n).map fun i => Config.freeByte (s.freeCtr * 4096 + i)

/-- The records of DRAM_READ: a line known to stay uncorrectable reads with STATUS 2, any other clean. (DESIGN CHOICE: log entry 228) -/
def dramReadRecords (c off n : Nat) (s : State) : List Byte :=
  (List.range n).flatMap fun i =>
    let bad := Tbl.get 0 (chan c s).badLines (off + 64 * i)
    enc [(1, if bad = 0 then 0 else 2), (3, 0)] ++ ((freeBytes (80 * n) s).drop (80 * i)).take 80

/-- The uncorrectable lines of a DRAM_READ range. -/
def badInRange (c off n : Nat) (s : State) : List (Nat × Nat) :=
  (chan c s).badLines.filter fun p => decide (off ≤ p.1 ∧ p.1 < off + 64 * n)

/-- DRAM_READ (R601): what it finds is handled as the scrubber does; in Freeze nothing is written back. -/
def dramReadBody (q : Req) (s : State) : Body :=
  let c := f1 q.payload 0
  let off := f4 q.payload 4
  let n := f1 q.payload 8
  checks [lenIs q 12, (chOk c && decide (off % 64 = 0) && decide (1 ≤ n) && decide (n ≤ 15), .dramParam),
      (chPowered c s, .dramChannelOff), (decide (off + 64 * n ≤ 2 ^ 32), .dramRange)]
    (okResp (bumpFree (forEach (badInRange c off n s) (fun p => dramUncorrectable c p.1 p.2 2) s)) (dramReadRecords c off n s))

/-! ### The meanings -/

/-- DRAM_STATUS_GET. -/
def execDramStatusGet (q : Req) (s : State) : Host.Outcome State Fault Refusal :=
  .next (kmpExec .dramStatusGet q (dramStatusGetBody q) s)

/-- DRAM_TRAIN_GET. -/
def execDramTrainGet (q : Req) (s : State) : Host.Outcome State Fault Refusal :=
  .next (kmpExec .dramTrainGet q (dramTrainGetBody q) s)

/-- DRAM_POLICY_SET. -/
def execDramPolicySet (q : Req) (s : State) : Host.Outcome State Fault Refusal :=
  .next (kmpExec .dramPolicySet q (dramPolicySetBody q) s)

/-- DRAM_POLICY_GET. -/
def execDramPolicyGet (q : Req) (s : State) : Host.Outcome State Fault Refusal :=
  .next (kmpExec .dramPolicyGet q (dramPolicyGetBody q) s)

/-- DRAM_RETRAIN. -/
def execDramRetrain (q : Req) (s : State) : Host.Outcome State Fault Refusal :=
  .next (kmpExec .dramRetrain q (dramRetrainBody q) s)

/-- DRAM_ERROR_LOG_GET. -/
def execDramErrorLogGet (q : Req) (s : State) : Host.Outcome State Fault Refusal :=
  .next (kmpExec .dramErrorLogGet q (dramErrorLogGetBody q) s)

/-- DRAM_READ. -/
def execDramRead (q : Req) (s : State) : Host.Outcome State Fault Refusal :=
  .next (kmpExec .dramRead q (dramReadBody q) s)

/-- REFRESH. -/
def execRefresh (t : Nat) (c : Fin 4) (busy : Bool) (s : State) : Host.Outcome State Fault Refusal :=
  .next (refreshEffect t c busy s)

/-- RETRAIN_SLICE. -/
def execRetrainSlice (t : Nat) (c : Fin 4) (emptyNs : Nat) (sweep : List (List (BitVec 128) × List (BitVec 128))) (s : State) : Host.Outcome State Fault Refusal :=
  .next (retrainSliceEffect t c emptyNs sweep s)

/-- RETRAIN_WAIT_EXPIRY. -/
def execRetrainWaitExpiry (t : Nat) (c : Fin 4) (s : State) : Host.Outcome State Fault Refusal :=
  .next (retrainWaitExpiryEffect t c s)

/-- RETRAIN_REPEAT. -/
def execRetrainRepeat (t : Nat) (c : Fin 4) (s : State) : Host.Outcome State Fault Refusal :=
  .next (retrainRepeatEffect t c s)

/-- ROUTE_REPAIR. -/
def execRouteRepair (t : Nat) (c : Fin 4) (clean : Bool) (s : State) : Host.Outcome State Fault Refusal :=
  .next (routeRepairEffect t c clean s)

/-- COPY_REBUILD. -/
def execCopyRebuild (t : Nat) (c : Fin 4) (s : State) : Host.Outcome State Fault Refusal :=
  .next (copyRebuildEffect t c s)

/-- ALERT_N_HIGH. -/
def execAlertNHigh (t : Nat) (c : Fin 4) (s : State) : Host.Outcome State Fault Refusal :=
  .next (alertNHighEffect t c s)

end Sys2Proof.Machine
end

