-- ==== Sys2Proof/Machine/Capture.lean ====
section
/-! DEFINITION. Machine/Capture.lean: what frame capture keeps (R701, R702). -/

namespace Sys2Proof.Machine

open Sys2Proof

/-- Bytes of the capture region: 1,024 MiB in each of channels 1 to 3 (R577). -/
def captureRegion : Nat := 3 * 2 ^ 30

/-- Bytes a record takes: its header and what it keeps. (DEDUCED: log entry 265) -/
def capSize (r : CapRec) : Nat := 32 + r.bytes.length

/-- Drop the oldest records until the rest takes at most `room` bytes. -/
def capTrim : Nat → List CapRec → List CapRec
  | _, [] => []
  | room, r :: rs => if ((r :: rs).map capSize).sum ≤ room then r :: rs else capTrim room rs

/-- A capture ends (R702): EV_CAPTURE_DONE, cause 0 command, 1 full, 2 mode change. -/
def captureEnd (cause reqId : Nat) (s : State) : State :=
  if s.cap.state = .running then
    raise .captureDone reqId (enc [(1, cause), (4, s.cap.recs.length), (4, s.cap.missed)]) { s with cap := { s.cap with state := .stopped } }
  else s

/-- A frame passes the capture point of its port and direction with its class known (R701): a record is kept, or a full
region ends the capture or gives up its oldest records (R702). (DEDUCED: log entry 265) -/
def captureFrame (port : Nat) (egress : Bool) (frame : List Byte) (at0 cls queue : Nat) (s : State) : State :=
  let c := s.cap
  if c.state = .running ∧ c.port = port ∧ c.egress = egress ∧ bitOf c.classMask cls = true then
    let r : CapRec := ⟨c.nextSeq, at0, port, egress, false, strikeOpen s, frame.length, cls, queue, frame.take c.snapLen⟩
    if c.stopWhenFull ∧ captureRegion < ((c.recs ++ [r]).map capSize).sum then captureEnd 1 0 s
    else { s with cap := { c with nextSeq := inc32 c.nextSeq, recs := capTrim captureRegion (c.recs ++ [r]) } }
  else s

end Sys2Proof.Machine
end

