-- ==== Sys2Proof/Machine/Parse.lean ====
section
/-! DEFINITION. Machine/Parse.lean: the parser, the SCADA recognisers and the keys (R370 to R380). -/

namespace Sys2Proof.Machine

open Sys2Proof

/-- What the parser has read from a frame. -/
structure Parsed where
  bytes : List Byte
  dmac : Nat := 0
  smac : Nat := 0
  /-- TPID and TCI of the parsed tags, outer first. -/
  tags : List (Nat × Nat) := []
  etherType : Nat := 0
  /-- Offset of what follows the type. -/
  off : Nat := 14
  /-- Label stack entries parsed, top first. -/
  labels : List Nat := []
  bottom : Bool := false
  mpls : Bool := false
  /-- 0 no IP layer, 4 or 6. -/
  ip : Nat := 0
  ipOff : Nat := 0
  src : Nat := 0
  dst : Nat := 0
  proto : Nat := 0
  dscp : Nat := 0
  ttl : Nat := 0
  ident : Nat := 0
  frag : Nat := 0
  fragOff : Nat := 0
  more : Bool := false
  /-- Bytes of the datagram after its unfragmentable part. -/
  fragLen : Nat := 0
  depth : Bool := false
  l3err : Bool := false
  options : Bool := false
  /-- Offset of the transport header, and of its payload where it was parsed. -/
  l4Off : Nat := 0
  l4 : Bool := false
  l4Src : Nat := 0
  l4Dst : Nat := 0
  payload : Nat := 0
deriving DecidableEq, Repr

/-- The byte before the FCS ends here (R372). (DEDUCED: log entry 161) -/
def bodyEnd (b : List Byte) : Nat := b.length - 4

/-- The parser reads bytes 0 to 255 of the frame (R370); the FCS is no header and no payload. (DEDUCED: log entry 161) -/
def parseLim (b : List Byte) : Nat := min 256 (bodyEnd b)

/-- The header at `off` of `n` bytes lies within the depth and the frame (R370, R419). -/
def fits (b : List Byte) (off n : Nat) : Bool := decide (off + n ≤ parseLim b)

/-- A VLAN TPID (R371). -/
def isTpid (extra t : Nat) : Bool := decide (t = 0x8100 ∨ t = 0x88A8 ∨ (extra ≠ 0 ∧ t = extra))

/-- The tags from offset 12 on: `n` more may be parsed (R371). (DEDUCED: log entry 160) -/
def parseTags (extra : Nat) : Nat → Nat → Parsed → Parsed
  | n, off, p =>
    let t := f2 p.bytes off
    if isTpid extra t then
      match n with
      | 0 => { p with etherType := t, off := off + 2, depth := true }
      | n + 1 =>
        if fits p.bytes off 6 then parseTags extra n (off + 4) { p with tags := p.tags ++ [(t, f2 p.bytes (off + 2))] }
        else { p with etherType := t, off := off + 2, depth := true }
    else { p with etherType := t, off := off + 2 }

/-- The label stack: `n` more labels may be parsed (R371). -/
def parseLabels : Nat → Parsed → Parsed
  | 0, p => { p with depth := true }
  | n + 1, p =>
    if fits p.bytes p.off 4 then
      let e := f4 p.bytes p.off
      let p1 := { p with labels := p.labels ++ [e], off := p.off + 4 }
      if bitOf e 8 then { p1 with bottom := true } else parseLabels n p1
    else { p with depth := true }

/-- TCP, UDP, SCTP, ICMP and ICMPv6 (R371). (DEDUCED: log entry 160) -/
def parseL4 (p : Parsed) : Parsed :=
  let b := p.bytes
  let o := p.l4Off
  let ports := fun (q : Parsed) => { q with l4 := true, l4Src := f2 b o, l4Dst := f2 b (o + 2) }
  if p.proto = 6 then
    let n := f1 b (o + 12) / 16 * 4
    if fits b o 20 && fits b o n then { ports p with payload := o + n } else { p with depth := true }
  else if p.proto = 17 then
    if fits b o 8 then { ports p with payload := o + 8 } else { p with depth := true }
  else if p.proto = 132 then
    if fits b o 12 then { ports p with payload := o + 12 } else { p with depth := true }
  else if p.proto = 1 ∨ p.proto = 58 then
    if fits b o 8 then { p with l4 := true, l4Src := f1 b o * 256 + f1 b (o + 1), l4Dst := 0, payload := o + 8 }
    else { p with depth := true }
  else p

/-- A later fragment has no transport ports (R374). -/
def parseTransport (p : Parsed) : Parsed := if p.frag = 2 then p else parseL4 p

/-- The Internet sum of a header with its checksum is good (R372). -/
def headerSumOk (l : List Byte) : Bool :=
  let n := l.foldl (fun (a : Nat × Bool) x => (a.1 + (if a.2 then x.toNat else x.toNat * 256), !a.2)) (0, false)
  let a := n.1 % 65536 + n.1 / 65536
  decide (a % 65536 + a / 65536 = 65535)

/-- IPv4 (R371, R372, R374). -/
def parseIp4 (p : Parsed) : Parsed :=
  let b := p.bytes
  let o := p.off
  let ihl := f1 b o % 16 * 4
  let total := f2 b (o + 2)
  if !fits b o 20 then { p with depth := true }
  else if f1 b o / 16 ≠ 4 ∨ ihl < 20 then { p with l3err := true }
  else if !fits b o ihl then { p with depth := true }
  else if total < ihl ∨ bodyEnd b < o + total ∨ !headerSumOk (slice b o ihl) then { p with l3err := true }
  else
    let fo := f2 b (o + 6) % 8192 * 8
    let mf := bitOf (f1 b (o + 6)) 5
    parseTransport { p with
      ip := 4
      ipOff := o
      src := f4 b (o + 12)
      dst := f4 b (o + 16)
      proto := f1 b (o + 9)
      dscp := f1 b (o + 1) / 4
      ttl := f1 b (o + 8)
      ident := f2 b (o + 4)
      frag := if fo ≠ 0 then 2 else if mf then 1 else 0
      fragOff := fo
      more := mf
      fragLen := total - ihl
      options := decide (20 < ihl)
      l4Off := o + ihl }

/-- An IPv6 extension header the parser reads (R371). -/
def isExt (h : Nat) : Bool := decide (h = 0 ∨ h = 43 ∨ h = 44 ∨ h = 60 ∨ h = 51)

/-- Bytes of an extension header. -/
def extLen (b : List Byte) (h o : Nat) : Nat :=
  if h = 44 then 8 else if h = 51 then (f1 b (o + 1) + 2) * 4 else (f1 b (o + 1) + 1) * 8

/-- Extension headers from `l4Off` on: `n` more may be parsed; `fin` is the end of the datagram (R371, R374). -/
def parseExts (fin : Nat) : Nat → Parsed → Parsed
  | n, p =>
    if isExt p.proto then
      match n with
      | 0 => { p with depth := true }
      | n + 1 =>
        let b := p.bytes
        let o := p.l4Off
        if !fits b o 2 || !fits b o (extLen b p.proto o) then { p with depth := true }
        else
          let p1 := { p with proto := f1 b o, l4Off := o + extLen b p.proto o, options := true }
          if p.proto = 44 then
            let fo := f2 b (o + 2) / 8 * 8
            let m := bitOf (f1 b (o + 3)) 0
            let p2 := { p1 with
              ident := f4 b (o + 4)
              frag := if fo ≠ 0 then 2 else if m then 1 else 0
              fragOff := fo
              more := m
              fragLen := fin - (o + 8) }
            if fo ≠ 0 then p2 else parseExts fin n p2
          else parseExts fin n p1
    else if p.proto = 50 then p
    else parseTransport p

/-- IPv6 (R371, R372). -/
def parseIp6 (p : Parsed) : Parsed :=
  let b := p.bytes
  let o := p.off
  if !fits b o 40 then { p with depth := true }
  else if f1 b o / 16 ≠ 6 ∨ bodyEnd b < o + 40 + f2 b (o + 4) then { p with l3err := true }
  else
    parseExts (o + 40 + f2 b (o + 4)) 4 { p with
      ip := 6
      ipOff := o
      src := field b (o + 8) 16
      dst := field b (o + 24) 16
      proto := f1 b (o + 6)
      dscp := f2 b o / 64 % 64
      ttl := f1 b (o + 7)
      l4Off := o + 40 }

/-- What follows the label stack (R371). -/
def parseUnder (p : Parsed) : Parsed :=
  if !p.bottom then p
  else if !fits p.bytes p.off 1 then { p with depth := true }
  else if f1 p.bytes p.off / 16 = 4 then parseIp4 p
  else if f1 p.bytes p.off / 16 = 6 then parseIp6 p
  else p

/-- The parser (R370 to R374). -/
def parse (extra : Nat) (b : List Byte) : Parsed :=
  let p := parseTags extra 2 12 { bytes := b, dmac := field b 0 6, smac := field b 6 6 }
  if p.depth then p
  else if p.etherType = 0x8847 ∨ p.etherType = 0x8848 then parseUnder (parseLabels 4 { p with mpls := true })
  else if p.etherType = 0x0800 then parseIp4 p
  else if p.etherType = 0x86DD then parseIp6 p
  else p

/-- The IP layer is absent where its header failed: L3_TYPE (R378). -/
def l3Type (p : Parsed) : Nat := if p.ip = 4 then 1 else if p.ip = 6 then 2 else if p.mpls then 3 else 0

/-- L4_ABSENT (R373). -/
def l4Absent (p : Parsed) : Bool := decide (p.ip ≠ 0) && !p.l4

/-- PARSE_FLAGS (R373). -/
def parseFlags (p : Parsed) : Nat := flags [p.options, l4Absent p, p.l3err, p.depth]

/-! ### VLAN and priority (R375) -/

/-- The frame's VLAN. -/
def frameVlan (c : PortClass) (p : Parsed) : Nat :=
  match p.tags with
  | [] => c.defVlan
  | (_, tci) :: _ => if tci % 4096 = 0 then c.defVlan else tci % 4096

/-- PCP × 2 + DEI. -/
def framePcpDei (c : PortClass) (p : Parsed) : Nat :=
  match p.tags with
  | [] => c.defPcp * 2
  | (_, tci) :: _ => tci / 4096

/-! ### SCADA recognisers (R376, R377) -/

/-- A port of the frame is one of those configured for a slot; 0 is unused. -/
def portListed (l : List Nat) (p : Parsed) : Bool := l.any fun x => decide (x ≠ 0) && decide (x = p.l4Src ∨ x = p.l4Dst)

/-- SCADA_KIND. -/
def scadaKind (c : ParseCfg) (p : Parsed) : Nat :=
  let tcp := p.l4 && decide (p.proto = 6)
  let either := p.l4 && decide (p.proto = 6 ∨ p.proto = 17)
  let on := fun (n : Nat) => portListed (c.scada.getD n []) p
  if tcp && on 0 then 1
  else if either && on 1 then 2
  else if tcp && on 2 then 3
  else if either && on 3 then 6
  else if either && on 4 then 7
  else if p.etherType = 0x88B8 then 4
  else if p.etherType = 0x88BA then 5
  else 0

/-- SCADA_ID and SCADA_FN, and whether the extraction failed. -/
def scadaIds (kind : Nat) (p : Parsed) : Nat × Nat × Bool :=
  let b := p.bytes
  let o := p.payload
  let bad := (0xFFFF, 0xFF, true)
  match kind with
  | 1 => if fits b o 8 && decide (f2 b (o + 2) = 0) then (f1 b (o + 6), f1 b (o + 7), false) else bad
  | 2 =>
    if fits b o 6 && decide (f2 b o = 0x0564) then (f1 b (o + 4) + 256 * f1 b (o + 5), f1 b (o + 3), false) else bad
  | 3 =>
    if fits b o 12 && decide (f1 b o = 0x68) && !bitOf (f1 b (o + 2)) 0 then
      (f1 b (o + 10) + 256 * f1 b (o + 11), f1 b (o + 6), false)
    else bad
  | 4 => if fits b p.off 2 then (f2 b p.off, 0, false) else (0, 0, false)
  | 5 => if fits b p.off 2 then (f2 b p.off, 0, false) else (0, 0, false)
  | _ => (0, 0, false)

/-! ### Keys (R378 to R380) -/

/-- RANGE_HIT (R380). -/
def rangeHit (c : ParseCfg) (p : Parsed) : Nat :=
  flags (c.ranges.map fun r =>
    let v := if r.fld = 1 then p.l4Src else p.l4Dst
    p.l4 && decide (r.fld = 1 ∨ r.fld = 2) && decide (r.low ≤ v) && decide (v ≤ r.high))

/-- Pack fields from the most significant bit: widths in bits and values. -/
def packBits (l : List (Nat × Nat)) : Nat := l.foldl (fun a x => a * 2 ^ x.1 + x.2 % 2 ^ x.1) 0

/-- What the keys and the decision need of a frame. -/
structure Keys where
  inPort : Nat
  vlan : Nat
  pcpDei : Nat
  kind : Nat
  id : Nat
  fn : Nat
  unparsed : Bool
  range : Nat
  p : Parsed
deriving DecidableEq, Repr

/-- The keys of a frame on a port. -/
def keysOf (port : Nat) (b : List Byte) (s : State) : Keys :=
  let p := parse s.cls.parse.tpidExtra b
  let c := Tbl.get {} s.cls.port port
  let k := scadaKind s.cls.parse p
  let i := scadaIds k p
  ⟨port, frameVlan c p, framePcpDei c p, k, i.1, i.2.1, i.2.2, rangeHit s.cls.parse p, p⟩

/-- The key of a profile; none where the profile does not apply (R379). -/
def keyOf (profile : Nat) (k : Keys) : Option Nat :=
  let p := k.p
  let fl := parseFlags p
  match profile with
  | 1 => some (packBits [(8, k.inPort), (12, k.vlan), (4, k.pcpDei), (48, p.dmac), (48, p.smac), (16, p.etherType),
      (2, l3Type p), (4, k.kind), (4, fl), (14, 0)])
  | 2 =>
    if p.ip = 4 then
      some (packBits [(8, k.inPort), (12, k.vlan), (3, k.pcpDei / 2), (32, p.src), (32, p.dst), (8, p.proto), (6, p.dscp),
        (16, p.l4Src), (16, p.l4Dst), (2, p.frag), (4, k.kind), (4, fl), (16, k.range), (1, 0)])
    else none
  | 3 =>
    if p.ip = 6 then
      some (packBits [(8, k.inPort), (128, p.src), (128, p.dst), (8, p.proto), (6, p.dscp), (16, p.l4Src), (16, p.l4Dst),
        (2, p.frag), (4, k.kind), (4, fl)])
    else none
  | 4 => some (packBits [(8, k.inPort), (12, k.vlan), (3, k.pcpDei / 2), (4, k.kind), (16, k.id), (8, k.fn), (6, p.dscp),
      (2, p.frag), (4, fl), (16, k.range), (1, 0)])
  | _ => none

end Sys2Proof.Machine
end

