-- ==== Sys2Proof/Machine/Lookup.lean ====
section
/-! DEFINITION. Machine/Lookup.lean: the lookups and the forwarding decision (R425 to R436, R441). -/

namespace Sys2Proof.Machine

open Sys2Proof

/-! ### Keys of the hash tables (R431) -/

/-- Bucket of a bridge key. -/
def bridgeBucket (vlan mac : Nat) : Nat := Crc.crc32 (enc [(2, vlan), (6, mac)]) % 32768

/-- Bucket of a host key. -/
def hostBucket (af addr : Nat) : Nat := Crc.crc32 (be (if af = 4 then 4 else 16) addr) % 32768

/-- The entry of a bridge key in its bucket, BAD or not, with its slot. -/
def bridgeFind (tb : Tables) (vlan mac : Nat) : Option (Nat × BEntry) :=
  ((List.range 8).map (bridgeBucket vlan mac * 8 + ·)).findSome? fun k =>
    match Tbl.get none tb.bridge k with
    | some e => if e.vlan = vlan ∧ e.mac = mac then some (k, e) else none
    | none => none

/-- The entry of a bridge key that matches: a BAD one reads as a miss (R440). -/
def bridgeLookup (tb : Tables) (vlan mac : Nat) : Option (Nat × BEntry) :=
  match bridgeFind tb vlan mac with
  | some (k, e) => if e.bad then none else some (k, e)
  | none => none

/-- The host entry of an address, BAD or not, with its slot. -/
def hostFind (tb : Tables) (af addr : Nat) : Option (Nat × HEntry) :=
  ((List.range 4).map (hostBucket af addr * 4 + ·)).findSome? fun k =>
    match Tbl.get none tb.host k with
    | some e => if e.af = af ∧ e.addr = addr then some (k, e) else none
    | none => none

/-- Address width of a family. -/
def afBits (af : Nat) : Nat := if af = 4 then 32 else 128

/-- A route covers an address. -/
def routeCovers (af addr : Nat) (r : Route) : Bool :=
  decide (r.af = af) && decide (addr / 2 ^ (afBits af - r.len) = r.pfx / 2 ^ (afBits af - r.len))

/-- Longest prefix match (R429). -/
def routeLookup (l : List Route) (af addr : Nat) : Option Route :=
  l.foldl (fun best r =>
    if routeCovers af addr r then
      match best with
      | some x => if x.len < r.len then some r else best
      | none => some r
    else best) none

/-- Root slot of an address (R435): 65,536 for each family. -/
def rootSlot (af addr : Nat) : Nat := (if af = 4 then 0 else 65536) + addr / 2 ^ (afBits af - 16)

/-- The lookup goes below the root: a prefix longer than 16 bits lies under the root slot (R435). -/
def needsTrie (l : List Route) (af addr : Nat) : Bool :=
  l.any fun r => decide (r.af = af) && decide (16 < r.len) &&
    decide (addr / 2 ^ (afBits af - 16) = r.pfx / 2 ^ (afBits af - 16))

/-- Members of a set without one port. -/
def without (set port : Nat) : Nat := if bitOf set port then set - 2 ^ port else set

/-! ### ECMP (R434) -/

/-- The hash fields of a frame. (DEDUCED: log entry 170) -/
def ecmpFields (k : Keys) : List Byte :=
  let p := k.p
  let ports := if p.frag = 0 ∧ p.l4 then enc [(2, p.l4Src), (2, p.l4Dst)] else []
  if p.ip = 4 then enc [(4, p.src), (4, p.dst), (1, p.proto)] ++ ports
  else if p.ip = 6 then enc [(16, p.src), (16, p.dst), (1, p.proto)] ++ ports
  else if p.mpls then p.labels.flatMap fun e => be 4 (e / 4096)
  else enc [(2, k.vlan), (6, p.smac), (6, p.dmac), (2, p.etherType)]

/-- The member an ECMP group picks. (DEDUCED: log entry 170) -/
def ecmpPick (seed : Nat) (g : Ecmp) (k : Keys) : Nat :=
  let h := Crc.crc32 (be 4 seed ++ ecmpFields k) / 65536
  g.members.getD (h * g.members.length / 65536) 0

/-! ### The decision -/

/-- Drop counters in TABLE_STATUS_GET order. -/
def dVlan : Nat := 0
def dNotRoutable : Nat := 1
def dNoRoute : Nat := 2
def dLabelMiss : Nat := 3
def dLabelDepth : Nat := 4
def dNull : Nat := 5
def dTtl : Nat := 6
def dTableError : Nat := 7
def dOverrun : Nat := 8
def dUnknown : Nat := 9
def dHairpin : Nat := 10

/-- A result that names a port of a partner that is not joined; counted in SPAN_REMOTE_DROP (R565). -/
def dRemote : Nat := 11

/-- The target a table's port number names: a local port, or a port of the partner while joined (R552, R565). -/
def portTarget (n : Nat) (s : State) : Option Nat :=
  if !s.span.spanPorts ∨ n / 128 = s.span.cfg.member then some (2 ^ (n % 128))
  else if spanJoined s then some (2 ^ (128 + n % 128))
  else none

/-- The decision for a table's port number. -/
def toPort (n : Nat) (s : State) (f : Nat → Decision) : Decision :=
  match portTarget n s with
  | some b => f b
  | none => .drop dRemote

/-- The members a VLAN's flood goes to; while joined the partner completes it (R426, R552). (DEDUCED: log entry 168) -/
def floodPorts (members inPort : Nat) (s : State) : Nat := without members inPort + if spanJoined s then 2 ^ 256 else 0

/-- A next hop's decision (R433). A FORWARD leaves under the next hop's VLAN; a BRIDGE or FLOOD of a bridged frame under
its ingress VLAN, of a routed frame under the next hop's (R427). (DEDUCED: log entry 167) -/
def nextHopDecision (n : NextHop) (k : Keys) (routed : Bool) (pops : Nat) (s : State) : Decision :=
  let vlan := if routed then n.vlan else k.vlan
  match n.kind with
  | 1 =>
    let r := s.fwd.router.getD n.smacIndex {}
    if r.bad then .drop dTableError else toPort n.port s fun b => .to b n.vlan pops (some ⟨n.dmac, r.mac, n.mplsOp, n.label⟩)
  | 2 => .punt 4 3
  | 3 => if !routed ∧ n.port = ownNum k.inPort s then .drop dHairpin else toPort n.port s fun b => .to b vlan 0 none
  | 4 =>
    match Tbl.get none s.fwd.live.portset n.portSet with
    | some g => if g.bad then .drop dTableError else .to (without g.set k.inPort) vlan 0 none
    | none => .to 0 vlan 0 none
  | _ => .drop dNull

/-- The decision of a next-hop index. -/
def indexDecision (i : Nat) (k : Keys) (routed : Bool) (pops : Nat) (s : State) : Decision :=
  if i = 0 then .drop dNull
  else
    match Tbl.get none s.fwd.live.nexthop i with
    | some n => if n.bad then .drop dTableError else nextHopDecision n k routed pops s
    | none => .drop dNull

/-- A next hop names a local port. -/
def hopIsLocal (i : Nat) (s : State) : Bool :=
  match Tbl.get none s.fwd.live.nexthop i with
  | some n => (decide (n.kind = 1) || decide (n.kind = 3)) && decide (n.port / 128 = s.span.cfg.member)
  | none => false

/-- The members an ECMP group chooses among: after a split those with a local next hop (R565). -/
def groupMembers (l : List Nat) (s : State) : List Nat :=
  if s.span.spanPorts && !spanJoined s then l.filter fun i => hopIsLocal i s else l

/-- The decision of a REF (R430). (DEDUCED: log entry 173) -/
def refDecision (ref : Nat) (k : Keys) (routed : Bool) (pops : Nat) (s : State) : Decision :=
  if bitOf ref 16 then
    match Tbl.get none s.fwd.live.ecmp (ref % 4096) with
    | some g =>
      if g.bad then .drop dTableError
      else
        let g1 := { g with members := groupMembers g.members s }
        if g1.members = [] ∧ g.members ≠ [] then .drop dRemote else indexDecision (ecmpPick s.fwd.seed g1 k) k routed pops s
    | none => .drop dNull
  else indexDecision (ref % 65536) k routed pops s

/-- Host lookup, then route lookup (R425 step 4, R435, R436, R441); an uncorrectable trie read is a miss (R442). -/
def ipDecision (k : Keys) (trie : TrieRead) (pops : Nat) (s : State) : Decision :=
  let af := k.p.ip
  let byRoute :=
    if s.fwd.live.badRoots.contains (rootSlot af k.p.dst) then Decision.drop dNoRoute
    else if needsTrie s.fwd.live.route af k.p.dst ∧ trie = .full then .drop dOverrun
    else if needsTrie s.fwd.live.route af k.p.dst ∧ trie ≠ .ok then .drop dNoRoute
    else
      match routeLookup s.fwd.live.route af k.p.dst with
      | some r => refDecision r.ref k true pops s
      | none => .drop dNoRoute
  match hostFind s.fwd.live af k.p.dst with
  | some (_, e) => if e.bad then byRoute else refDecision e.ref k true pops s
  | none => byRoute

/-- Label lookups: `n` more are allowed (R432). -/
def labelDecision (k : Keys) (trie : TrieRead) (s : State) : Nat → List Nat → Nat → Decision
  | 0, _, _ => .drop dLabelDepth
  | n + 1, ls, pops =>
    match ls with
    | [] => if k.p.ip = 0 then .drop dNotRoutable else ipDecision k trie pops s
    | e :: rest =>
      let l := e / 4096
      if l < s.fwd.labelBase ∨ s.fwd.labelBase + 65536 ≤ l then .drop dLabelMiss
      else
        match Tbl.get none s.fwd.live.label (l - s.fwd.labelBase) with
        | none => .drop dLabelMiss
        | some x =>
          if x.bad then .drop dLabelMiss
          else
            match x.op with
            | 1 => refDecision x.ref k true pops s
            | 2 =>
              match rest with
              | [] => if k.p.ip = 0 then .drop dNotRoutable else ipDecision k trie (pops + 1) s
              | r :: rs => labelDecision k trie s n (r :: rs) (pops + 1)
            | 3 => refDecision x.ref k true (pops + 1) s
            | _ => .drop dLabelMiss

/-- The routed path (R425 step 4). -/
def routedDecision (k : Keys) (trie : TrieRead) (s : State) : Decision :=
  if k.p.mpls then
    match k.p.labels with
    | [] => .drop dNotRoutable
    | ls => labelDecision k trie s 2 ls 0
  else if k.p.ip ≠ 0 then ipDecision k trie 0 s
  else .drop dNotRoutable

/-- A group MAC address. -/
def isGroup (mac : Nat) : Bool := bitOf mac 40

/-- The broadcast address. -/
def broadcast : Nat := 0xFFFFFFFFFFFF

/-- The bridged path (R425 step 5, R426, R430). (DEDUCED: log entry 168) -/
def bridgedDecision (k : Keys) (v : VlanEntry) (s : State) : Decision :=
  let flood := Decision.to (floodPorts v.members k.inPort s) k.vlan 0 none
  if k.p.dmac = broadcast then flood
  else
    match bridgeLookup s.fwd.live k.vlan k.p.dmac with
    | some (_, e) =>
      if bitOf e.result 31 then refDecision (e.result % 2 ^ 17) k false 0 s
      else if e.result = ownNum k.inPort s then .drop dHairpin
      else toPort e.result s fun b => .to b k.vlan 0 none
    | none => if v.flood then flood else .drop dUnknown

/-- A VLAN's entry. -/
def vlanOf (v : Nat) (s : State) : VlanEntry := Tbl.get {} s.fwd.vlan v

/-- A router MAC entry that matches a frame (R425 step 3); none is BAD. -/
def routerHit (k : Keys) (s : State) : Option RouterMac :=
  s.fwd.router.find? fun r => decide (r.vlan ≠ 0xFFFF) && decide (r.mac = k.p.dmac) && decide (r.vlan = 0 ∨ r.vlan = k.vlan)

/-- The frame passes step 1 of R425. -/
def vlanPasses (k : Keys) (s : State) : Bool :=
  let v := vlanOf k.vlan s
  decide (k.vlan ≠ 4095) && v.valid && !v.bad && bitOf v.members k.inPort

/-- The forwarding decision (R425). -/
def decideFrame (k : Keys) (trie : TrieRead) (s : State) : Decision :=
  let v := vlanOf k.vlan s
  if v.valid && v.bad then .drop dTableError
  else if !vlanPasses k s then .drop dVlan
  else
    match routerHit k s with
    | some r =>
      if r.bad then .drop dTableError
      else if v.routed then routedDecision k trie s
      else bridgedDecision k v s
    | none => bridgedDecision k v s

/-! ### The rewrite (R427, R428) -/

/-- The label stack entries below those a decision removes. -/
def labelsLeft (k : Keys) (pops : Nat) : List Nat := k.p.labels.drop pops

/-- TTL, hop limit or swapped label TTL is 1 or 0 before its decrement (R428). -/
def ttlExpired (k : Keys) (d : Decision) : Bool :=
  match d with
  | .to _ _ pops (some rw) =>
    match labelsLeft k pops with
    | e :: _ => decide (rw.mplsOp = 2) && decide (e % 256 ≤ 1)
    | [] => decide (k.p.ip ≠ 0) && decide (k.p.ttl ≤ 1)
  | _ => false

/-- The IP packet with TTL or hop limit less 1 and the IPv4 checksum updated. -/
def ipDecremented (k : Keys) : List Byte :=
  let b := (k.p.bytes.take (bodyEnd k.p.bytes)).drop k.p.ipOff
  if k.p.ip = 4 then
    let ihl := f1 b 0 % 16 * 4
    let h := fun c => b.take 8 ++ be 1 (k.p.ttl - 1) ++ slice b 9 1 ++ be 2 c ++ slice b 12 (ihl - 12)
    let w := (h 0).foldl (fun (a : Nat × Bool) x => (a.1 + (if a.2 then x.toNat else x.toNat * 256), !a.2)) (0, false)
    let f := w.1 % 65536 + w.1 / 65536
    h (65535 - (f % 65536 + f / 65536)) ++ b.drop ihl
  else b.take 7 ++ be 1 (k.p.ttl - 1) ++ b.drop 8

/-- What follows the label stack, as it is. -/
def underLabels (k : Keys) : List Byte := (k.p.bytes.take (bodyEnd k.p.bytes)).drop k.p.off

/-- A label stack entry with another label and TTL. (DESIGN CHOICE: log entry 169) -/
def labelEntry (label old ttl : Nat) : Nat := label * 4096 + old % 4096 / 256 * 256 + ttl

/-- The type and body of a routed frame (R428): the labels that stay, with the next hop's label operation. `free` is the
TTL of a pushed label where no IP TTL was decremented. -/
def routedBody (k : Keys) (pops : Nat) (rw : Rewrite) (free : Byte) : List Byte :=
  match labelsLeft k pops with
  | e :: rest =>
    let stack :=
      if rw.mplsOp = 2 then labelEntry rw.label e (e % 256 - 1) :: rest
      else if rw.mplsOp = 1 then (rw.label * 4096 + free.toNat) :: e :: rest
      else e :: rest
    be 2 k.p.etherType ++ stack.flatMap (be 4) ++ underLabels k
  | [] =>
    if k.p.ip = 0 then be 2 k.p.etherType ++ (k.p.bytes.take (bodyEnd k.p.bytes)).drop k.p.off
    else
      let ip := ipDecremented k
      if rw.mplsOp = 1 then be 2 0x8847 ++ be 4 (rw.label * 4096 + 256 + (k.p.ttl - 1)) ++ ip
      else be 2 (if k.p.ip = 4 then 0x0800 else 0x86DD) ++ ip

/-- The type and body of a frame without rewrite: its outer tag is removed (R427). (DEDUCED: log entry 167) -/
def bridgedBody (k : Keys) : List Byte :=
  (k.p.bytes.take (bodyEnd k.p.bytes)).drop (if k.p.tags = [] then 12 else 16)

/-- The TPID a frame leaves under: its own outer one, or 0x8100. -/
def outTpid (k : Keys) : Nat :=
  match k.p.tags with
  | [] => 0x8100
  | (t, _) :: _ => t

end Sys2Proof.Machine
end

