-- ==== Sys2Proof/Machine/Mailbox.lean ====
section
/-! DEFINITION. Machine/Mailbox.lean: sessions, events, transports and frames (R148 to R185, R196 to R202). -/

namespace Sys2Proof.Machine

open Sys2Proof

/-! ### Sessions -/

/-- The next session number from `n` that is not open, in the order of R156. -/
def pickNumber : Nat → Nat → List Session → Nat
  | 0, n, _ => n
  | k + 1, n, l =>
    if l.any fun x => x.number == n then pickNumber k (if n = 0xFFFE then 1 else n + 1) l else n

/-- End a session, with its cause (R160, R205). -/
def endSession (n cause reqId : Nat) (s : State) : State :=
  raise .sessionClosed reqId (enc [(2, n), (1, cause)])
    { s with kmp := { s.kmp with sessions := s.kmp.sessions.filter fun x => decide (x.number ≠ n) } }

/-- The four bytes "KMPS" (R163). -/
def kmpsBytes : List Byte := [0x4B, 0x4D, 0x50, 0x53]

/-- The session salt (R163). -/
def sessionSalt (key clientNonce moduleNonce : List Byte) : List Byte :=
  (Sha.hmac256 key (kmpsBytes ++ clientNonce ++ moduleNonce)).take 8

/-- KEY_SLOT of a SESSION_OPEN request. -/
def openSlot (q : Req) : Nat := f1 q.payload 2

/-- The role a SESSION_OPEN is granted: only an authenticated session can be controlling (R157). (DEDUCED: log entry 70) -/
def openControlling (q : Req) : Bool := decide (f1 q.payload 0 = 1) && q.auth

/-- A SESSION_OPEN for the controlling role may take it: it is free, or TAKEOVER is set under the key slot of the present
controlling session or under slot 0 (R155, R158). (DEDUCED: log entry 69) -/
def openRoleFree (q : Req) (s : State) : Bool :=
  !openControlling q ||
    match ctlSession s with
    | none => true
    | some y => bitOf (f1 q.payload 1) 0 && (decide (y.keySlot = some (openSlot q)) || decide (openSlot q = 0))

/-- Sessions open once a takeover has ended the previous controlling session. -/
def openCount (q : Req) (s : State) : Nat :=
  s.kmp.sessions.length - (if openControlling q ∧ (ctlSession s).isSome then 1 else 0)

/-- Fields of SESSION_OPEN are in range (R197 table, R198). -/
def openFieldsOk (q : Req) : Bool :=
  decide (f1 q.payload 0 ≤ 1) && (decide (openSlot q ≤ 15) || decide (openSlot q = 255)) &&
    decide (f2 q.payload 14 ≤ 64) && decide (500 ≤ f2 q.payload 16) && decide (f2 q.payload 16 ≤ 60000)

/-- KEY_SLOT agrees with AUTH and holds a key for sessions (R198, R618). (DEDUCED: log entry 69) -/
def openSlotOk (q : Req) (s : State) : Bool :=
  if q.auth then (slotKey (openSlot q) 0 s).isSome else decide (openSlot q = 255)

/-- The session a SESSION_OPEN creates. (DEDUCED: log entry 70) -/
def newSession (q : Req) (s : State) : Session :=
  let key := if q.auth then (slotKey (openSlot q) 0 s).getD [] else []
  let point := if openControlling q then s.kmp.ctlAckPoint else s.kmp.eventSeq
  { number := pickNumber 9 s.kmp.nextSession s.kmp.sessions
    controlling := openControlling q
    keySlot := if q.auth then some (openSlot q) else none
    key := key
    salt := if q.auth then sessionSalt key (slice q.payload 4 8) (be 8 (Config.moduleNonce s.kmp.opened).toNat) else []
    h := q.seq
    ackPoint := point
    mask := f2 q.payload 12
    window := f2 q.payload 14
    retryMs := f2 q.payload 16
    dest := reqDest q
    lastRequestAt := s.elapsed
    cache := []
    nextSend := point
    sent := []
    waitMs := f2 q.payload 16
    target := b2n q.remote }

/-- Put a new session into the table (R155, R156). -/
def addSession (x : Session) (s : State) : State :=
  { s with kmp := { s.kmp with
      sessions := s.kmp.sessions ++ [x]
      nextSession := if x.number = 0xFFFE then 1 else x.number + 1
      opened := s.kmp.opened + 1 } }

/-- SESSION_OPEN (R155 to R158, R163, R168, R198). (DEDUCED: log entry 69) -/
def sessionOpenBody (q : Req) (s : State) : Body :=
  checks [lenIs q 20, (openFieldsOk q, .eventParam),
      (q.auth || !bitOf s.kmp.authRequired (transportAuthBit q.transport), .authRequired),
      (openSlotOk q s, .keySlot), (openRoleFree q s && decide (openCount q s < 8), .sessionBusy)] <|
    let s1 :=
      match (if openControlling q then ctlSession s else none) with
      | some y => endSession y.number 1 q.requestId s
      | none => s
    let x := newSession q s1
    let s2 := addSession x s1
    let s3 := if q.auth then updRates q.transport (fun r => { r with lastAuthOk := some s.elapsed }) s2 else s2
    let resp := enc [(2, x.number), (1, b2n x.controlling), (1, 0)] ++ be 8 (Config.moduleNonce s1.kmp.opened).toNat ++
      enc [(4, s.boot.bootCount), (2, s3.kmp.eventSeq), (2, x.ackPoint)]
    .ok (raise .sessionOpened q.requestId (enc [(2, x.number), (1, b2n x.controlling), (1, transportNum q.transport)]) s3, .ok resp)

/-- SESSION_CLOSE (R160): the session ends; its response is built with what it held. -/
def sessionCloseBody (q : Req) (s : State) : Body :=
  checks [lenIs q 0] (okEmpty (endSession q.session 0 q.requestId s))

/-- The record in force (R192): the record of the slot in use. -/
def recordInForce (s : State) : Option Record :=
  match s.boot.slot with
  | some 0 => s.boot.slot0
  | some 1 => s.boot.slot1
  | _ => none

/-- SEQUENCE of the record in force, 0 without one. -/
def sequenceInForce (s : State) : Nat := ((recordInForce s).map fun r => r.sequence).getD 0

/-- STAGE_ID and STAGE_STATE of SESSION_STATUS. -/
def stageReport (s : State) : Nat × Nat :=
  match s.kmp.stage with
  | some g => (g.id, g.phase.code)
  | none => (0, 0)

/-- SESSION_STATUS (R196). -/
def sessionStatusResp (q : Req) (s : State) : List Byte :=
  match findSession q.session s with
  | none => []
  | some x =>
    enc [(4, s.boot.bootCount), (4, s.kmp.ctlLastRequestId), (2, s.kmp.hBefore), (2, s.kmp.eventSeq), (2, ackPointOf x s),
      (1, s.sup.mode.code), (1, flags [x.controlling, x.keySlot.isSome])] ++ tb10 s.tb.now ++
    be 4 (sequenceInForce s) ++ tb10 (((recordInForce s).map fun r => r.epoch).getD 0) ++
    be 4 ((s.kmp.committed.map fun c => c.sequence).getD 0) ++ tb10 ((s.kmp.committed.map fun c => if c.onCompletion then 0 else c.epoch).getD 0) ++
    enc [(4, (stageReport s).1), (1, (stageReport s).2), (1, 0),
      (2, ((sessionCache x s).filter fun e => decide (s.elapsed < e.builtAt + cacheLife)).length), (2, 0)]

/-- SESSION_STATUS. -/
def sessionStatusBody (q : Req) (s : State) : Body := checks [lenIs q 0] (okResp s (sessionStatusResp q s))

/-- BASELINES of a module: revision A supports baseline 1, revision B both (R2). (DEDUCED: log entry 276) -/
def supportedBaselines (s : State) : Nat := if s.ident.revB then 3 else 1

/-- IDENTITY_GET (R197). -/
def identityGetBody (q : Req) (s : State) : Body :=
  checks [lenIs q 0] (okResp s (be 8 s.ident.serial.toNat ++
    enc [(1, b2n s.ident.iax), (1, b2n s.ident.revB), (1, s.boot.baseline), (1, supportedBaselines s), (4, s.boot.version),
      (4, s.boot.bootCount)]))

/-- EVENT_ACK: its header ACK did the work on arrival (R184). -/
def eventAckBody (q : Req) (s : State) : Body := checks [lenIs q 0] (okEmpty s)

/-- The oldest held event sequence (R180). -/
def oldestHeld (s : State) : Nat :=
  match s.kmp.hold with
  | [] => s.kmp.eventSeq
  | r :: _ => r.seq

/-- A record of EVENT_FETCH. -/
def fetchRecord (r : EventRec) : List Byte :=
  enc [(2, r.seq), (2, r.code), (4, r.requestId), (2, r.payload.length), (2, 0)] ++ r.payload

/-- As many whole records as fit in `room` bytes (R199). -/
def fitRecords : Nat → List EventRec → List EventRec
  | _, [] => []
  | room, r :: rs =>
    if (fetchRecord r).length ≤ room then r :: fitRecords (room - (fetchRecord r).length) rs else []

/-- EVENT_FETCH (R199). (DEDUCED: log entry 72) -/
def eventFetchResp (q : Req) (s : State) : List Byte :=
  let first := f2 q.payload 0
  let asked := min (f2 q.payload 2) (seqDist s.kmp.eventSeq first)
  let held := s.kmp.hold.length
  let back := seqDist s.kmp.eventSeq first
  let lost := min asked (back - held)
  let recs := fitRecords 1272 ((s.kmp.hold.drop (held - back)).take (asked - lost))
  enc [(2, first + lost + recs.length), (1, recs.length), (1, b2n (decide (0 < lost))), (2, if 0 < lost then first else 0),
    (2, lost)] ++ recs.flatMap fetchRecord

/-- FIRST_SEQ is not after the next event sequence (R199): by serial-number arithmetic. -/
def fetchSeqOk (q : Req) (s : State) : Bool := decide (seqDist s.kmp.eventSeq (f2 q.payload 0) < 32768)

/-- EVENT_FETCH. -/
def eventFetchBody (q : Req) (s : State) : Body :=
  checks [lenIs q 4, (decide (1 ≤ f2 q.payload 2) && decide (f2 q.payload 2 ≤ 64) && fetchSeqOk q s, .eventParam)]
    (okResp s (eventFetchResp q s))

/-- EVENT_CONFIG_SET applies to the session that sends it (R181). -/
def eventConfigSetBody (q : Req) (s : State) : Body :=
  checks [lenIs q 8, (decide (f2 q.payload 2 ≤ 64) && decide (500 ≤ f2 q.payload 4) && decide (f2 q.payload 4 ≤ 60000), .eventParam)]
    (okEmpty (updSession q.session (fun x =>
      { x with mask := f2 q.payload 0, window := f2 q.payload 2, retryMs := f2 q.payload 4, waitMs := f2 q.payload 4 }) s))

/-! ### Transports -/

/-- Fields of TRANSPORT_CONFIG_SET are in range (R200). -/
def transportFieldsOk (p : List Byte) : Bool :=
  decide (1200 ≤ f4 p 0) && decide (f4 p 0 ≤ 921600) && decide (1200 ≤ f4 p 4) && decide (f4 p 4 ≤ 921600) &&
    decide (1 ≤ f2 p 8) && decide (10 ≤ f2 p 12) && decide (f2 p 12 ≤ 10000)

/-- The change applies to the transport that carried the request (R201). -/
def carriesChange (q : Req) (s : State) : Bool :=
  match q.transport with
  | .uart0 => decide (f4 q.payload 0 ≠ s.kmp.uart0Baud)
  | .uart1 => decide (f4 q.payload 4 ≠ s.kmp.uart1Baud)
  | .m0 => decide (f2 q.payload 8 ≠ s.kmp.udpPort)
  | _ => false

/-- The previous setting of the transport a request came by. -/
def revertOf (q : Req) (s : State) : Revert where
  transport := q.transport
  oldBaud := if q.transport = .uart0 then s.kmp.uart0Baud else s.kmp.uart1Baud
  oldPort := s.kmp.udpPort
  since := s.elapsed

/-- Apply transport settings as a whole. -/
def setTransports (p : List Byte) (s : State) : State :=
  { s with kmp := { s.kmp with
      uart0Baud := f4 p 0
      uart1Baud := f4 p 4
      udpPort := f2 p 8
      authRequired := f1 p 10 % 16
      rxGapMs := f2 p 12 } }

/-- Sessions that a newly set AUTH_REQUIRED bit ends (R202). -/
def endedByAuth (old new : Nat) (x : Session) : Bool :=
  let b := transportAuthBit x.dest.transport
  x.keySlot.isNone && bitOf new b && !bitOf old b

/-- TRANSPORT_CONFIG_SET (R200 to R202). -/
def transportConfigSetBody (q : Req) (s : State) : Body :=
  checks [lenIs q 16, (transportFieldsOk q.payload, .transportParam)] <|
    let s1 := setTransports q.payload s
    let s2 :=
      if carriesChange q s then
        { s1 with kmp := { s1.kmp with
            reverts := (s1.kmp.reverts.filter fun r => decide (r.transport ≠ q.transport)) ++ [revertOf q s] } }
      else s1
    let gone := s.kmp.sessions.filter (endedByAuth s.kmp.authRequired (f1 q.payload 10))
    okEmpty (forEach gone (fun x => endSession x.number 3 q.requestId) s2)

/-- The transport settings in the layout of TRANSPORT_CONFIG_SET. -/
def transportConfig (s : State) : List Byte :=
  enc [(4, s.kmp.uart0Baud), (4, s.kmp.uart1Baud), (2, s.kmp.udpPort), (1, s.kmp.authRequired), (1, 0), (2, s.kmp.rxGapMs), (2, 0)]

/-- TRANSPORT_CONFIG_GET. -/
def transportConfigGetBody (q : Req) (s : State) : Body := checks [lenIs q 0] (okResp s (transportConfig s))

/-! ### Frames -/

/-- Undo the stuffing of R149; none where 0x7D stands directly before the closing flag (R150). -/
def unstuff : List Byte → Option (List Byte)
  | [] => some []
  | b :: bs =>
    if b = 0x7D then
      match bs with
      | [] => none
      | c :: cs => if c = 0x7E then none else (unstuff cs).map fun l => (c ^^^ 0x20) :: l
    else (unstuff bs).map fun l => b :: l

/-- A byte as a frame carries it (R149). -/
def stuffByte (b : Byte) : List Byte :=
  if b = 0x7E ∨ b = 0x7D ∨ b = 0x11 ∨ b = 0x13 then [0x7D, b ^^^ 0x20] else [b]

/-- The bytes of a UART frame between its flags: the message and its FCS-32, least significant byte first, stuffed
(R149, RFC 1662). -/
def uartFrame (m : List Byte) : List Byte := (m ++ le 4 (Crc.crc32 m)).flatMap stuffByte

/-- The message of a UART frame, where the frame passes R150. -/
def uartMessage (raw : List Byte) : Option (List Byte) :=
  match unstuff raw with
  | none => none
  | some l =>
    let m := l.take (l.length - 4)
    if l.length ≤ 1324 ∧ 4 ≤ l.length ∧ l.drop (l.length - 4) = le 4 (Crc.crc32 m) then some m else none

/-- AUTH of a message's FLAGS. -/
def msgAuth (m : List Byte) : Bool := bitOf (f2 m 2) 0

/-- LENGTH of a message's header. -/
def msgLength (m : List Byte) : Nat := f2 m 18

/-- The total length agrees with LENGTH and AUTH, and LENGTH is at most 1,280 (R153). -/
def msgLengthOk (m : List Byte) : Bool :=
  decide (24 ≤ m.length) && decide (msgLength m ≤ 1280) &&
    decide (m.length = 24 + msgLength m + (if msgAuth m then 16 else 0))

/-- The request of a message. -/
def msgReq (t : Nat) (d : Dest) (m : List Byte) : Req where
  t := t
  transport := d.transport
  addr := d.addr
  port := d.port
  session := f2 m 4
  requestId := f4 m 8
  seq := f2 m 12
  ack := f2 m 14
  auth := msgAuth m
  payload := slice m 24 (msgLength m)
  remote := d.remote

/-- The tag of a message is the one its key and salt give (R162, R164); after a failed self-test no tag passes (R626). -/
def tagGood (s : State) (key salt m : List Byte) : Bool :=
  s.dig.katOk && decide (m.drop (24 + msgLength m) = (Sha.hmac256 key (salt ++ m.take (24 + msgLength m))).take 16)

/-- Step 2 of R167, for the tag itself: a SESSION_OPEN under its KEY_SLOT with CLIENT_NONCE (R163, R168), a request of an
open session under that session's key, a request in recovery under slot 0 with the zero salt (R166). A SESSION_OPEN whose
KEY_SLOT names no key goes on to E_KEY_SLOT (R198), and a request of no open session skips the step (R169). -/
def msgTagOk (m : List Byte) (s : State) : Bool :=
  if s.boot.recovery then
    msgAuth m && tagGood s (Tbl.get {} s.dig.slots 0).key (List.replicate 8 0) m
  else if !msgAuth m then true
  else if f2 m 4 = 0 then
    if f2 m 6 = Cmd.sessionOpen.row.code then
      match slotKey (f1 m 26) 0 s with
      | some k => tagGood s k (slice m 28 8) m
      | none => true
    else true
  else
    match findSession (f2 m 4) s with
    | some x => x.keySlot.isNone || tagGood s x.key x.salt m
    | none => true

/-- A message that has been received whole: R153, R154, then R167; a Span follower relays it (R546). (DEDUCED: log entry 71) -/
def messageTaken (t : Nat) (d : Dest) (m : List Byte) (s : State) : State :=
    let n := transportNum d.transport
    let q := msgReq t d m
    let s1 := takeRequest s
    if f1 m 0 ≠ 1 then
      respond (replyBare q) (f2 m 6) q Err.version.code [] false s1
    else if f1 m 1 ≠ 1 then countDiscard n (fun c => { c with other := c.other.add32 1 }) s1
    else if !msgTagOk m s1 then authFail d.transport (countCompare false s1)
    else
      match arrive (f2 m 6) q s1 with
      | .done s2 => s2
      | .go h s2 => enqueue (f2 m 6) q h s2

/-- A message arrives on a transport (R150, R546, R694). (DEDUCED: log entry 4) -/
def messageArrives (t : Nat) (d : Dest) (m : List Byte) (s : State) : State :=
  if !msgLengthOk m then countDiscard (transportNum d.transport) (fun c => { c with framing := c.framing.add32 1 }) s
  else if spanFollows s then relayMsg (.request d.transport d.addr d.port m) (countRx d.transport s)
  else
    let s1 := if d.remote then s else countRx d.transport s
    if kmpHalted s then holdMessage (.raw t d m) s1 else messageTaken t d m s1

/-- The transport of a UART. -/
def uartOf (u : Fin 2) : Transport := if u = 0 then .uart0 else .uart1

/-- UART_FRAME: the bytes between two flags (R149, R150). -/
def uartFrameEffect (t : Nat) (u : Fin 2) (raw : List Byte) (s0 : State) : State :=
  let s := advance t s0
  if !transportServed (uartOf u) s ∨ raw = [] then s
  else
    match uartMessage raw with
    | none => countDiscard (transportNum (uartOf u)) (fun c => { c with framing := c.framing.add32 1 }) s
    | some m => messageArrives t ⟨uartOf u, 0, 0, false⟩ m s

/-- RX_GAP: a gap longer than RX_GAP_MS inside a frame discards it (R150). -/
def rxGapEffect (t : Nat) (u : Fin 2) (gapMs : Nat) (s0 : State) : State :=
  let s := advance t s0
  if transportServed (uartOf u) s ∧ s.kmp.rxGapMs < gapMs then
    countDiscard (transportNum (uartOf u)) (fun c => { c with framing := c.framing.add32 1 }) s
  else s

/-! ### Event delivery -/

/-- The group of an event code for EVENT_MASK (R786). -/
def eventGroup (code : Nat) : Nat := code / 256 % 128

/-- The filter of a session passes an event (R180); EV_PUNT_FRAME goes only to sessions on the host window (R406). -/
def maskPasses (x : Session) (code : Nat) : Bool :=
  bitOf x.mask (eventGroup code) &&
    (decide (code ≠ Ev.puntFrame.code) || decide (x.dest.transport = .pcie ∨ x.dest.transport = .spi))

/-- An event or loss marker as a message to a session (R152, R165, R172, R183). -/
def eventMsg (x : Session) (loss : Bool) (code requestId seq : Nat) (payload : List Byte) : Msg :=
  tagged x.key x.salt
    { typ := 3, auth := x.keySlot.isSome, replayed := false, loss := loss, session := x.number, code := code,
      requestId := requestId, seq := seq, ack := inc16 x.h, status := 0, payload := payload, tag := [] }

/-- The message for one held event. -/
def heldMsg (x : Session) (r : EventRec) : Msg := eventMsg x false r.code r.requestId r.seq r.payload

/-- The loss marker for a range that left the hold (R183). -/
def lossMsg (x : Session) (first count : Nat) (s : State) : Msg :=
  eventMsg x true Ev.eventsLost.code 0 first (tb10 (stamp s) ++ enc [(2, first), (2, count)])

/-- Record a sent event or marker as outstanding. -/
def noteSent (n seq next : Nat) (s : State) : State :=
  updSession n (fun y => { y with nextSend := next, sent := y.sent ++ [(seq, s.elapsed)] }) s

/-- Events that the filter rejects count as acknowledged: the send pointer passes them, and the acknowledgement point
with it while nothing is outstanding (R181). -/
def passRejected (x : Session) (next : Nat) (s : State) : State :=
  let s1 := updSession x.number (fun y =>
    { y with nextSend := next, ackPoint := if y.sent = [] ∧ !y.controlling then next else y.ackPoint }) s
  if x.controlling ∧ x.sent = [] then { s1 with kmp := { s1.kmp with ctlAckPoint := next } } else s1

/-- Send the next event of a session's stream, where its window has room (R181, R183). -/
def sendNext (x : Session) (s : State) : State :=
  if x.window ≤ x.sent.length then s
  else
    let back := seqDist s.kmp.eventSeq x.nextSend
    if back = 0 then s
    else if s.kmp.hold.length < back then
      let lost := back - s.kmp.hold.length
      noteSent x.number x.nextSend (oldestHeld s) (sendMsg x.dest (lossMsg x x.nextSend lost s) s)
    else
      let rest := s.kmp.hold.drop (s.kmp.hold.length - back)
      match rest.find? fun r => maskPasses x r.code with
      | none => passRejected x s.kmp.eventSeq s
      | some r =>
        let s1 := if r.seq = x.nextSend then s else passRejected x r.seq s
        noteSent x.number r.seq (inc16 r.seq) (sendMsg x.dest (heldMsg x r) s1)

/-- EVENT_SEND (R181). -/
def eventSendEffect (t session : Nat) (s0 : State) : State :=
  let s := advance t s0
  match findSession session s with
  | none => s
  | some x => if destServed x.dest s ∧ !kmpHalted s then sendNext x s else s

/-- Send the oldest outstanding event again and double the wait, up to 60,000 ms (R182). -/
def resend (x : Session) (seq : Nat) (s : State) : State :=
  let back := seqDist s.kmp.eventSeq seq
  let m :=
    if s.kmp.hold.length < back then lossMsg x seq (back - s.kmp.hold.length) s
    else
      match s.kmp.hold.find? fun r => r.seq == seq with
      | some r => heldMsg x r
      | none => lossMsg x seq 1 s
  updSession x.number (fun y =>
    { y with
      sent := (seq, s.elapsed) :: y.sent.tail
      waitMs := min 60000 (2 * y.waitMs) }) (sendMsg x.dest m s)

/-- EVENT_RETRY (R182). -/
def eventRetryEffect (t session : Nat) (s0 : State) : State :=
  let s := advance t s0
  match findSession session s with
  | none => s
  | some x =>
    match x.sent with
    | [] => s
    | (seq, a) :: _ =>
      if a + msNs x.waitMs ≤ s.elapsed ∧ destServed x.dest s ∧ !kmpHalted s then resend x seq s else s

/-- Entries of a cache that are still held (R173). -/
def liveCache (now : Nat) (l : List CacheEntry) : List CacheEntry :=
  l.filter fun e => decide (now < e.builtAt + cacheLife)

/-- CACHE_EXPIRY: entries whose 600 s have passed leave every cache (R173, R206). -/
def cacheExpiryEffect (t : Nat) (s0 : State) : State :=
  let s := advance t s0
  { s with kmp := { s.kmp with
      ctlCache := liveCache s.elapsed s.kmp.ctlCache
      openCache := liveCache s.elapsed s.kmp.openCache
      recoveryCache := liveCache s.elapsed s.kmp.recoveryCache
      sessions := s.kmp.sessions.map fun x => { x with cache := liveCache s.elapsed x.cache } } }

/-- SESSION_IDLE: a read-only session ends after 900 s without a request (R160). -/
def sessionIdleEffect (t session : Nat) (s0 : State) : State :=
  let s := advance t s0
  match findSession session s with
  | none => s
  | some x =>
    if !x.controlling ∧ x.lastRequestAt + sNs 900 ≤ s.elapsed then endSession x.number 2 0 s else s

/-- Return a transport to its previous setting (R201). -/
def restoreTransport (r : Revert) (s : State) : State :=
  match r.transport with
  | .uart0 => { s with kmp := { s.kmp with uart0Baud := r.oldBaud } }
  | .uart1 => { s with kmp := { s.kmp with uart1Baud := r.oldBaud } }
  | .m0 =>
    { s with
      kmp := { s.kmp with udpPort := r.oldPort }
      ports := { s.ports with m0 :=
        { s.ports.m0 with cfg := (s.ports.m0.old.map fun o => o.1).getD s.ports.m0.cfg, old := none } } }
  | _ => s

/-- A request has passed authentication on the transport since its change (R201). -/
def confirmedSince (r : Revert) (s : State) : Bool :=
  match (ratesOf r.transport s).lastAuthOk with
  | some a => decide (r.since < a ∧ a < r.since + sNs 60)
  | none => false

/-- EV_TRANSPORT_REVERTED: 60 s after a change that no authenticated request confirmed (R201). -/
def transportRevertedEffect (t : Nat) (tr : Transport) (s0 : State) : State :=
  let s := advance t s0
  match s.kmp.reverts.find? fun r => decide (r.transport = tr) with
  | none => s
  | some r =>
    if s.elapsed < r.since + sNs 60 then s
    else
      let s1 := { s with kmp := { s.kmp with reverts := s.kmp.reverts.filter fun x => decide (x.transport ≠ tr) } }
      if confirmedSince r s then s1
      else raise .transportReverted 0 (enc [(1, transportNum tr)]) (restoreTransport r s1)

/-! ### The meanings -/

/-- SESSION_OPEN. -/
def execSessionOpen (q : Req) (s : State) : Host.Outcome State Fault Refusal := .next (kmpExec .sessionOpen q (sessionOpenBody q) s)

/-- SESSION_CLOSE. -/
def execSessionClose (q : Req) (s : State) : Host.Outcome State Fault Refusal := .next (kmpExec .sessionClose q (sessionCloseBody q) s)

/-- SESSION_STATUS. -/
def execSessionStatus (q : Req) (s : State) : Host.Outcome State Fault Refusal := .next (kmpExec .sessionStatus q (sessionStatusBody q) s)

/-- IDENTITY_GET. -/
def execIdentityGet (q : Req) (s : State) : Host.Outcome State Fault Refusal := .next (kmpExec .identityGet q (identityGetBody q) s)

/-- EVENT_ACK. -/
def execEventAck (q : Req) (s : State) : Host.Outcome State Fault Refusal := .next (kmpExec .eventAck q (eventAckBody q) s)

/-- EVENT_FETCH. -/
def execEventFetch (q : Req) (s : State) : Host.Outcome State Fault Refusal := .next (kmpExec .eventFetch q (eventFetchBody q) s)

/-- EVENT_CONFIG_SET. -/
def execEventConfigSet (q : Req) (s : State) : Host.Outcome State Fault Refusal := .next (kmpExec .eventConfigSet q (eventConfigSetBody q) s)

/-- TRANSPORT_CONFIG_SET. -/
def execTransportConfigSet (q : Req) (s : State) : Host.Outcome State Fault Refusal := .next (kmpExec .transportConfigSet q (transportConfigSetBody q) s)

/-- TRANSPORT_CONFIG_GET. -/
def execTransportConfigGet (q : Req) (s : State) : Host.Outcome State Fault Refusal := .next (kmpExec .transportConfigGet q (transportConfigGetBody q) s)

/-- UART_FRAME. -/
def execUartFrame (t : Nat) (u : Fin 2) (raw : List Byte) (s : State) : Host.Outcome State Fault Refusal := .next (uartFrameEffect t u raw s)

/-- RX_GAP. -/
def execRxGap (t : Nat) (u : Fin 2) (gapMs : Nat) (s : State) : Host.Outcome State Fault Refusal := .next (rxGapEffect t u gapMs s)

/-- EVENT_SEND. -/
def execEventSend (t : Nat) (session : Nat) (s : State) : Host.Outcome State Fault Refusal := .next (eventSendEffect t session s)

/-- EVENT_RETRY. -/
def execEventRetry (t : Nat) (session : Nat) (s : State) : Host.Outcome State Fault Refusal := .next (eventRetryEffect t session s)

/-- CACHE_EXPIRY. -/
def execCacheExpiry (t : Nat) (s : State) : Host.Outcome State Fault Refusal := .next (cacheExpiryEffect t s)

/-- SESSION_IDLE. -/
def execSessionIdle (t : Nat) (session : Nat) (s : State) : Host.Outcome State Fault Refusal := .next (sessionIdleEffect t session s)

/-- EV_TRANSPORT_REVERTED. -/
def execEvTransportReverted (t : Nat) (tr : Transport) (s : State) : Host.Outcome State Fault Refusal := .next (transportRevertedEffect t tr s)

end Sys2Proof.Machine
end

