-- ==== Sys2Proof/Machine/Ports.lean ====
section
/-! DEFINITION. Machine/Ports.lean: Ethernet ports, pluggable optics and M0 (R296 to R328). -/

namespace Sys2Proof.Machine

open Sys2Proof

/-! ### Forming ports -/

/-- The TYPE and FEC pairs offered (R297). -/
def typeOffered (typ fec : Nat) : Bool :=
  match typ with
  | 1 => decide (fec = 0)
  | 2 => decide (fec = 0)
  | 3 => decide (fec ≤ 1)
  | 4 => decide (fec = 2)
  | 5 => decide (fec ≤ 1)
  | 6 => decide (fec = 2)
  | 7 => decide (fec = 2)
  | _ => false

/-- Fields of a PORT_FORM in range, for a port that is to be formed (R316 table, R317). (DEDUCED: log entry 124) -/
def portFieldsOk (p : List Byte) : Bool :=
  typeOffered (f1 p 1) (f1 p 2) && (!bitOf (f1 p 3) 0 || decide (f1 p 1 = 1)) && decide (1518 ≤ f2 p 4) &&
    decide (f2 p 4 ≤ 10240) && decide (f2 p 6 ≤ 1000) && decide (f2 p 8 ≤ 10000)

/-- The settings of a PORT_FORM on top of a port's state. -/
def portWith (p : List Byte) (x : Port) : Port :=
  { x with
    typ := f1 p 1
    fec := f1 p 2
    an := bitOf (f1 p 3) 0
    adminDown := bitOf (f1 p 3) 1
    maxFrame := f2 p 4
    linkUpMs := f2 p 6
    linkDownUs := f2 p 8
    rxAdj := fieldInt p 10 2
    txAdj := fieldInt p 12 2 }

/-- A lane of the new port is held by Causeway, by test, or by a port with a different first lane (R317). -/
def laneTaken (p l : Nat) (s : State) : Bool :=
  match (laneOf l s).owner with
  | .causeway => true
  | .test => true
  | _ =>
    match portOfLane l s with
    | some k => decide (k ≠ p)
    | none => false

/-- The lanes PORT_FORM asks for. -/
def wantedLanes (n typ : Nat) : List Nat := if typ = 0 then [] else (List.range (typeLanes typ)).map (n + ·)

/-- Checks of R317, in its order. (DEDUCED: log entries 122, 123) -/
def portFormChecks (p : List Byte) (s : State) : List (Bool × Err) :=
  let n := f1 p 0
  let typ := f1 p 1
  [(decide (n ≤ 127), .portNone), (decide (typ = 0 ∨ n % typeLanes typ = 0), .portAlign),
   (decide (typ = 0) || portFieldsOk p, .portType), (!((wantedLanes n typ).any fun l => laneTaken n l s), .portLaneBusy),
   (!(s.sup.keepPorts.contains n && !decide (typ = 1 ∨ typ = 2)), .keepPort)]

/-- The lanes of a formed port start where the mode runs it; elsewhere they are recorded (R299). -/
def startPort (p : Nat) (s : State) : State :=
  let x := portOf p s
  forEach (portLanes p s) (fun l s =>
    if portRuns p s then ownLane l .ethernet (typeRate x.typ) s
    else updLane l (fun y => { y with owner := .ethernet, rate := typeRate x.typ }) s) s

/-- A port stops in the present mode: its link goes down, its lanes go OFF and what it holds is dropped (R48, R50). -/
def stopPort (p : Nat) (s : State) : State :=
  forEach (portLanes p s) (fun l s => lanesOff l s) (dropPort p (portGoesDown p 7 s))

/-- A managed optic in the cage of a formed port is brought up (R315). -/
def startOptic (p : Nat) (s : State) : State :=
  let c := Tbl.get {} s.ports.cage p
  if (portOf p s).typ ≠ 0 ∧ c.mapped ∧ c.present ∧ c.ident ≠ 3 then
    { s with ports := { s.ports with cage := Tbl.set {} s.ports.cage p { c with step := 1, ready := false, mismatch := false } } }
  else s

/-- Unform port `p`: its lanes return to owner none (R318). -/
def unformPort (p : Nat) (s : State) : State :=
  let ls := portLanes p s
  let s1 := dropPort p (portGoesDown p 0 s)
  let s2 := forEach ls (fun l s => freeLane l s) s1
  updPort p (fun y => { lastEvent := y.lastEvent, unreported := y.unreported, changes := y.changes, since := y.since }) s2

/-- Form port `p` anew with a payload. -/
def formPort (n : Nat) (p : List Byte) (s : State) : State :=
  startOptic n (startPort n (updPort n (portWith p) s))

/-- Apply settings that leave the link as it is (R318); with ADMIN_DOWN set a condition of R300 fails, and LINK_DOWN takes
the link down once LINK_DOWN_US has passed. (DEDUCED: log entry 125) -/
def adjustPort (n : Nat) (p : List Byte) (s : State) : State := updPort n (portWith p) s

/-- PORT_FORM's effect and its STATE (R299, R316, R318). -/
def applyPortForm (n : Nat) (p : List Byte) (s : State) : State × Nat :=
  let x := portOf n s
  if f1 p 1 = 0 then (if x.typ = 0 then (s, 2) else (unformPort n s, 0))
  else if x.typ = 0 then
    let s1 := formPort n p s
    (s1, if portRuns n s1 then 0 else 1)
  else if x.typ = f1 p 1 ∧ x.fec = f1 p 2 then
    if portWith p x = x then (s, 2)
    else
      let s1 := adjustPort n p s
      (s1, if portRuns n s1 then 0 else 1)
  else
    let s1 := formPort n p (unformPort n s)
    (s1, if portRuns n s1 then 0 else 1)

/-- PORT_FORM (R317, R318, R325). -/
def portFormBody (q : Req) (s : State) : Body :=
  let r := applyPortForm (f1 q.payload 0) q.payload s
  checks (lenIs q 16 :: portFormChecks q.payload s) (okResp r.1 (enc [(1, r.2), (3, 0)]))

/-- Cage `p`. -/
def cageOf (p : Nat) (s : State) : Cage := Tbl.get {} s.ports.cage p

/-- Change cage `p`. -/
def updCage (p : Nat) (f : Cage → Cage) (s : State) : State :=
  { s with ports := { s.ports with cage := Tbl.upd {} s.ports.cage p f } }

/-- PORT_STATUS_GET response (R316 table). -/
def portStatus (p : Nat) (s : State) : List Byte :=
  let x := portOf p s
  let c := cageOf p s
  enc [(1, p), (1, x.typ), (1, x.fec), (1, b2n x.link), (1, downCause p s),
    (1, flags [x.anDone && x.link, c.present, c.ready, c.mismatch, c.present && decide (c.ident = 3)]), (2, 0), (4, x.changes)] ++
  tb10 x.since ++ be 2 0

/-- PORT of a request is a port (R316). -/
def portNumOk (p : Nat) : Bool × Err := (decide (p ≤ 127), .portNone)

/-- PORT_STATUS_GET. -/
def portStatusGetBody (q : Req) (s : State) : Body :=
  checks [lenIs q 4, portNumOk (f1 q.payload 0)] (okResp s (portStatus (f1 q.payload 0) s))

/-! ### Link state -/

/-- Conditions of R300 that State holds: the port is formed and run, ADMIN_DOWN is clear, every receive half is ACTIVE
with CDR locked, and a managed optic is ready (R315). -/
def linkCanRise (p : Nat) (s : State) : Bool :=
  let x := portOf p s
  let c := cageOf p s
  decide (x.typ ≠ 0) && portRuns p s && !x.adminDown &&
    ((portLanes p s).all fun l => decide ((laneOf l s).rx = .active) && (laneOf l s).cdr) &&
    !(c.mapped && c.present && decide (c.ident ≠ 3) && !c.ready)

/-- LINK_UP: PCS, FEC and fault conditions have held for LINK_UP_MS as well (R300); a Clause 37 partner must offer full
duplex (R298). (DEDUCED: log entry 126) -/
def linkUpEffect (t : Nat) (p : Fin 128) (anDone fullDuplex : Bool) (s0 : State) : State :=
  let s := advance t s0
  let x := portOf p s
  if linkCanRise p s ∧ !x.link ∧ !(x.an && !fullDuplex) then portGoesUp p (x.an && anDone) s else s

/-- LINK_DOWN: a condition of R300 has failed for LINK_DOWN_US; `cause` is its DOWN_CAUSE. (DEDUCED: log entries 125, 126) -/
def linkDownEffect (t : Nat) (p : Fin 128) (cause : Fin 10) (s0 : State) : State :=
  let s := advance t s0
  if (portOf p s).typ ≠ 0 then portGoesDown p cause s else s

/-! ### M0 settings -/

/-- The settings of an M0_CONFIG_SET payload. -/
def m0CfgOf (p : List Byte) : M0Cfg where
  ipv4 := f4 p 0
  prefix4 := f1 p 4
  prefix6 := f1 p 5
  vlan := f2 p 6
  gw4 := f4 p 8
  ipv6 := field p 12 16
  gw6 := field p 28 16
  an := bitOf (f1 p 44) 0

/-- M0 settings in range (R316 table). -/
def m0CfgOk (c : M0Cfg) : Bool :=
  (decide (c.prefix4 = 0) || (decide (8 ≤ c.prefix4) && decide (c.prefix4 ≤ 30))) &&
    (decide (c.prefix6 = 0) || (decide (16 ≤ c.prefix6) && decide (c.prefix6 ≤ 128))) && decide (c.vlan ≤ 4094)

/-- M0_CONFIG_SET (R316, R319): on M0 itself the change reverts under R201 where nothing confirms it. -/
def m0ConfigSetBody (q : Req) (s : State) : Body :=
  let c := m0CfgOf q.payload
  checks [lenIs q 48, (m0CfgOk c, .m0Param)] <|
    let m := s.ports.m0
    if q.transport = .m0 then
      okEmpty { s with
        ports := { s.ports with m0 := { m with cfg := c, old := some (m.cfg, s.elapsed) } }
        kmp := { s.kmp with reverts := (s.kmp.reverts.filter fun r => decide (r.transport ≠ q.transport)) ++ [revertOf q s] } }
    else okEmpty { s with ports := { s.ports with m0 := { m with cfg := c } } }

/-- M0_CONFIG_GET response. -/
def m0CfgBytes (s : State) : List Byte :=
  let c := s.ports.m0.cfg
  enc [(4, c.ipv4), (1, c.prefix4), (1, c.prefix6), (2, c.vlan), (4, c.gw4), (16, c.ipv6), (16, c.gw6), (1, b2n c.an), (3, 0),
    (6, s.ident.m0Mac.toNat), (2, 0)]

/-- M0_CONFIG_GET. -/
def m0ConfigGetBody (q : Req) (s : State) : Body := checks [lenIs q 0] (okResp s (m0CfgBytes s))

/-! ### Optics -/

/-- Fields of an OPTICS_MAP_SET are in range (R320). -/
def mapFieldsOk (p : List Byte) : Bool :=
  decide (f1 p 1 = 0xFF) ||
    (decide (f1 p 1 ≤ 3) && (decide (f1 p 2 = 0) || (decide (0x70 ≤ f1 p 2) && decide (f1 p 2 ≤ 0x77))) && decide (f1 p 3 ≤ 7))

/-- Another port maps to the same master, multiplexer address and channel (R320). -/
def mapDuplicate (p : List Byte) (s : State) : Bool :=
  decide (f1 p 1 ≠ 0xFF) && s.ports.cage.any fun c =>
    decide (c.1 ≠ f1 p 0) && c.2.mapped && decide (c.2.master = f1 p 1) && decide (c.2.muxAddr = f1 p 2) &&
      decide (c.2.muxChannel = f1 p 3)

/-- The cage a map entry describes. -/
def cageMapped (p : List Byte) : Cage :=
  if f1 p 1 = 0xFF then {}
  else { mapped := true, master := f1 p 1, muxAddr := f1 p 2, muxChannel := f1 p 3, slow := bitOf (f1 p 4) 0 }

/-- OPTICS_MAP_SET (R320). -/
def opticsMapSetBody (q : Req) (s : State) : Body :=
  let p := q.payload
  checks [lenIs q 8, portNumOk (f1 p 0), (mapFieldsOk p && !mapDuplicate p s, .opticsMap)]
    (okEmpty (updCage (f1 p 0) (fun _ => cageMapped p) s))

/-- The range of an access lies wholly in the lower or the upper half (R321). -/
def opticsRangeOk (off n : Nat) : Bool :=
  decide (1 ≤ n) && decide (n ≤ 128) && (decide (off + n ≤ 128) || (decide (128 ≤ off) && decide (off + n ≤ 256)))

/-- The device address of an access: 0x51 for PAGE 0xA2 of an SFF-8472 module (R310). -/
def opticsDev (c : Cage) (page : Nat) : Nat := if c.ident = 3 ∧ c.present ∧ page = 0xA2 then 0x51 else 0x50

/-- An unmanaged module, which is never written (R310). -/
def unmanaged (c : Cage) : Bool := c.present && decide (c.ident = 3)

/-- The page-select byte is written: an upper range on a page other than the last one written to the cage (R311). -/
def pageDue (c : Cage) (page off : Nat) : Bool := decide (128 ≤ off) && !unmanaged c && decide (c.page ≠ some page)

/-- Nine clock pulses before the first access after a timeout (R312). -/
def i2cBegin (m : Nat) (s : State) : State :=
  if (Tbl.get {} s.ports.master m).recover then
    emit (.i2cRecover m)
      { s with ports := { s.ports with master := Tbl.upd {} s.ports.master m (fun y => { y with recover := false }) } }
  else s

/-- The bus sends a multiplexer control byte where the map names a multiplexer (R311). -/
def muxWrite (p : Nat) (c : Cage) (s : State) : State :=
  if c.muxAddr = 0 then s else emit (.i2c p true c.muxAddr 0 [BitVec.ofNat 8 (2 ^ c.muxChannel)]) s

/-- The page-select byte is written and remembered (R311). -/
def pageWrite (p : Nat) (c : Cage) (page off : Nat) (s : State) : State :=
  if pageDue c page off then
    updCage p (fun y => { y with page := some page }) (emit (.i2c p true (opticsDev c page) 127 [BitVec.ofNat 8 page]) s)
  else s

/-- The access on the bus up to what its target acknowledges (R311, R312). -/
def i2cAccess (p : Nat) (write : Bool) (page off : Nat) (data : List Byte) (ans : I2cAns) (s : State) : State :=
  let c := cageOf p s
  let s1 := muxWrite p c (i2cBegin c.master s)
  match ans with
  | .ok _ => emit (.i2c p write (opticsDev c page) off data) (pageWrite p c page off s1)
  | .noackMux => s1
  | .noackDev => emit (.i2c p write (opticsDev c page) off []) s1
  | .hang => pageWrite p c page off s1

/-- A target holds the master (R312). (DEDUCED: log entry 131) -/
def holdMaster (m : Nat) (h : HeldAccess) (s : State) : State :=
  { s with ports := { s.ports with master := Tbl.upd {} s.ports.master m (fun y => { y with held := some h }) } }

/-- How a KMP access is answered (R312, R316). -/
def opticsReply (p : Nat) (write : Bool) (q : Req) (n : Nat) (ans : I2cAns) (s : State) : Body :=
  let c := cageOf p s
  match ans with
  | .ok d => .ok (s, .ok (if write then [] else padTo n d))
  | .noackMux => .ok (s, .err .noack (enc [(1, 0), (1, c.muxAddr)]))
  | .noackDev => .ok (s, .err .noack (enc [(1, 1), (1, opticsDev c (f1 q.payload 1))]))
  | .hang => .ok (holdMaster c.master (.kmp write q) s, .later)

/-- No multiplexer can refuse where the map names none. -/
def ansFor (c : Cage) (ans : I2cAns) : I2cAns :=
  match ans with
  | .noackMux => if c.muxAddr = 0 then .noackDev else .noackMux
  | a => a

/-- OPTICS_READ (R311, R312, R316, R321); `ans` is how the target answers. -/
def opticsReadBody (q : Req) (ans : I2cAns) (s : State) : Body :=
  let p := q.payload
  let a := ansFor (cageOf (f1 p 0) s) ans
  checks [lenIs q 4, portNumOk (f1 p 0), (opticsRangeOk (f1 p 2) (f1 p 3), .opticsRange), ((cageOf (f1 p 0) s).mapped, .opticsMap)]
    (opticsReply (f1 p 0) false q (f1 p 3) a (i2cAccess (f1 p 0) false (f1 p 1) (f1 p 2) [] a s))

/-- Bytes the module manages (R322). -/
def managedBytes (p : List Byte) (s : State) : Bool :=
  let off := f1 p 2
  unmanaged (cageOf (f1 p 0) s) ||
    (decide ((portOf (f1 p 0) s).typ ≠ 0) &&
      ((decide (off ≤ 26) && decide (26 < off + f1 p 3)) || (decide (128 ≤ off) && decide (f1 p 1 = 0x10))))

/-- OPTICS_WRITE (R311, R312, R321, R322). -/
def opticsWriteBody (q : Req) (ans : I2cAns) (s : State) : Body :=
  let p := q.payload
  let a := ansFor (cageOf (f1 p 0) s) ans
  checks [lenIs q (4 + f1 p 3), portNumOk (f1 p 0), (opticsRangeOk (f1 p 2) (f1 p 3), .opticsRange),
      ((cageOf (f1 p 0) s).mapped, .opticsMap), (!managedBytes p s, .opticsManaged)]
    (opticsReply (f1 p 0) true q 0 a (i2cAccess (f1 p 0) true (f1 p 1) (f1 p 2) (p.drop 4) a s))

/-- The control core runs, and with it the optics polls and steps (R679, R694). (DEDUCED: log entry 129) -/
def controlRuns (s : State) : Bool :=
  !ctlHalted s &&
  match s.sup.mode with
  | .keep => true
  | .full => true
  | .span => true
  | .freeze => true
  | _ => false

/-- What two polls that agree make of a cage (R313, R315). -/
def pollFound (p : Nat) (found : Bool) (ident : Nat) (s : State) : State :=
  let c := cageOf p s
  let s1 := updCage p (fun y => { y with lastPoll := found }) s
  if found = c.lastPoll ∧ found ≠ c.present then
    let s2 := updCage p (fun y =>
      { y with present := found, ident := if found then ident else 0, page := none, step := 0, ready := false, mismatch := false }) s1
    startOptic p (raise .opticsPresent 0 (enc [(1, p), (1, b2n found), (1, if found then ident else c.ident)]) s2)
  else s1

/-- OPTICS_POLL: lower-page bytes 0 to 3 of a mapped cage (R313, R314). (DEDUCED: log entry 129) -/
def opticsPollEffect (t : Nat) (p : Fin 128) (ans : I2cAns) (s0 : State) : State :=
  let s := advance t s0
  let c := cageOf p s
  if !controlRuns s ∨ !c.mapped ∨ masterBusy p s then s
  else
    let s1 := i2cAccess p false 0 0 [] (ansFor c ans) s
    match ans with
    | .ok d => pollFound p true (f1 d 0) s1
    | .noackMux => pollFound p false 0 s1
    | .noackDev => pollFound p false 0 s1
    | .hang => holdMaster c.master (.poll p) s1

/-- The register write of a bring-up step, where it has one (R315): its data are CMIS's. (DESIGN CHOICE: log entry 130) -/
def stepWrite (p step : Nat) (s : State) : State :=
  let c := cageOf p s
  if step = 1 then emit (.i2c p true 0x50 26 []) (muxWrite p c (i2cBegin c.master s))
  else if step = 4 then emit (.i2c p true 0x50 128 []) (pageWrite p c 0x10 128 (muxWrite p c (i2cBegin c.master s)))
  else s

/-- EV_OPTICS_STATE (R315). -/
def opticsEvent (p step result : Nat) (s : State) : State := raise .opticsState 0 (enc [(1, p), (1, step), (1, result)]) s

/-- OPTICS_STEP: the step of R315 that runs completes (0), fails or times out (1), or finds no application (2).
(DESIGN CHOICE: log entry 130) -/
def opticsStepEffect (t : Nat) (p : Fin 128) (res : Fin 3) (s0 : State) : State :=
  let s := advance t s0
  let c := cageOf p s
  if !controlRuns s ∨ c.step = 0 ∨ masterBusy p s then s
  else
    let s1 := stepWrite p c.step s
    match res.val with
    | 0 => opticsEvent p c.step 0 (updCage p (fun y => { y with step := if y.step = 5 then 0 else y.step + 1, ready := decide (y.step = 5) }) s1)
    | 1 => opticsEvent p c.step 1 (updCage p (fun y => { y with step := 0 }) s1)
    | _ =>
      if c.step = 3 then
        raise .opticsMismatch 0 (enc [(1, p), (1, (portOf p s).typ)])
          (opticsEvent p c.step 1 (updCage p (fun y => { y with step := 0, mismatch := true }) s1))
      else s1

/-- I2C_TIMEOUT: the access that holds a master ends (R312). (DEDUCED: log entry 131) -/
def i2cTimeoutEffect (t : Nat) (m : Fin 4) (s0 : State) : State :=
  let s := advance t s0
  match (Tbl.get {} s.ports.master m).held with
  | none => s
  | some h =>
    let s1 := { s with ports := { s.ports with master := Tbl.upd {} s.ports.master m (fun _ => { held := none, recover := true }) } }
    match h with
    | .poll _ => s1
    | .kmp w q =>
      finish (if w then Cmd.opticsWrite else Cmd.opticsRead).row.code q (findSession q.session s1) false Err.i2cTimeout.code [] s1

/-! ### The meanings -/

/-- PORT_FORM. -/
def execPortForm (q : Req) (s : State) : Host.Outcome State Fault Refusal :=
  .next (kmpExec .portForm q (portFormBody q) s)

/-- PORT_STATUS_GET. -/
def execPortStatusGet (q : Req) (s : State) : Host.Outcome State Fault Refusal :=
  .next (kmpExec .portStatusGet q (portStatusGetBody q) s)

/-- M0_CONFIG_SET. -/
def execM0ConfigSet (q : Req) (s : State) : Host.Outcome State Fault Refusal :=
  .next (kmpExec .m0ConfigSet q (m0ConfigSetBody q) s)

/-- M0_CONFIG_GET. -/
def execM0ConfigGet (q : Req) (s : State) : Host.Outcome State Fault Refusal :=
  .next (kmpExec .m0ConfigGet q (m0ConfigGetBody q) s)

/-- OPTICS_MAP_SET. -/
def execOpticsMapSet (q : Req) (s : State) : Host.Outcome State Fault Refusal :=
  .next (kmpExec .opticsMapSet q (opticsMapSetBody q) s)

/-- OPTICS_READ. -/
def execOpticsRead (q : Req) (ans : I2cAns) (s : State) : Host.Outcome State Fault Refusal :=
  .next (kmpExec .opticsRead q (opticsReadBody q ans) s)

/-- OPTICS_WRITE. -/
def execOpticsWrite (q : Req) (ans : I2cAns) (s : State) : Host.Outcome State Fault Refusal :=
  .next (kmpExec .opticsWrite q (opticsWriteBody q ans) s)

/-- LINK_UP. -/
def execLinkUp (t : Nat) (p : Fin 128) (anDone : Bool) (fullDuplex : Bool) (s : State) : Host.Outcome State Fault Refusal :=
  .next (linkUpEffect t p anDone fullDuplex s)

/-- LINK_DOWN. -/
def execLinkDown (t : Nat) (p : Fin 128) (cause : Fin 10) (s : State) : Host.Outcome State Fault Refusal :=
  .next (linkDownEffect t p cause s)

/-- OPTICS_POLL. -/
def execOpticsPoll (t : Nat) (p : Fin 128) (ans : I2cAns) (s : State) : Host.Outcome State Fault Refusal :=
  .next (opticsPollEffect t p ans s)

/-- OPTICS_STEP. -/
def execOpticsStep (t : Nat) (p : Fin 128) (res : Fin 3) (s : State) : Host.Outcome State Fault Refusal :=
  .next (opticsStepEffect t p res s)

/-- I2C_TIMEOUT. -/
def execI2cTimeout (t : Nat) (m : Fin 4) (s : State) : Host.Outcome State Fault Refusal :=
  .next (i2cTimeoutEffect t m s)

end Sys2Proof.Machine
end

