-- ==== Sys2Proof/Machine/Ingress.lean ====
section
/-! DEFINITION. Machine/Ingress.lean: the ingress pipeline from a frame to its cells (R303 to R307, R368, R381 to R408,
R443 to R446, R470 to R472, R485). -/

namespace Sys2Proof.Machine

open Sys2Proof

/-! ### Rules (R381 to R386) -/

/-- Classification settings of a port. -/
def portClass (p : Nat) (s : State) : PortClass := Tbl.get {} s.cls.port p

/-- Bank `b`. -/
def bankOf (b : Nat) (s : State) : Bank := Tbl.get {} s.cls.bank b

/-- Change bank `b`. -/
def updBank (b : Nat) (f : Bank → Bank) (s : State) : State :=
  { s with cls := { s.cls with bank := Tbl.upd {} s.cls.bank b f } }

/-- Entry width of a profile in units of 80 bits (R378, R381). -/
def profileUnits : Nat → Nat
  | 1 => 2
  | 2 => 2
  | 3 => 4
  | _ => 1

/-- Entries of a bank (R381). -/
def bankEntries (profile : Nat) : Nat := if profile = 0 then 0 else 1024 / profileUnits profile

/-- An entry matches a key (R382, R409). -/
def entryMatches (e : SEntry) (key : Nat) : Bool :=
  bitOf e.action 0 && !e.parityBad && decide ((key ^^^ e.value) &&& e.mask = 0)

/-- The first matching entry of a bank. -/
def bankSearch (b : Nat) (k : Keys) (s : State) : Option (Nat × Nat × SEntry) :=
  match keyOf (bankOf b s).profile k with
  | none => none
  | some key => ((bankOf b s).entries.find? fun e => entryMatches e.2 key).map fun e => (b, e.1, e.2)

/-- Banks of a list by rising rank (R383). -/
def listBanks (l : Nat) (s : State) : List Nat :=
  (List.range 32).flatMap fun r =>
    (List.range 32).filter fun b => decide ((bankOf b s).list = l) && decide ((bankOf b s).rank = r)

/-- The winning entry of a rule list (R383). -/
def ruleSearch (l : Nat) (k : Keys) (s : State) : Option (Nat × Nat × SEntry) :=
  (listBanks l s).findSome? fun b => bankSearch b k s

/-- Class, pre-colour and queue of a frame. -/
structure Classed where
  cls : Nat
  colour : Nat
  queue : Nat
deriving DecidableEq, Repr

/-- Classify a frame, counting the hit or the miss (R385, R386). -/
def classify (k : Keys) (s : State) : Classed × State :=
  let c := portClass k.inPort s
  match ruleSearch c.list k s with
  | some (b, i, e) =>
    (⟨bitsOf e.action 15 12, bitsOf e.action 11 10, bitsOf e.action 9 7⟩,
     updBank b (fun y => { y with entries := Tbl.upd {} y.entries i (fun x => { x with hits := x.hits.add64 1 }) }) s)
  | none =>
    (⟨c.defClass, 0, c.pcpQueue.getD (k.pcpDei / 2) 0⟩,
     countEvt 0x09 [(6, c.list)] 1 { s with cls := { s.cls with misses := Tbl.upd 0 s.cls.misses c.list (· + 1) } })

/-! ### Meters (R387 to R390) -/

/-- Meter `m`. -/
def meterOf (m : Nat) (s : State) : Meter := Tbl.get {} s.cls.meter m

/-- Change a meter. -/
def updMeter (m : Nat) (f : Meter → Meter) (s : State) : State :=
  { s with cls := { s.cls with meter := Tbl.upd {} s.cls.meter m f } }

/-- The marker on its buckets: the colour and what each bucket pays (RFC 2697, RFC 2698). -/
def mark (c : MeterCfg) (tokC tokE bytes pre : Nat) : Nat × Nat × Nat :=
  let n := bytes * 1000000
  let pre := if c.aware then pre else 0
  if c.algo = 1 then
    if pre = 0 ∧ n ≤ tokC then (0, n, 0)
    else if pre ≤ 1 ∧ n ≤ tokE then (1, 0, n)
    else (2, 0, 0)
  else
    if pre = 2 ∨ tokE < n then (2, 0, 0)
    else if pre = 1 ∨ tokC < n then (1, 0, n)
    else (0, n, n)

/-- Count a marked frame (R388, R390). -/
def countMark (colour bytes : Nat) (dropped : Bool) (y : Meter) : Meter :=
  match colour with
  | 0 => { y with greenPkts := y.greenPkts.add64 1, greenBytes := y.greenBytes.add64 bytes }
  | 1 => { y with yellowPkts := y.yellowPkts.add64 1, yellowBytes := y.yellowBytes.add64 bytes }
  | _ =>
    { y with
      redPkts := y.redPkts.add64 1
      redBytes := y.redBytes.add64 bytes
      redDrops := if dropped then y.redDrops.add64 1 else y.redDrops }

/-- Meter a frame of a class: its final colour, whether it is dropped red, and the state (R387 to R390). -/
def meterFrame (port cls pre len : Nat) (s : State) : Nat × Bool × State :=
  let m := (portClass port s).meterMap.getD cls 0xFFFF
  let x := meterOf m s
  if m = 0xFFFF ∨ x.cfg.algo = 0 then (pre, false, s)
  else
    let bytes := len + (if x.cfg.lineBytes then 20 else 0)
    let r := mark x.cfg x.tokC x.tokE bytes pre
    let dropped := decide (r.1 = 2) && x.cfg.redDrop
    let s1 := updMeter m (fun y =>
      countMark r.1 bytes dropped { y with tokC := y.tokC - r.2.1, tokE := y.tokE - r.2.2 }) s
    (r.1, dropped, if r.1 = 2 then countEvt 0x0A [(9, m)] 1 s1 else s1)

/-! ### The slow path (R405 to R408) -/

/-- Punt class `c`. -/
def puntClassOf (c : Nat) (s : State) : PuntClass := Tbl.get {} s.cls.punt c

/-- Change a punt class. -/
def updPunt (c : Nat) (f : PuntClass → PuntClass) (s : State) : State :=
  { s with cls := { s.cls with punt := Tbl.upd {} s.cls.punt c f } }

/-- EV_PUNT_DROP, at most once per class per 10 s (R417). -/
def puntDropEvent (c : Nat) (s : State) : State :=
  let s1 := updPunt c (fun y => { y with lastDropAt := some s.elapsed, unreported := y.unreported + 1 }) s
  let x := puntClassOf c s1
  if reportDue x.lastEvent (sNs 10) s.elapsed then
    raise .puntDrop 0 (enc [(1, c), (4, x.unreported)])
      (updPunt c (fun y => { y with lastEvent := some s.elapsed, unreported := 0 }) s1)
  else s1

/-- A frame finds no token or no session (R405, R406). -/
def puntDrop (c : Nat) (s : State) : State :=
  puntDropEvent c (updPunt c (fun y => { y with dropped := y.dropped.add64 1 }) s)

/-- A session on the host window is open (R406). -/
def hostSession (s : State) : Bool :=
  s.kmp.sessions.any fun x => decide (x.dest.transport = .pcie ∨ x.dest.transport = .spi)

/-- The follow key of a fragment (R400). -/
def followKey (k : Keys) : List Byte :=
  if k.p.ip = 4 then enc [(1, 4), (4, k.p.src), (4, k.p.dst), (1, k.p.proto), (2, k.p.ident)]
  else enc [(1, 6), (16, k.p.src), (16, k.p.dst), (1, k.p.proto), (4, k.p.ident)]

/-- A frame the control core holds. -/
def heldFrame (k : Keys) (reason : Nat) (s : State) : HeldFrame :=
  ⟨k.inPort, reason, k.p.bytes, followKey k, k.p.fragOff, k.p.fragLen, k.p.more, s.elapsed⟩

/-- Datagrams the control core gathers (R408). -/
def heldDatagrams (s : State) : List (List Byte) :=
  (s.cls.held.filter fun h => decide (h.reason = 2)).foldl (fun l h => if l.contains h.key then l else l ++ [h.key]) []

/-- Bytes the control core gathers (R408). -/
def heldFragBytes (s : State) : Nat := ((s.cls.held.filter fun h => decide (h.reason = 2)).map fun h => h.bytes.length).sum

/-- A fragment finds room among the datagrams gathered (R408). -/
def gatherRoom (h : HeldFrame) (s : State) : Bool :=
  ((heldDatagrams s).contains h.key || decide ((heldDatagrams s).length < 64)) &&
    decide (heldFragBytes s + h.bytes.length ≤ 262144)

/-- A punted frame reaches the control core (R406 to R408); frames of reasons 3 and 4 are discarded there. -/
def puntToCore (k : Keys) (reason cls : Nat) (s : State) : State :=
  if reason = 3 ∨ reason = 4 then s
  else if 512 ≤ s.cls.held.length then
    puntDropEvent cls { s with cls := { s.cls with puntQueueFull := s.cls.puntQueueFull.add64 1 } }
  else
    let h := heldFrame k reason s
    if reason = 2 ∧ !gatherRoom h s then { s with cls := { s.cls with holdExpired := s.cls.holdExpired.add64 1 } }
    else { s with cls := { s.cls with held := s.cls.held ++ [h] } }

/-- EV_PUNT_FRAME (R406, R417). -/
def puntToHost (k : Keys) (reason : Nat) (s : State) : State :=
  let n := k.p.bytes.length
  raise .puntFrame 0 (enc [(1, k.inPort), (1, reason), (1, b2n (decide (1200 < n))), (1, 0), (2, n)] ++ k.p.bytes.take 1200) s

/-- A punted frame (R405, R406). -/
def puntFrame (k : Keys) (reason cls : Nat) (s : State) : State :=
  let x := puntClassOf cls s
  if x.tokens < 1000000000 then puntDrop cls s
  else
    let s1 := updPunt cls (fun y => { y with tokens := y.tokens - 1000000000, punted := y.punted.add64 1 }) s
    let s2 := countEvt 0x0D [(7, cls)] 1 s1
    if (portClass k.inPort s).slowHost then (if hostSession s then puntToHost k reason s2 else puntDrop cls s2)
    else puntToCore k reason cls s2

/-! ### Learning (R443, R444) -/

/-- Count in the nth learning counter. -/
def countLearn (n : Nat) (s : State) : State :=
  { s with fwd := { s.fwd with learnCtrs := Tbl.upd {} s.fwd.learnCtrs n (fun c => c.add64 1) } }

/-- Report at most once per `gap`: the report state and whether it is due, with the count. -/
def reportStep (r : Report) (gap now : Nat) : Report × Option Nat :=
  if reportDue r.last gap now then (⟨some now, 0⟩, some (r.count + 1)) else (⟨r.last, r.count + 1⟩, none)

/-- EV_LEARN_REFUSED, at most once per cause per 10 s (R460). -/
def learnRefused (cause : Nat) (s : State) : State :=
  let r := reportStep (Tbl.get {} s.fwd.refused cause) (sNs 10) s.elapsed
  let s1 := { s with fwd := { s.fwd with refused := Tbl.set {} s.fwd.refused cause r.1 } }
  match r.2 with
  | some n => raise .learnRefused 0 (enc [(1, cause), (4, n)]) s1
  | none => s1

/-- Distinct members in order. -/
def distinct (l : List Nat) : List Nat := l.foldl (fun a x => if a.contains x then a else a ++ [x]) []

/-- The latest stamp of a window's notifications. -/
def latestStamp (l : List (Nat × Nat)) : Nat := l.foldl (fun a x => max a x.2) 0

/-- The candidates of R445, and the winner among them. -/
def candidates (l : List (Nat × Nat)) : List Nat := distinct ((l.filter fun x => decide (latestStamp l ≤ x.2 + 8)).map Prod.fst)

/-- The lowest port of a list. -/
def lowestPort (l : List Nat) : Nat := l.foldl min 255

/-- The port of the latest stamp. -/
def latestPort (l : List (Nat × Nat)) : Nat :=
  match l.filter fun x => decide (x.2 = latestStamp l) with
  | [] => 0
  | x :: _ => x.1

/-- EV_LEARN_CONTEST, at most once per second (R445). -/
def contestEvent (w : LearnWindow) (s : State) : State :=
  let cs := candidates w.notes
  let r := reportStep s.fwd.contestReport (sNs 1) s.elapsed
  let s1 := { s with fwd := { s.fwd with contestReport := r.1, contestsWrap := inc16 s.fwd.contestsWrap } }
  match r.2 with
  | some n => raise .learnContest 0
      (enc [(6, w.mac), (2, w.vlan), (1, lowestPort cs), (1, latestPort w.notes), (1, b2n (decide (1 < cs.length))), (4, n)]) s1
  | none => s1

/-- Two instants lie within 1 ms of each other. -/
def within1ms (a b : Nat) : Bool := decide (a ≤ b + 1000000) && decide (b ≤ a + 1000000)

/-- Results for one key whose windows began within 1 ms of each other are merged by a Span leader (R556). -/
def sameWindow (a b : LearnResult) : Bool := decide (a.mac = b.mac ∧ a.vlan = b.vlan) && within1ms a.start b.start

/-- Merge two results. -/
def mergeResult (a b : LearnResult) : LearnResult := { a with start := min a.start b.start, notes := a.notes ++ b.notes }

/-- A result is queued for the control core (R444, R447, R556). -/
def queueResult (r : LearnResult) (s : State) : State :=
  if spanLeads s && s.fwd.results.any (sameWindow r) then
    { s with fwd := { s.fwd with results := s.fwd.results.map fun x => if sameWindow r x then mergeResult x r else x } }
  else if 4096 ≤ s.fwd.results.length then
    learnRefused 3 (countLearn 5 { s with fwd := { s.fwd with queueFullSeen := true } })
  else { s with fwd := { s.fwd with results := s.fwd.results ++ [r] } }

/-- A window ends: its merged result is posted (R444, R445, R447), on a Span follower to the leader (R556). -/
def postResult (w : LearnWindow) (s : State) : State :=
  let notes := w.notes.map fun x => (ownNum x.1 s, x.2)
  let cs := candidates notes
  let contest := decide (1 < (distinct (notes.map Prod.fst)).length)
  let s1 := if contest then contestEvent w (countLearn 1 s) else s
  let s2 := if 1 < cs.length then countLearn 2 s1 else s1
  if spanFollows s then sendVc0 (.relay (.learned w.mac w.vlan w.start notes)) s2
  else queueResult ⟨w.mac, w.vlan, w.start, notes⟩ s2

/-- A window lasts 1 ms (R444). -/
def windowNs : Nat := 1000000

/-- Notify the learn unit (R444): within the key's window the notification is merged; at its end or later it ends the
window and opens the next. -/
def notify (mac vlan port ts : Nat) (s : State) : State :=
  let isKey := fun (w : LearnWindow) => decide (w.mac = mac ∧ w.vlan = vlan)
  match s.fwd.windows.find? isKey with
  | none => { s with fwd := { s.fwd with windows := s.fwd.windows ++ [⟨mac, vlan, ts, [(port, ts)]⟩] } }
  | some w =>
    if ts < w.start + windowNs then
      let add := fun (x : LearnWindow) => if isKey x then { x with notes := x.notes ++ [(port, ts)] } else x
      { s with fwd := { s.fwd with windows := s.fwd.windows.map add } }
    else
      let rest := s.fwd.windows.filter fun x => !isKey x
      let s1 := postResult w { s with fwd := { s.fwd with windows := rest } }
      { s1 with fwd := { s1.fwd with windows := s1.fwd.windows ++ [⟨mac, vlan, ts, [(port, ts)]⟩] } }

/-- A notification is posted and counted (R443). -/
def postNote (k : Keys) (ts : Nat) (s : State) : State :=
  countEvt 0x17 [] 1 (countLearn 0 (notify k.p.smac k.vlan k.inPort ts s))

/-- EV_STATIC_CONFLICT, at most once per entry per 10 s (R443, R460). -/
def staticConflict (k : Keys) (slot : Nat) (e : BEntry) (s : State) : State :=
  let r := reportStep (Tbl.get {} s.fwd.conflicts slot) (sNs 10) s.elapsed
  let s1 := countLearn 9 { s with fwd := { s.fwd with conflicts := Tbl.set {} s.fwd.conflicts slot r.1 } }
  match r.2 with
  | some _ => raise .staticConflict 0 (enc [(6, e.mac), (2, e.vlan), (1, e.result % 128), (1, k.inPort)]) s1
  | none => s1

/-- Step 2 of R425 and learning (R443) of a frame stamped `ts`. -/
def learnFrame (k : Keys) (ts : Nat) (s : State) : State :=
  if !vlanPasses k s then s
  else
    let on := (portLearn k.inPort s).learn && (vlanOf k.vlan s).learn && !isGroup k.p.smac && decide (k.p.smac ≠ 0)
    match bridgeFind s.fwd.live k.vlan k.p.smac with
    | none => if on then postNote k ts s else s
    | some (slot, e) =>
      if e.bad then (if on then countLearn 8 s else s)
      else if isDynamic e then
        if e.result = ownNum k.inPort s then
          { s with fwd := { s.fwd with live := { s.fwd.live with
              bridge := Tbl.set none s.fwd.live.bridge slot (some { e with lastSeen := ts }) } } }
        else if on then postNote k ts s
        else s
      else if e.result ≠ ownNum k.inPort s then staticConflict k slot e s
      else s

/-! ### Cutting into cells and launching (R470 to R472, R485) -/

/-- Pipeline of a port (R18). -/
def pipeNum (p : Nat) : Nat := p / 16

/-- Pipeline `k`. -/
def pipeOf (k : Nat) (s : State) : Pipe := Tbl.get {} s.dp.pipe k

/-- Change pipeline `k`. -/
def updPipe (k : Nat) (f : Pipe → Pipe) (s : State) : State :=
  { s with dp := { s.dp with pipe := Tbl.upd {} s.dp.pipe k f } }

/-- Cells of a frame (R470). (DEDUCED: log entry 193) -/
def cellCount (len : Nat) : Nat := (len + 255) / 256

/-- The cells of a packet, numbered from a counter (R470, R471). (DEDUCED: log entry 193) -/
def cutCells (x : Packet) (seq : Nat) : List Cell :=
  let n := cellCount x.len
  (List.range n).map fun i => ⟨(seq + i) % 65536, decide (i = 0), decide (i + 1 = n), if i = 0 then some x else none⟩

/-- A copy dropped at launch (R472, R495). -/
def launchDrop (k d len : Nat) (s : State) : State :=
  let s1 := updPipe k (fun y =>
    { y with
      dropPkts := y.dropPkts.add64 1
      dropBytes := y.dropBytes.add64 len
      firstDeck := if y.unreported = 0 then d else y.firstDeck
      unreported := y.unreported + 1 }) s
  let s2 := countEvt 0x0E [(2, k)] 1 { s1 with dp := { s1.dp with launchDropSeen := s1.dp.launchDropSeen ||| BitVec.ofNat 8 (2 ^ k) } }
  let x := pipeOf k s2
  if reportDue x.report (sNs 10) s.elapsed then
    raise .launchDrop 0 (enc [(1, k), (1, x.firstDeck), (4, x.unreported)])
      (updPipe k (fun y => { y with report := some s.elapsed, unreported := 0 }) s2)
  else s2

/-- Launch queue capacity in cells (R472). -/
def launchCap : Nat := 128

/-- The ports of a set. -/
def portsIn (set : Nat) : List Nat := (List.range 128).filter fun p => bitOf set p

/-- A copy enters the launch queue of a Deck (R471, R472, R485); for a Deck that Keep leaves unpowered it is dropped like any
frame for a port that is down. -/
def launchCopy (x : Packet) (d : Nat) (s : State) : State :=
  let k := pipeNum x.inPort
  let ports := bitsOf x.ports (16 * d + 15) (16 * d) * 2 ^ (16 * d)
  if ports = 0 then s
  else if !s.dp.powered.contains d then forEach (portsIn ports) (fun p s => countLinkDrop p s) s
  else
    let q := Tbl.get [] (pipeOf k s).queues d
    let n := cellCount x.len
    if launchCap < q.length + n then launchDrop k d x.len s
    else
      let seq := Tbl.get 0 (pipeOf k s).seqs d
      updPipe k (fun y =>
        { y with
          queues := Tbl.set [] y.queues d (q ++ cutCells { x with ports := ports } seq)
          seqs := Tbl.set 0 y.seqs d ((seq + n) % 65536) }) s

/-- A packet is launched towards every local Deck that holds a target (R485, R486). -/
def launchLocal (x : Packet) (s : State) : State := forEach (List.range 8) (fun d s => launchCopy x d s) s

/-- Joint launch queue capacity in cells (R558). -/
def jointCap : Nat := 512

/-- A remote copy with targets `ports` enters the joint launch queue of its pipeline, for Deck `d` of the partner (R557,
R558). (DEDUCED: log entry 227) -/
def launchRemote (x : Packet) (d ports : Nat) (s : State) : State :=
  if ports = 0 then s
  else
    let k := pipeNum x.inPort
    let q := Tbl.get [] s.span.launchq k
    let n := cellCount x.len
    if jointCap < q.length + n then countSpan 3 1 s
    else
      let seq := Tbl.get 0 s.span.seqs (k * 8 + d)
      let cells := (cutCells { x with ports := ports } seq).map fun c => (d, c)
      countSpan 0 1 { s with span := { s.span with
        launchq := Tbl.set [] s.span.launchq k (q ++ cells)
        seqs := Tbl.set 0 s.span.seqs (k * 8 + d) ((seq + n) % 65536) } }

/-- The remote copies of a packet: one for each remote Deck, and one that the partner floods (R552, R557). -/
def launchAway (x : Packet) (s : State) : State :=
  let s1 := forEach (List.range 8) (fun d s =>
    launchRemote x d (bitsOf x.ports (128 + 16 * d + 15) (128 + 16 * d) * 2 ^ (16 * d)) s) s
  if bitOf x.ports 256 then launchRemote x 0 (2 ^ 256) s1 else s1

/-- A packet is launched towards every Deck that holds a target (R485, R486, R557). -/
def launch (x : Packet) (s : State) : State := if x.ports < 2 ^ 128 then launchLocal x s else launchAway x (launchLocal x s)

/-! ### The pipeline -/

/-- A drop of the forwarding decision (R425 to R433, R436). -/
def forwardDrop (k : Keys) (n : Nat) (s : State) : State :=
  if n = dRemote then countSpan 4 1 s
  else
  let s1 := { s with fwd := { s.fwd with drops := Tbl.upd {} s.fwd.drops n (fun c => c.add64 1) } }
  let s2 := countEvt 0x0B [(2, pipeNum k.inPort)] 1 s1
  if n = dOverrun then countEvt 0x0C [(2, pipeNum k.inPort)] 1 s2 else s2

/-- The packet of a decided frame. -/
def packetOf (k : Keys) (d : Decision) (c : Classed) (colour : Nat) (s : State) : Packet :=
  match d with
  | .to ports vlan pops rw =>
    { dmac := (rw.map fun r => r.dmac).getD k.p.dmac
      smac := (rw.map fun r => r.smac).getD k.p.smac
      tpid := outTpid k
      vlan := vlan
      untagged := (vlanOf vlan s).untagged
      pcpDei := k.pcpDei
      body := (rw.map fun r => routedBody k pops r (Config.freeByte s.freeCtr)).getD (bridgedBody k)
      len := k.p.bytes.length
      inPort := k.inPort
      cls := c.cls
      colour := colour
      queue := c.queue
      ports := ports }
  | _ =>
    { dmac := 0, smac := 0, tpid := 0, vlan := 0, untagged := 0, pcpDei := 0, body := [], len := 0, inPort := k.inPort,
      cls := 0, colour := 0, queue := 0, ports := 0 }

/-- Carry out a decision on a classified frame: drop, punt, or meter and launch (R368, R387, R390, R428). -/
def carryOut (k : Keys) (d : Decision) (c : Classed) (s : State) : State :=
  match d with
  | .drop n => forwardDrop k n s
  | .punt reason cls => puntFrame k reason cls s
  | .to _ _ _ _ =>
    if ttlExpired k d then (if s.fwd.puntTtl then puntFrame k 3 0 s else forwardDrop k dTtl s)
    else
      let m := meterFrame k.inPort c.cls c.colour k.p.bytes.length s
      if m.2.1 then m.2.2 else launch (packetOf k d c m.1 s) (bumpFree m.2.2)

/-- Life of a follow entry (R402), and the instant it becomes visible, 32 pipeline clocks after its lookup (R401). -/
def followLife : Nat := 250000000
def followDelay : Nat := 24

/-- The entries of a set that have not expired. -/
def liveFollow (now : Nat) (l : List Follow) : List Follow := l.filter fun f => decide (now < f.at0 + followLife)

/-- The set of a key. (DESIGN CHOICE: log entry 155) -/
def followSetOf (key : List Byte) : Nat := Config.followSet key % 1024

/-- The follow entry a later fragment hits (R401 to R403, R420). (DESIGN CHOICE: log entry 156) -/
def followHit (key : List Byte) (s : State) : Option Follow :=
  (liveFollow s.elapsed (Tbl.get [] s.cls.follow (followSetOf key))).find? fun f =>
    decide (f.key = key) && !f.bad && decide (f.at0 + followDelay ≤ s.elapsed)

/-- EV_FRAG_FULL, at most once per 10 s (R401, R417). -/
def fragFull (s : State) : State :=
  let n := s.cls.unreportedFragFull + 1
  let s1 := { s with cls := { s.cls with followFull := s.cls.followFull.add64 1, unreportedFragFull := n } }
  if reportDue s.cls.lastFragFull (sNs 10) s.elapsed then
    raise .fragFull 0 (be 4 n) { s1 with cls := { s1.cls with lastFragFull := some s.elapsed, unreportedFragFull := 0 } }
  else s1

/-- Install a follow entry (R400, R401). (DEDUCED: log entry 157) -/
def installFollow (k : Keys) (d : Decision) (c : Classed) (s : State) : State :=
  let key := followKey k
  let i := followSetOf key
  let set := (liveFollow s.elapsed (Tbl.get [] s.cls.follow i)).filter fun f => decide (f.key ≠ key)
  if 4 ≤ set.length then fragFull s
  else
    { s with cls := { s.cls with
        follow := Tbl.set [] s.cls.follow i (set ++ [⟨key, d, c.cls, c.colour, c.queue, s.elapsed, false⟩])
        followInstalled := s.cls.followInstalled.add64 1 } }

/-- A frame with its class passes the ingress capture point (R701), then its decision is carried out. (DEDUCED: log entry 166) -/
def carryCaptured (k : Keys) (ts : Nat) (d : Decision) (c : Classed) (s : State) : State :=
  carryOut k d c (captureFrame k.inPort false k.p.bytes ts c.cls c.queue s)

/-- A frame through the pipeline after parsing (R368, R399 to R404); `reinjected` fragments of punt mode are handled as in
follow mode (R408). -/
def pipeline (k : Keys) (ts : Nat) (trie : TrieRead) (reinjected : Bool) (s : State) : State :=
  let punts := (portClass k.inPort s).punt && !reinjected
  if k.p.frag ≠ 0 ∧ punts then puntFrame k 2 2 s
  else if k.p.frag = 2 then
    match followHit (followKey k) s with
    | some f =>
      carryCaptured k ts f.dec ⟨f.cls, f.colour, f.queue⟩ { s with cls := { s.cls with followHits := s.cls.followHits.add64 1 } }
    | none => puntFrame k 1 1 { s with cls := { s.cls with followMisses := s.cls.followMisses.add64 1 } }
  else
    let d := decideFrame k trie s
    let c := classify k s
    carryCaptured k ts d c.1 (if k.p.frag = 1 then installFollow k d c.1 c.2 else c.2)

/-- A SCADA frame whose extraction failed is counted (R377). -/
def countScada (k : Keys) (s : State) : State :=
  if k.unparsed then { s with cls := { s.cls with scadaUnparsed := s.cls.scadaUnparsed.add64 1 } } else s

/-- A frame enters the ingress pipeline of a port with its FCS, stamped `ts` (R368, R331). -/
def ingress (port : Nat) (frame : List Byte) (ts : Nat) (trie : TrieRead) (s : State) : State :=
  if dataPlaneMode s.sup.mode then
    let k := keysOf port frame s
    pipeline k ts trie false (learnFrame k ts (countScada k s))
  else s

end Sys2Proof.Machine
end

