-- ==== Sys2Proof/Machine/Tables.lean ====
section
/-! DEFINITION. Machine/Tables.lean: the commands of the forwarding tables, learning and table protection
(R437 to R449, R456 to R466). -/

namespace Sys2Proof.Machine

open Sys2Proof

/-! ### Settings -/

/-- A router MAC entry of FWD_CONFIG_SET. -/
def routerOf (p : List Byte) (i : Nat) : RouterMac := { mac := field p (16 + 8 * i) 6, vlan := f2 p (22 + 8 * i) }

/-- VLAN of a router MAC entry: 0 any, 1 to 4,094, or 0xFFFF. -/
def routerVlanOk (v : Nat) : Bool := decide (v ≤ 4094 ∨ v = 0xFFFF)

/-- Fields of FWD_CONFIG_SET in range (R456 table, R457). -/
def fwdFieldsOk (p : List Byte) : Bool :=
  decide (16 ≤ f4 p 4) && decide (f4 p 4 ≤ 983040) &&
    (decide (f4 p 8 = 0) || (decide (10 ≤ f4 p 8) && decide (f4 p 8 ≤ 1000000))) &&
    (List.range 16).all fun i => routerVlanOk (routerOf p i).vlan

/-- Apply an FWD_CONFIG_SET payload. -/
def setFwd (p : List Byte) (s : State) : State :=
  let f := s.fwd
  { s with fwd :=
      { f with
        protect := f1 p 0
        protectOld := if f1 p 0 = f.protect then f.protectOld else f.protect
        protectAt := if f1 p 0 = f.protect then f.protectAt else some s.elapsed
        puntTtl := bitOf (f1 p 1) 0
        labelBase := f4 p 4
        ageS := f4 p 8
        seed := f4 p 12
        router := (List.range 16).map (routerOf p) } }

/-- A successful command on mirrored state is sent to the Span follower (R551). -/
def mirrored (kind : Nat) (p : List Byte) (b : Body) : Body :=
  match b with
  | .ok (s, r) => .ok (mirror kind p s, r)
  | .error e => .error e

/-- FWD_CONFIG_SET (R457). -/
def fwdConfigSetBody (q : Req) (s : State) : Body :=
  checks [lenIs q 144, (fwdFieldsOk q.payload, .tableParam)] (mirrored 2 q.payload (okEmpty (setFwd q.payload s)))

/-- The settings in the layout of FWD_CONFIG_SET. -/
def fwdBytes (s : State) : List Byte :=
  let f := s.fwd
  enc [(1, f.protect), (1, b2n f.puntTtl), (2, 0), (4, f.labelBase), (4, f.ageS), (4, f.seed)] ++
    f.router.flatMap fun r => enc [(6, r.mac), (2, r.vlan)]

/-- FWD_CONFIG_GET. -/
def fwdConfigGetBody (q : Req) (s : State) : Body := checks [lenIs q 0] (okResp s (fwdBytes s))

/-- The entry of a VLAN_SET payload. -/
def vlanEntryOf (p : List Byte) : VlanEntry where
  valid := bitOf (f1 p 2) 7
  learn := bitOf (f1 p 2) 0
  routed := bitOf (f1 p 2) 1
  flood := bitOf (f1 p 2) 2
  members := field p 4 16
  untagged := field p 20 16

/-- A VLAN_SET payload is in range (R458): UNTAGGED lies within MEMBERS. -/
def vlanOk (p : List Byte) : Bool :=
  decide (1 ≤ f2 p 0) && decide (f2 p 0 ≤ 4094) && decide (field p 20 16 &&& field p 4 16 = field p 20 16)

/-- Apply a VLAN_SET payload; clearing VALID removes the VLAN's dynamic entries (R458). -/
def setVlan (p : List Byte) (s : State) : State :=
  let s1 := { s with fwd := { s.fwd with vlan := Tbl.set {} s.fwd.vlan (f2 p 0) (vlanEntryOf p) } }
  if bitOf (f1 p 2) 7 then s1 else removeDynamic (fun e => decide (e.vlan = f2 p 0)) s1

/-- VLAN_SET. -/
def vlanSetBody (q : Req) (s : State) : Body := checks [lenIs q 36, (vlanOk q.payload, .vlanParam)] (okEmpty (setVlan q.payload s))

/-- Apply a PORT_LEARN_SET payload. -/
def setPortLearn (p : List Byte) (s : State) : State :=
  { s with fwd := { s.fwd with
      learn := Tbl.set {} s.fwd.learn (f1 p 0) ⟨bitOf (f1 p 1) 0, bitOf (f1 p 1) 1, f2 p 2⟩ } }

/-- PORT_LEARN_SET (R458). -/
def portLearnSetBody (q : Req) (s : State) : Body :=
  checks [lenIs q 4, (decide (f1 q.payload 0 ≤ 127), .portNone)] (okEmpty (setPortLearn q.payload s))

/-! ### Bridge entries -/

/-- A RESULT is one R430 defines; a Span port number where the tables hold those (R552). -/
def resultOk (s : State) (r : Nat) : Bool :=
  if bitOf r 31 then decide (r % 2 ^ 31 < 2 ^ 17) && (!bitOf r 16 || decide (r % 65536 < 4096)) else decide (r ≤ 127 ∨ s.span.spanPorts ∧ r ≤ 255)

/-- A slot of the bridge table may be written: it is free in the live table and not written under the pending
generation (R454, R463). -/
def slotFree (k : Nat) (s : State) : Bool := (Tbl.get none s.fwd.live.bridge k).isNone && !s.fwd.pendSlots.contains k

/-- The first free way of a bridge key's bucket. -/
def freeWay (vlan mac : Nat) (s : State) : Option Nat :=
  ((List.range 8).map (bridgeBucket vlan mac * 8 + ·)).find? fun k => slotFree k s

/-- Write a slot of the live bridge table. -/
def putBridge (k : Nat) (e : Option BEntry) (s : State) : State :=
  { s with fwd := { s.fwd with live := { s.fwd.live with bridge := Tbl.set none s.fwd.live.bridge k e } } }

/-- BRIDGE_ENTRY_SET, ACT 0 (R459). -/
def bridgeAdd (vlan mac result : Nat) (static : Bool) (s : State) : Body :=
  let e : BEntry := ⟨vlan, mac, static, false, false, result, if static then 0 else s.tb.now, false⟩
  match bridgeFind s.fwd.live vlan mac with
  | some (k, old) =>
    if old.image || (old.static && !static) then .error .tableStatic else okEmpty (putBridge k (some e) s)
  | none =>
    match freeWay vlan mac s with
    | some k => okEmpty (putBridge k (some e) s)
    | none => .error .tableFull

/-- BRIDGE_ENTRY_SET, ACT 1 (R459). -/
def bridgeDelete (vlan mac : Nat) (s : State) : Body :=
  match bridgeFind s.fwd.live vlan mac with
  | some (k, old) => if old.image then .error .tableStatic else okEmpty (putBridge k none s)
  | none => .error .tableNotFound

/-- Fields of BRIDGE_ENTRY_SET in range (R459): RESULT counts where it is written. (DEDUCED: log entry 172) -/
def bridgeFieldsOk (s : State) (p : List Byte) : Bool :=
  decide (f1 p 0 ≤ 1) && decide (1 ≤ f2 p 2) && decide (f2 p 2 ≤ 4094) && decide (field p 4 6 ≠ 0) &&
    (decide (f1 p 0 = 1) || resultOk s (f4 p 10))

/-- BRIDGE_ENTRY_SET. (DEDUCED: log entry 172) -/
def bridgeEntrySetBody (q : Req) (s : State) : Body :=
  let p := q.payload
  checks [lenIs q 16, (bridgeFieldsOk s p, .tableParam)]
    (mirrored 0 p (if f1 p 0 = 0 then bridgeAdd (f2 p 2) (field p 4 6) (f4 p 10) (bitOf (f1 p 1) 0) s
      else bridgeDelete (f2 p 2) (field p 4 6) s))

/-- The dynamic entries a BRIDGE_FLUSH names. -/
def flushMatches (p : List Byte) (e : BEntry) : Bool :=
  (decide (f1 p 0 = 0xFF) || decide (e.result = f1 p 0)) && (decide (f2 p 2 = 0) || decide (e.vlan = f2 p 2))

/-- BRIDGE_FLUSH (R459). (DEDUCED: log entry 182) -/
def bridgeFlushBody (q : Req) (s : State) : Body :=
  let p := q.payload
  checks [lenIs q 4, (decide (f1 p 0 ≤ 127 ∨ f1 p 0 = 0xFF) || s.span.spanPorts, .portNone), (decide (f2 p 2 ≤ 4094), .tableParam)]
    (mirrored 1 p (okResp (removeDynamic (flushMatches p) s) (be 4 (countDynamic (flushMatches p) s))))

/-! ### Lookups for management -/

/-- An answer of TABLE_LOOKUP. -/
structure Found where
  flags : Nat
  matchLen : Nat := 0
  index : Nat
  result : List Byte
  lastSeen : Nat := 0
deriving DecidableEq, Repr

/-- FLAGS of an image entry. -/
def imageFlags (keep bad : Bool) : Nat := flags [false, keep, bad, false, true]

/-- The next hop's fields after its index (R451). -/
def nextHopBytes (n : NextHop) : List Byte :=
  enc [(1, n.kind), (1, n.port), (2, n.vlan), (6, n.dmac), (1, n.smacIndex), (1, n.mplsOp), (4, n.label), (2, n.portSet), (2, 0)]

/-- The longest prefix of at most `len` bits that covers an address. (DEDUCED: log entry 174) -/
def routeUpTo (l : List Route) (af addr len : Nat) : Option Route := routeLookup (l.filter fun r => decide (r.len ≤ len)) af addr

/-- Look a key up in one generation's tables. -/
def tableFind (tb : Tables) (table : Nat) (key : List Byte) (s : State) : Option Found :=
  let af := f1 key 0
  let addr := fun (off : Nat) => if af = 4 then f4 key off else field key off 16
  match table with
  | 1 => (bridgeFind tb (f2 key 0) (field key 2 6)).map fun x =>
      { flags := flags [x.2.static, x.2.keep, x.2.bad, false, x.2.image], index := x.1, result := be 4 x.2.result,
        lastSeen := if isDynamic x.2 then x.2.lastSeen else 0 }
  | 2 => (hostFind tb af (addr 2)).map fun x =>
      { flags := imageFlags x.2.keep x.2.bad, index := x.1, result := be 4 x.2.ref }
  | 3 =>
    if f4 key 0 < s.fwd.labelBase then none
    else (Tbl.get none tb.label (f4 key 0 - s.fwd.labelBase)).map fun x =>
      { flags := imageFlags x.keep x.bad, index := f4 key 0 - s.fwd.labelBase, result := enc [(1, x.op), (3, 0), (4, x.ref)] }
  | 4 => (routeUpTo tb.route af (addr 4) (f1 key 1)).map fun r =>
      { flags := imageFlags r.keep (tb.badRoots.contains (rootSlot af (addr 4))), matchLen := r.len,
        index := Config.freeNat s.freeCtr % 2 ^ 32, result := be 4 r.ref }
  | 5 => (Tbl.get none tb.nexthop (f2 key 0)).map fun n =>
      { flags := imageFlags n.keep n.bad, index := f2 key 0, result := nextHopBytes n }
  | 6 => (Tbl.get none tb.ecmp (f2 key 0)).map fun g =>
      { flags := imageFlags g.keep g.bad, index := f2 key 0, result := enc [(1, g.members.length), (1, 0)] ++ g.members.flatMap (be 2) }
  | 7 => (Tbl.get none tb.portset (f2 key 0)).map fun g =>
      { flags := imageFlags g.keep g.bad, index := f2 key 0, result := enc [(2, 0), (16, g.set)] }
  | _ =>
    let v := vlanOf (f2 key 0) s
    if v.valid then
      some { flags := flags [false, false, v.bad], index := f2 key 0,
             result := enc [(1, flags [v.learn, v.routed, v.flood, false, false, false, false, v.valid]), (1, 0), (16, v.members),
               (16, v.untagged)] }
    else none

/-- The response of TABLE_LOOKUP. -/
def foundBytes (x : Option Found) (pending : Bool) : List Byte :=
  match x with
  | none => List.replicate 58 0
  | some r => enc [(1, 1), (1, r.flags + (if pending then 8 else 0)), (1, r.matchLen), (1, 0), (4, r.index)] ++
      padTo 40 r.result ++ tb10 r.lastSeen

/-- TABLE_LOOKUP: the live generation, or else the pending one. (DEDUCED: log entry 174) -/
def tableLookupResp (p : List Byte) (s : State) : List Byte :=
  let key := p.drop 4
  match tableFind s.fwd.live (f1 p 0) key s with
  | some r => foundBytes (some r) false
  | none =>
    match s.fwd.pend with
    | some g => foundBytes (if f1 p 0 = 8 then none else tableFind g (f1 p 0) key s) true
    | none => foundBytes none false

/-- A key's address family is 4 or 6 where it has one. -/
def keyFamilyOk (p : List Byte) : Bool :=
  if f1 p 0 = 2 ∨ f1 p 0 = 4 then decide (f1 p 4 = 4 ∨ f1 p 4 = 6) else true

/-- TABLE_LOOKUP (R456). -/
def tableLookupBody (q : Req) (s : State) : Body :=
  let p := q.payload
  checks [lenIs q 24, (decide (1 ≤ f1 p 0) && decide (f1 p 0 ≤ 8) && keyFamilyOk p, .tableParam)]
    (okResp (bumpFree s) (tableLookupResp p s))

/-- The root slots a route takes, as a prefix of at most 16 bits. (DEDUCED: log entry 175) -/
def rootSpan (r : Route) : Nat × Nat × Nat :=
  let n := min r.len 16
  (r.af, n, r.pfx / 2 ^ (afBits r.af - n))

/-- A span lies in another, shorter one. -/
def spanWithin (a b : Nat × Nat × Nat) : Bool :=
  decide (a.1 = b.1) && decide (b.2.1 < a.2.1) && decide (a.2.2 / 2 ^ (a.2.1 - b.2.1) = b.2.2)

/-- Root slots in use: the union of the spans. (DEDUCED: log entry 175) -/
def rootUsed (l : List Route) : Nat :=
  let spans := (l.map rootSpan).foldl (fun a x => if a.contains x then a else a ++ [x]) []
  ((spans.filter fun x => !spans.any fun y => spanWithin x y).map fun x => 2 ^ (16 - x.2.1)).sum

/-- Slots the host table uses (R429). -/
def hostUsed (t : Tbl (Option HEntry)) : Nat :=
  (t.map fun x =>
    match x.2 with
    | some e => if e.af = 4 then 1 else 2
    | none => 0).sum

/-- USED of a protection group (R439, TABLE_STATUS_GET). -/
def groupUsed (g : Nat) (s : State) : Nat :=
  let l := s.fwd.live
  match g with
  | 0 => l.bridge.length
  | 1 => hostUsed l.host
  | 2 => l.label.length
  | 3 => rootUsed l.route
  | 4 => l.nexthop.length + l.portset.length
  | 5 => l.ecmp.length
  | 6 => (s.cls.follow.map fun x => x.2.length).sum
  | _ => (s.fwd.vlan.filter fun x => x.2.valid).length + (s.fwd.router.filter fun r => decide (r.vlan ≠ 0xFFFF)).length

/-- CAPACITY of a protection group (R429). -/
def groupCap (g : Nat) : Nat :=
  match g with
  | 0 => 262144
  | 1 => 131072
  | 2 => 65536
  | 3 => 131072
  | 4 => 65536 + 4096
  | 5 => 4096
  | 6 => 4096
  | _ => 4094 + 16

/-- A protection group. -/
def groupOf (g : Nat) (s : State) : Group := Tbl.get {} s.fwd.groups g

/-- The counters of TABLE_STATUS_GET in offset order. -/
def tableCounters (s : State) : List Ctr :=
  (List.range 8).flatMap (fun g => [(groupOf g s).corrected, (groupOf g s).uncorrectable]) ++
    (List.range 11).map (Tbl.get {} s.fwd.learnCtrs) ++ (List.range 11).map (Tbl.get {} s.fwd.drops)

/-- TABLE_STATUS_GET response. -/
def tableStatusResp (s : State) : List Byte :=
  be 8 (flags ((tableCounters s).map fun c => c.ovf)) ++ tb10 s.tb.now ++ be 2 0 ++
    ((List.range 8).flatMap fun g => enc [(4, groupUsed g s), (4, groupCap g), (8, (groupOf g s).corrected.val),
      (8, (groupOf g s).uncorrectable.val)]) ++
    ((List.range 11).flatMap fun i => be 8 (Tbl.get {} s.fwd.learnCtrs i).val) ++
    (List.range 11).flatMap fun i => be 8 (Tbl.get {} s.fwd.drops i).val

/-- TABLE_STATUS_GET. -/
def tableStatusGetBody (q : Req) (s : State) : Body := checks [lenIs q 0] (okResp s (tableStatusResp s))

/-! ### Learning (R444 to R448) -/

/-- LEARN_WINDOW_END: the oldest window that has lasted 1 ms ends (R444). -/
def learnWindowEndEffect (t : Nat) (s0 : State) : State :=
  let s := advance t s0
  match s.fwd.windows.find? fun w => decide (w.start + windowNs ≤ s.tb.now) with
  | none => s
  | some w =>
    let rest := s.fwd.windows.filter fun x => decide (x ≠ w)
    postResult w { s with fwd := { s.fwd with windows := rest } }

/-- Dynamic entries that point to a port. -/
def dynamicOn (p : Nat) (s : State) : Nat := countDynamic (fun e => resultIsPort p e.result) s

/-- Bridge entries of Keep (R437). -/
def keepBridgeMax : Nat := 32768

/-- The port a result decides on, and the latest stamp of its window (R445). -/
def resultPort (r : LearnResult) : Nat := lowestPort (candidates r.notes)

/-- Insert a learned entry, or refuse it (R446). (DEDUCED: log entry 171) -/
def learnInsert (r : LearnResult) (s : State) : State :=
  let port := resultPort r
  let limit := if port / 128 = ownNum 0 s / 128 then (portLearn (port % 128) s).limit else 0
  match freeWay r.vlan r.mac s with
  | none => learnRefused 0 (countLearn 6 s)
  | some k =>
    if limit ≠ 0 ∧ limit ≤ dynamicOn port s then learnRefused 1 (countLearn 7 s)
    else if s.sup.mode = .keep ∧ keepBridgeMax ≤ s.fwd.live.bridge.length then learnRefused 2 s
    else
      let e : BEntry := ⟨r.vlan, r.mac, false, false, false, port, latestStamp r.notes, false⟩
      mirror 3 (enc [(2, r.vlan), (6, r.mac), (4, port)]) (countLearn 10 (putBridge k (some e) s))

/-- The control core acts on a result (R446). (DEDUCED: log entry 171) -/
def applyLearn (r : LearnResult) (s : State) : State :=
  match bridgeFind s.fwd.live r.vlan r.mac with
  | none => learnInsert r s
  | some (k, e) =>
    let port := resultPort r
    if isDynamic e ∧ e.result ≠ port then
      mirror 3 (enc [(2, r.vlan), (6, r.mac), (4, port)]) (countEvt 0x18 [] 1 (countLearn 3
        (putBridge k (some { e with result := port, lastSeen := latestStamp r.notes }) s)))
    else s

/-- LEARN_RESULT: the oldest posted result (R446). -/
def learnResultEffect (t : Nat) (s0 : State) : State :=
  let s := advance t s0
  match s.fwd.results with
  | [] => s
  | r :: rest =>
    if dataPlaneMode s.sup.mode ∧ !ctlHalted s then applyLearn r { s with fwd := { s.fwd with results := rest } } else s

/-- A dynamic entry has reached its age (R448). -/
def aged (s : State) (e : BEntry) : Bool := decide (e.lastSeen + sNs s.fwd.ageS ≤ s.tb.now)

/-- Key and LAST_SEEN of the dynamic entries that `p` names. -/
def dynamicKeys (p : BEntry → Bool) (s : State) : List (Nat × Nat × Nat) :=
  s.fwd.live.bridge.filterMap fun x =>
    match x.2 with
    | some e => if isDynamic e && p e then some (e.vlan, e.mac, e.lastSeen) else none
    | none => none

/-- AGING_SWEEP (R448); in Span the leader runs aging, and the follower sends it what it has refreshed since its last sweep
(R556). (DEDUCED: log entry 180) -/
def agingSweepEffect (t : Nat) (s0 : State) : State :=
  let s := advance t s0
  if spanFollows s then
    let l := dynamicKeys (fun e => decide (s.fwd.sweepAt < e.lastSeen)) s
    sendVc0 (.relay (.lastSeen l)) { s with fwd := { s.fwd with sweepAt := s.tb.now } }
  else if dataPlaneMode s.sup.mode ∧ s.fwd.ageS ≠ 0 then
    let gone := dynamicKeys (aged s) s
    let s1 := removeDynamic (aged s) s
    let s2 := { s1 with fwd := { s1.fwd with learnCtrs := Tbl.upd {} s1.fwd.learnCtrs 4 (fun c => c.add64 gone.length) } }
    forEach gone (fun k s => mirror 4 (enc [(2, k.1), (6, k.2.1)]) s) s2
  else s

/-! ### Protection (R439 to R442) -/

/-- Change a protection group. -/
def updGroup (g : Nat) (f : Group → Group) (s : State) : State :=
  { s with fwd := { s.fwd with groups := Tbl.upd {} s.fwd.groups g f } }

/-- EV_TABLE_ERROR, at most once per group per second (R440). (DESIGN CHOICE: log entry 177) -/
def tableErrorEvent (g index kind : Nat) (repaired : Bool) (s : State) : State :=
  let s1 := updGroup g (fun y => { y with unreported := y.unreported + 1 }) s
  let x := groupOf g s1
  if reportDue x.lastEvent (sNs 1) s.elapsed then
    raise .tableError 0 (enc [(1, g), (4, index), (1, kind), (1, b2n repaired), (4, x.unreported)])
      (updGroup g (fun y => { y with lastEvent := some s.elapsed, unreported := 0 }) s1)
  else s1

/-- Group `g` is under ECC; for 100 ms after a change an entry may still be checked under the old setting (R457).
(DESIGN CHOICE: log entry 178) -/
def underEcc (g : Nat) (s : State) : Bool :=
  let recent := s.fwd.protectAt.any fun a => decide (s.elapsed < a + msNs 100)
  if recent ∧ bitOf s.fwd.protectOld g ≠ bitOf s.fwd.protect g then Config.freeBool s.freeCtr else bitOf s.fwd.protect g

/-- A correctable error: the corrected value is used and rewritten (R440, R727). -/
def tableCorrected (g index : Nat) (s : State) : State :=
  let s1 := updGroup g (fun y => { y with corrected := y.corrected.add64 1 }) (tallyAdd 6 1 (countEvt 0x1B [] 1 s))
  tableErrorEvent g index 0 true { s1 with fwd := { s1.fwd with corrSeen := s1.fwd.corrSeen ||| BitVec.ofNat 8 (2 ^ g) } }

/-- An uncorrectable error is counted (R440). (DEDUCED: log entry 176) -/
def tableUncorrectable (g : Nat) (s : State) : State :=
  let s1 := updGroup g (fun y => { y with uncorrectable := y.uncorrectable.add64 1 }) s
  { s1 with fwd := { s1.fwd with uncorrSeen := s1.fwd.uncorrSeen ||| BitVec.ofNat 8 (2 ^ g) } }

/-- Change the live tables. -/
def updLive (f : Tables → Tables) (s : State) : State := { s with fwd := { s.fwd with live := f s.fwd.live } }

/-- Set the BAD mark of an entry of an optional kind. -/
def markOpt {α : Type} [DecidableEq α] (t : Tbl (Option α)) (i : Nat) (f : α → α) : Tbl (Option α) := Tbl.upd none t i (Option.map f)

/-- Index of the first port set in group NEXT_HOP, and of the first router MAC in group VLAN (R439). (DESIGN CHOICE: log entry 177) -/
def portSetBase : Nat := 65536
def routerBase : Nat := 4096

/-- Set or clear the BAD mark of the entry at an index of a group. -/
def setBad (g i : Nat) (b : Bool) (s : State) : State :=
  match g with
  | 0 => updLive (fun l => { l with bridge := markOpt l.bridge i (fun e => { e with bad := b }) }) s
  | 1 => updLive (fun l => { l with host := markOpt l.host i (fun e => { e with bad := b }) }) s
  | 2 => updLive (fun l => { l with label := markOpt l.label i (fun e => { e with bad := b }) }) s
  | 3 => updLive (fun l => { l with badRoots := if b then i :: l.badRoots else l.badRoots.filter fun x => decide (x ≠ i) }) s
  | 4 =>
    if i < portSetBase then updLive (fun l => { l with nexthop := markOpt l.nexthop i (fun e => { e with bad := b }) }) s
    else updLive (fun l => { l with portset := markOpt l.portset (i - portSetBase) (fun e => { e with bad := b }) }) s
  | 5 => updLive (fun l => { l with ecmp := markOpt l.ecmp i (fun e => { e with bad := b }) }) s
  | 7 =>
    if i < routerBase then { s with fwd := { s.fwd with vlan := Tbl.upd {} s.fwd.vlan i (fun e => { e with bad := b }) } }
    else { s with fwd := { s.fwd with router := s.fwd.router.modify (i - routerBase) (fun e => { e with bad := b }) } }
  | _ => s

/-- The entry at an index of a group, where there is one: whether it is BAD. -/
def badOf (g i : Nat) (s : State) : Option Bool :=
  let l := s.fwd.live
  match g with
  | 0 => (Tbl.get none l.bridge i).map fun e => e.bad
  | 1 => (Tbl.get none l.host i).map fun e => e.bad
  | 2 => (Tbl.get none l.label i).map fun e => e.bad
  | 3 => if i < 131072 then some (l.badRoots.contains i) else none
  | 4 =>
    if i < portSetBase then (Tbl.get none l.nexthop i).map fun e => e.bad
    else (Tbl.get none l.portset (i - portSetBase)).map fun e => e.bad
  | 5 => (Tbl.get none l.ecmp i).map fun e => e.bad
  | 6 => ((Tbl.get [] s.cls.follow (i / 4))[i % 4]?).map fun f => f.bad
  | _ =>
    if i < routerBase then (if (vlanOf i s).valid then some (vlanOf i s).bad else none)
    else (s.fwd.router[i - routerBase]?).bind fun r => if r.vlan = 0xFFFF then none else some r.bad

/-- An entry that no record holds: a bridge entry that is no image entry, or a follow entry; it is removed at once (R442).
(DEDUCED: log entry 176) -/
def removedAtOnce (g i : Nat) (s : State) : Bool :=
  match g with
  | 0 => (Tbl.get none s.fwd.live.bridge i).any fun e => !e.image
  | 6 => true
  | _ => false

/-- Remove it. -/
def removeEntry (g i : Nat) (s : State) : State :=
  if g = 0 then putBridge i none s
  else { s with cls := { s.cls with follow := Tbl.upd [] s.cls.follow (i / 4) (fun l => l.eraseIdx (i % 4)) } }

/-- A check of an entry finds an error: `double` is one that ECC does not correct (R440, R442). An entry that is to be
rewritten is reported once that is done. -/
def tableCheckFails (g i : Nat) (double : Bool) (s : State) : State :=
  match badOf g i s with
  | none => s
  | some true => s
  | some false =>
    if underEcc g s && !double then tableCorrected g i (bumpFree s)
    else if removedAtOnce g i s then tableErrorEvent g i 1 false (removeEntry g i (tableUncorrectable g (bumpFree s)))
    else setBad g i true (tableUncorrectable g (bumpFree s))

/-- TABLE_SCRUB (R439): the entry at `index` of group `g` has an error. -/
def tableScrubEffect (t : Nat) (g : Fin 8) (index : Nat) (double : Bool) (s0 : State) : State :=
  let s := advance t s0
  if dataPlaneMode s.sup.mode then tableCheckFails g index double s else s

/-- TABLE_REPAIR (R442): the rewrite of a BAD entry, which may fail. -/
def tableRepairEffect (t : Nat) (g : Fin 8) (index : Nat) (ok : Bool) (s0 : State) : State :=
  let s := advance t s0
  match badOf g index s with
  | some true =>
    if dataPlaneMode s.sup.mode ∧ !ctlHalted s then tableErrorEvent g index 1 ok (if ok then setBad g index false s else s) else s
  | _ => s

/-- Group of the route root, under which a DRAM report is counted. -/
def gRoot : Nat := 3

/-- A routed frame's trie read comes back uncorrectable (R442, R588, R589): under Report the owner rewrites the line, under
Freeze the module freezes; the lookup is a miss either way. -/
def trieReadBad (c line beats : Nat) (s : State) : State :=
  let off := line * 64
  let r := if s.sup.mode = .keep then 1 else 0
  let s1 := updChan c (fun x => { x with uncorrectable := x.uncorrectable.add32 1, uncorrSeen := true }) s
  if (policyOf r s).dataFreeze then
    tableErrorEvent gRoot line 2 false
      (dramFreeze c r 1 0 beats off (updChan c (fun x => { x with badLines := Tbl.set 0 x.badLines off beats }) s1))
  else tableErrorEvent gRoot line 2 false (queueRepair c r off 0 beats s1)

/-! ### The meanings -/

/-- FWD_CONFIG_SET. -/
def execFwdConfigSet (q : Req) (s : State) : Host.Outcome State Fault Refusal :=
  .next (kmpExec .fwdConfigSet q (fwdConfigSetBody q) s)

/-- FWD_CONFIG_GET. -/
def execFwdConfigGet (q : Req) (s : State) : Host.Outcome State Fault Refusal :=
  .next (kmpExec .fwdConfigGet q (fwdConfigGetBody q) s)

/-- VLAN_SET. -/
def execVlanSet (q : Req) (s : State) : Host.Outcome State Fault Refusal :=
  .next (kmpExec .vlanSet q (vlanSetBody q) s)

/-- PORT_LEARN_SET. -/
def execPortLearnSet (q : Req) (s : State) : Host.Outcome State Fault Refusal :=
  .next (kmpExec .portLearnSet q (portLearnSetBody q) s)

/-- BRIDGE_ENTRY_SET. -/
def execBridgeEntrySet (q : Req) (s : State) : Host.Outcome State Fault Refusal :=
  .next (kmpExec .bridgeEntrySet q (bridgeEntrySetBody q) s)

/-- BRIDGE_FLUSH. -/
def execBridgeFlush (q : Req) (s : State) : Host.Outcome State Fault Refusal :=
  .next (kmpExec .bridgeFlush q (bridgeFlushBody q) s)

/-- TABLE_LOOKUP. -/
def execTableLookup (q : Req) (s : State) : Host.Outcome State Fault Refusal :=
  .next (kmpExec .tableLookup q (tableLookupBody q) s)

/-- TABLE_STATUS_GET. -/
def execTableStatusGet (q : Req) (s : State) : Host.Outcome State Fault Refusal :=
  .next (kmpExec .tableStatusGet q (tableStatusGetBody q) s)

/-- LEARN_WINDOW_END. -/
def execLearnWindowEnd (t : Nat) (s : State) : Host.Outcome State Fault Refusal :=
  .next (learnWindowEndEffect t s)

/-- LEARN_RESULT. -/
def execLearnResult (t : Nat) (s : State) : Host.Outcome State Fault Refusal :=
  .next (learnResultEffect t s)

/-- AGING_SWEEP. -/
def execAgingSweep (t : Nat) (s : State) : Host.Outcome State Fault Refusal :=
  .next (agingSweepEffect t s)

/-- TABLE_SCRUB. -/
def execTableScrub (t : Nat) (g : Fin 8) (index : Nat) (double : Bool) (s : State) : Host.Outcome State Fault Refusal :=
  .next (tableScrubEffect t g index double s)

/-- TABLE_REPAIR. -/
def execTableRepair (t : Nat) (g : Fin 8) (index : Nat) (ok : Bool) (s : State) : Host.Outcome State Fault Refusal :=
  .next (tableRepairEffect t g index ok s)

end Sys2Proof.Machine
end

