-- ==== Sys2Proof/Machine/Images.lean ====
section
/-! DEFINITION. Machine/Images.lean: table images, the tables they make, and the checks of R453 (R437, R438, R450 to R455,
R553). -/

namespace Sys2Proof.Machine

open Sys2Proof

/-! ### Records (R450 to R452) -/

/-- Bytes of a record of a table, with ACT and FLAGS (R451). -/
def recordLen (t : Nat) : Nat :=
  match t with
  | 1 => 14
  | 2 => 24
  | 3 => 14
  | 4 => 26
  | 5 => 24
  | 6 => 134
  | _ => 22

/-- The key of a record. -/
def recordKey (t : Nat) (r : List Byte) : Nat :=
  match t with
  | 1 => field r 2 8
  | 2 => f1 r 2 * 2 ^ 128 + field r 4 16
  | 3 => f4 r 2
  | 4 => (f1 r 2 * 256 + f1 r 3) * 2 ^ 128 + field r 6 16
  | _ => f2 r 2

/-- A record with KEEP set. -/
def recordKeep (r : List Byte) : Bool := bitOf (f1 r 1) 0

/-- `n` records of `len` bytes. -/
def splitRecords (len : Nat) : Nat → List Byte → List (List Byte)
  | 0, _ => []
  | n + 1, b => b.take len :: splitRecords len n (b.drop len)

/-- The records of a table image body. -/
def imageRecords (b : List Byte) : List (List Byte) := splitRecords (recordLen (f1 b 0)) (f4 b 4) (b.drop 8)

/-- One record on the records of its table. -/
def applyRecord (t : Nat) (l : List (List Byte)) (r : List Byte) : List (List Byte) :=
  let k := recordKey t r
  let rest := l.filter fun x => decide (recordKey t x ≠ k)
  if f1 r 0 = 1 then rest else rest ++ [r]

/-- One table image on the records of table `t`: a replace image starts from none (R452). -/
def applyImage (t : Nat) (l : List (List Byte)) (b : List Byte) : List (List Byte) :=
  if f1 b 0 ≠ t then l else (imageRecords b).foldl (applyRecord t) (if f1 b 1 = 1 then [] else l)

/-- The items that apply to a member: an item wrapped for it stands for itself, one wrapped for the other member for
nothing (R553). The wrapped item has its own 16-byte header and 32-byte tag. -/
def itemsFor (member : Nat) (l : List Item) : List Item :=
  l.filterMap fun i =>
    if i.typ = 0x0701 then
      if f1 i.data 0 = member then some ⟨f2 i.data 4, (i.data.drop 20).take (f4 i.data 8)⟩ else none
    else some i

/-- The records of a table that a record's items make. -/
def tableRecords (t : Nat) (l : List Item) : List (List Byte) :=
  l.foldl (fun a i => if i.typ = 0x0410 then applyImage t a i.data else a) []

/-! ### Tables (R438, R454, R455) -/

/-- The bridge entry of a record. -/
def bridgeOf (r : List Byte) : BEntry := ⟨f2 r 2, field r 4 6, true, recordKeep r, true, f4 r 10, 0, false⟩

/-- Place an image entry in the bridge table: in the slot of its key, or in the first free way. (DEDUCED: log entry 179) -/
def placeBridge (tb : Tables) (e : BEntry) : Tables :=
  match bridgeFind tb e.vlan e.mac with
  | some (k, _) => { tb with bridge := Tbl.set none tb.bridge k (some e) }
  | none =>
    match ((List.range 8).map (bridgeBucket e.vlan e.mac * 8 + ·)).find? fun k => (Tbl.get none tb.bridge k).isNone with
    | some k => { tb with bridge := Tbl.set none tb.bridge k (some e) }
    | none => tb

/-- A host slot is covered by an entry. -/
def hostCovered (tb : Tables) (bucket i : Nat) : Bool :=
  (Tbl.get none tb.host (bucket * 4 + i)).isSome ||
    (decide (i % 2 = 1) && ((Tbl.get none tb.host (bucket * 4 + (i - 1))).any fun e => decide (e.af = 6)))

/-- Place a host entry: IPv4 in the first free slot, IPv6 in the first free pair (R431). -/
def placeHost (tb : Tables) (r : List Byte) : Tables :=
  let af := f1 r 2
  let addr := if af = 4 then field r 4 4 else field r 4 16
  let b := hostBucket af addr
  let e : HEntry := ⟨af, addr, f4 r 20, recordKeep r, false⟩
  let slot :=
    if af = 4 then (List.range 4).find? fun i => !hostCovered tb b i
    else [0, 2].find? fun i => !hostCovered tb b i && !hostCovered tb b (i + 1)
  match slot with
  | some i => { tb with host := Tbl.set none tb.host (b * 4 + i) (some e) }
  | none => tb

/-- The label entry of a record. -/
def labelOf (r : List Byte) : LEntry := ⟨f1 r 6, f4 r 10, recordKeep r, false⟩

/-- The route of a record. -/
def routeOf (r : List Byte) : Route :=
  ⟨f1 r 2, f1 r 3, if f1 r 2 = 4 then field r 6 4 else field r 6 16, f4 r 22, recordKeep r⟩

/-- The next hop of a record. -/
def hopOf (r : List Byte) : NextHop :=
  ⟨f1 r 4, f1 r 5, f2 r 6, field r 8 6, f1 r 14, f1 r 15, f4 r 16, f2 r 20, recordKeep r, false⟩

/-- The ECMP group of a record. -/
def ecmpOf (r : List Byte) : Ecmp := ⟨(List.range (f1 r 4)).map fun i => f2 r (6 + 2 * i), recordKeep r, false⟩

/-- The port set of a record. -/
def setOf (r : List Byte) : PortSet := ⟨field r 6 16, recordKeep r, false⟩

/-- An entry of the live bridge table stays at a switch: it came from no image, or its key is in the new one (R452).
(DEDUCED: log entry 179) -/
def bridgeStays (keys : List Nat) (e : BEntry) : Bool := !e.image || keys.contains (e.vlan * 2 ^ 48 + e.mac)

/-- The tables a record's items make, over the entries that came from no image (R452, R454); `keepOnly` takes the keep
replica alone (R438). -/
def buildTables (keepOnly : Bool) (labelBase : Nat) (l : List Item) (live : Tables) : Tables :=
  let recs := fun t => (tableRecords t l).filter fun r => !keepOnly || recordKeep r
  let keys := (recs 1).map (recordKey 1)
  let stay := live.bridge.filter fun x => x.2.any fun e => bridgeStays keys e
  let t1 := ((recs 1).map bridgeOf).foldl placeBridge { bridge := stay }
  let t2 := (recs 2).foldl placeHost t1
  { t2 with
    label := (recs 3).foldl (fun a r => Tbl.set none a (f4 r 2 - labelBase) (some (labelOf r))) []
    route := (recs 4).map routeOf
    nexthop := (recs 5).foldl (fun a r => Tbl.set none a (f2 r 2) (some (hopOf r))) []
    ecmp := (recs 6).foldl (fun a r => Tbl.set none a (f2 r 2) (some (ecmpOf r))) []
    portset := (recs 7).foldl (fun a r => Tbl.set none a (f2 r 2) (some (setOf r))) [] }

/-- Bridge slots that new keys of a record take before the switch (R454, R463). -/
def pendingSlots (l : List Item) (live : Tables) : List Nat :=
  let fresh := ((tableRecords 1 l).map bridgeOf).filter fun e => (bridgeFind live e.vlan e.mac).isNone
  let after := fresh.foldl placeBridge live
  (after.bridge.filter fun x => (Tbl.get none live.bridge x.1).isNone).map Prod.fst

/-! ### Checks (R437, R453) -/

/-- The form of one table image: table, operation, length. -/
def imageFormOk (b : List Byte) : Bool :=
  decide (1 ≤ f1 b 0) && decide (f1 b 0 ≤ 7) && decide (f1 b 1 ≤ 1) && decide (b.length = 8 + f4 b 4 * recordLen (f1 b 0))

/-- A prefix has zero bits beyond its length, which suits its family. -/
def prefixOk (r : Route) : Bool :=
  (decide (r.af = 4) || decide (r.af = 6)) && decide (r.len ≤ afBits r.af) && decide (r.pfx % 2 ^ (afBits r.af - r.len) = 0)

/-- What R453 asks of one record by itself. -/
def recordOk (t labelBase : Nat) (r : List Byte) : Bool :=
  decide (f1 r 0 ≤ 1) &&
    match t with
    | 1 => bitOf (f1 r 1) 1 && decide (1 ≤ f2 r 2) && decide (f2 r 2 ≤ 4094) && decide (field r 4 6 ≠ 0)
    | 2 => decide (f1 r 2 = 4) || decide (f1 r 2 = 6)
    | 3 => decide (labelBase ≤ f4 r 2) && decide (f4 r 2 < labelBase + 65536) && decide (1 ≤ f1 r 6) && decide (f1 r 6 ≤ 3)
    | 4 => prefixOk (routeOf r)
    | 5 => decide (f2 r 2 ≠ 0) && decide (f1 r 4 ≤ 4) && decide (f1 r 14 < 16) && decide (f1 r 15 ≤ 2)
    | 6 => decide (f2 r 2 < 4096) && decide (1 ≤ f1 r 4) && decide (f1 r 4 ≤ 64)
    | _ => decide (f2 r 2 < 4096)

/-- A REF names something that exists and, from a KEEP entry, something with KEEP (R453); next hop 0 always exists. -/
def refExists (tb : Tables) (keep : Bool) (ref : Nat) : Bool :=
  decide (ref < 2 ^ 17) &&
    if bitOf ref 16 then (Tbl.get none tb.ecmp (ref % 65536)).any fun g => !keep || g.keep
    else decide (ref = 0) || (Tbl.get none tb.nexthop ref).any fun n => !keep || n.keep

/-- The references of the whole tables hold. -/
def refsOk (tb : Tables) : Bool :=
  (tb.bridge.all fun x => x.2.all fun e => !e.image || !bitOf e.result 31 || refExists tb e.keep (e.result % 2 ^ 31)) &&
  (tb.host.all fun x => x.2.all fun e => refExists tb e.keep e.ref) &&
  (tb.label.all fun x => x.2.all fun e => decide (e.op = 2) || refExists tb e.keep e.ref) &&
  (tb.route.all fun r => refExists tb r.keep r.ref) &&
  (tb.ecmp.all fun x => x.2.all fun g => g.members.all fun m => refExists tb g.keep m) &&
  (tb.nexthop.all fun x => x.2.all fun n => !(n.keep && decide (n.kind = 4)) ||
    (Tbl.get none tb.portset n.portSet).any fun p => p.keep)

/-- Weight of a route in its table's capacity (R429, R437). -/
def routeWeight (l : List Route) : Nat := (l.map fun r => if r.af = 4 then 1 else 2).sum

/-- Slots of host records. -/
def hostWeight (l : List (List Byte)) : Nat := (l.map fun r => if f1 r 2 = 4 then 1 else 2).sum

/-- Every table is within its capacity, and the keep replica within R437. -/
def capacityOk (l : List Item) (tb : Tables) : Bool :=
  let recs := fun t => tableRecords t l
  let keep := fun t => (tableRecords t l).filter recordKeep
  decide (tb.bridge.length ≤ 262144) && decide (hostWeight (recs 2) ≤ 131072) && decide (routeWeight tb.route ≤ 1048576) &&
    decide ((keep 1).length ≤ 32768) && decide (hostWeight (keep 2) ≤ 8192) && decide ((keep 3).length ≤ 4096) &&
    decide (routeWeight (tb.route.filter fun r => r.keep) ≤ 65536) &&
    ((keep 5).all fun r => decide (f2 r 2 < 4096)) && ((keep 6).all fun r => decide (f2 r 2 < 256)) &&
    (keep 7).all fun r => decide (f2 r 2 < 256)

/-- Table image `i` of a stage passes R453, where `l` is the record with the stage applied. -/
def tableImageOk (labelBase : Nat) (b : List Byte) (l : List Item) (live : Tables) : Bool :=
  let tb := buildTables false labelBase l live
  imageFormOk b && ((imageRecords b).all fun r => recordOk (f1 b 0) labelBase r || decide (f1 r 0 = 1)) && capacityOk l tb && refsOk tb

end Sys2Proof.Machine
end

