-- ==== Sys2Proof/Machine/ModeOps.lean ====
section
/-! DEFINITION. Machine/ModeOps.lean: what every change of mode sets (R48, R52, R64, R66). -/

namespace Sys2Proof.Machine

open Sys2Proof

/-- MODE shows a new mode, with its cause (R51, R52). -/
def enterMode (m : Mode) (c : Cause) (s : State) : State :=
  setCause causeMode { s with sup :=
    { s.sup with
      mode := m
      lastCause := c
      modeSince := stamp s
      transition := none
      dip := none
      frozenFrom := if m = .freeze then s.sup.mode else s.sup.frozenFrom } }

/-- EV_MODE_CHANGED (R64). -/
def modeChanged (old new : Mode) (c : Cause) (reqId : Nat) (s : State) : State :=
  raise .modeChanged reqId (enc [(1, old.code), (1, new.code), (1, c.code)]) s

end Sys2Proof.Machine
end

