-- ==== Sys2Proof/Machine/Classify.lean ====
section
/-! DEFINITION. Machine/Classify.lean: the commands of parsing, classification, metering and the slow path
(R387 to R424). -/

namespace Sys2Proof.Machine

open Sys2Proof

/-! ### Parser settings -/

/-- A range checker of PARSE_CONFIG_SET. -/
def rangeOf (p : List Byte) (n : Nat) : RangeChk := ⟨f1 p (44 + 6 * n), f2 p (46 + 6 * n), f2 p (48 + 6 * n)⟩

/-- The settings of a PARSE_CONFIG_SET payload. -/
def parseCfgOf (p : List Byte) : ParseCfg where
  tpidExtra := f2 p 0
  scada := (List.range 5).map fun k => (List.range 4).map fun j => f2 p (4 + 8 * k + 2 * j)
  ranges := (List.range 16).map (rangeOf p)

/-- Settings in range (R412). -/
def parseCfgOk (c : ParseCfg) : Bool :=
  (decide (c.tpidExtra = 0) || decide (0x0600 ≤ c.tpidExtra)) &&
    c.ranges.all fun r => decide (r.low ≤ r.high) && decide (r.fld ≤ 2)

/-- PARSE_CONFIG_SET (R412). -/
def parseConfigSetBody (q : Req) (s : State) : Body :=
  checks [lenIs q 140, (parseCfgOk (parseCfgOf q.payload), .parseParam)]
    (okEmpty { s with cls := { s.cls with parse := parseCfgOf q.payload } })

/-- The settings in the layout of PARSE_CONFIG_SET. -/
def parseCfgBytes (c : ParseCfg) : List Byte :=
  enc [(2, c.tpidExtra), (2, 0)] ++ (c.scada.flatMap fun l => l.flatMap (be 2)) ++
    c.ranges.flatMap fun r => enc [(1, r.fld), (1, 0), (2, r.low), (2, r.high)]

/-- PARSE_CONFIG_GET. -/
def parseConfigGetBody (q : Req) (s : State) : Body := checks [lenIs q 0] (okResp s (parseCfgBytes s.cls.parse))

/-! ### Port settings -/

/-- The settings of a PORT_CLASS_SET payload. -/
def portClassOf (p : List Byte) : PortClass where
  list := f1 p 1
  defClass := f1 p 2
  defPcp := f1 p 3
  defVlan := f2 p 4
  punt := decide (f1 p 6 = 1)
  slowHost := decide (f1 p 7 = 1)
  pcpQueue := (List.range 8).map fun i => f1 p (8 + i)
  meterMap := (List.range 16).map fun c => f2 p (16 + 2 * c)

/-- Fields of PORT_CLASS_SET in range (R410 table). -/
def portClassOk (p : List Byte) : Bool :=
  decide (f1 p 1 ≤ 3) && decide (f1 p 2 ≤ 15) && decide (f1 p 3 ≤ 7) && decide (1 ≤ f2 p 4) && decide (f2 p 4 ≤ 4094) &&
    decide (f1 p 6 ≤ 1) && decide (f1 p 7 ≤ 1) && ((portClassOf p).pcpQueue.all fun x => decide (x ≤ 7)) &&
    (portClassOf p).meterMap.all fun m => decide (m ≤ 16383 ∨ m = 0xFFFF)

/-- Apply a PORT_CLASS_SET payload. -/
def setPortClass (p : List Byte) (s : State) : State :=
  { s with cls := { s.cls with port := Tbl.set {} s.cls.port (f1 p 0) (portClassOf p) } }

/-- PORT_CLASS_SET. -/
def portClassSetBody (q : Req) (s : State) : Body :=
  checks [lenIs q 48, (decide (f1 q.payload 0 ≤ 127), .portNone), (portClassOk q.payload, .classParam)]
    (okEmpty (setPortClass q.payload s))

/-- The settings of a port in the layout of PORT_CLASS_SET. -/
def portClassBytes (p : Nat) (c : PortClass) : List Byte :=
  enc [(1, p), (1, c.list), (1, c.defClass), (1, c.defPcp), (2, c.defVlan), (1, b2n c.punt), (1, b2n c.slowHost)] ++
    c.pcpQueue.flatMap (be 1) ++ c.meterMap.flatMap (be 2)

/-- PORT_CLASS_GET. -/
def portClassGetBody (q : Req) (s : State) : Body :=
  checks [lenIs q 4, (decide (f1 q.payload 0 ≤ 127), .portNone)]
    (okResp s (portClassBytes (f1 q.payload 0) (portClass (f1 q.payload 0) s)))

/-! ### Search banks -/

/-- RANK is held by another bank of the list (R413). -/
def rankTaken (b list rank : Nat) (s : State) : Bool :=
  (List.range 32).any fun i => decide (i ≠ b) && decide ((bankOf i s).list = list) && decide ((bankOf i s).rank = rank)

/-- Fields of SEARCH_BANK_SET in range. -/
def bankFieldsOk (p : List Byte) : Bool :=
  decide (f1 p 0 ≤ 31) && decide (f1 p 1 ≤ 4) && decide (f1 p 2 ≤ 3 ∨ f1 p 2 = 0xFF) && decide (f1 p 3 ≤ 31)

/-- A change of PROFILE on a bank that is or would be in a list (R413). -/
def profileInList (p : List Byte) (s : State) : Bool :=
  let x := bankOf (f1 p 0) s
  decide (x.profile ≠ f1 p 1) && (decide (x.list ≠ 0xFF) || decide (f1 p 2 ≠ 0xFF))

/-- Place a bank; a change of PROFILE clears it (R413). -/
def setBank (p : List Byte) (s : State) : State :=
  updBank (f1 p 0) (fun y =>
    { y with
      profile := f1 p 1
      list := f1 p 2
      rank := f1 p 3
      entries := if y.profile = f1 p 1 then y.entries else [] }) s

/-- SEARCH_BANK_SET (R413). -/
def searchBankSetBody (q : Req) (s : State) : Body :=
  let p := q.payload
  checks [lenIs q 4, (bankFieldsOk p, .searchParam), (!(bankOf (f1 p 0) s).reserved, .searchReserved),
      (!profileInList p s, .searchInList),
      (decide (f1 p 2 = 0xFF) || (decide (f1 p 1 ≠ 0) && !rankTaken (f1 p 0) (f1 p 2) (f1 p 3) s), .searchParam)]
    (okEmpty (setBank p s))

/-- An ACTION is valid (R384, R414). -/
def actionOk (a : Nat) : Bool := decide (bitsOf a 11 10 ≠ 3) && decide (bitsOf a 6 1 = 0)

/-- Checks that SEARCH_WRITE and SEARCH_INSERT share (R414). (DEDUCED: log entry 163) -/
def searchChecks (q : Req) (insert : Bool) (s : State) : List (Bool × Err) :=
  let p := q.payload
  let x := bankOf (f1 p 0) s
  [(decide (f1 p 0 ≤ 31), .searchParam),
   (decide (x.profile ≠ 0) && decide (f2 p 2 < bankEntries x.profile), .searchEntry),
   lenIs q (8 + 20 * profileUnits x.profile),
   (actionOk (f2 p 4) && (!insert || bitOf (f2 p 4) 0), .searchParam), (!x.reserved, .searchReserved)]

/-- The entry of a request. -/
def entryOf (p : List Byte) (units : Nat) (hits : Ctr) : SEntry where
  value := field p 8 (10 * units)
  mask := field p (8 + 10 * units) (10 * units)
  action := f2 p 4
  hits := hits

/-- SEARCH_WRITE (R391, R414). -/
def searchWriteBody (q : Req) (s : State) : Body :=
  let p := q.payload
  let b := f1 p 0
  let x := bankOf b s
  let old := Tbl.get {} x.entries (f2 p 2)
  let e := entryOf p (profileUnits x.profile) (if bitOf (f1 p 1) 0 then old.hits else {})
  checks (searchChecks q false s) (okEmpty (updBank b (fun y => { y with entries := Tbl.set {} y.entries (f2 p 2) e }) s))

/-- An entry counts as valid for SEARCH_INSERT (R392, R421). -/
def entryValid (x : Bank) (i : Nat) : Bool := bitOf (Tbl.get {} x.entries i).action 0

/-- F: the first invalid entry at or after N (R392). -/
def firstInvalid (x : Bank) (n : Nat) : Option Nat :=
  ((List.range (bankEntries x.profile - n)).map (n + ·)).find? fun i => !entryValid x i

/-- The entries N to F − 1 moved one place down, in descending order, with their hit counts (R392). (DEDUCED: log entry 162) -/
def moveDown (n f : Nat) (t : Tbl SEntry) : Tbl SEntry :=
  (List.range (f - n)).foldl (fun t k => Tbl.set {} t (f - k) (Tbl.get {} t (f - k - 1))) t

/-- SEARCH_INSERT (R392, R414). (DEDUCED: log entry 162) -/
def searchInsertBody (q : Req) (s : State) : Body :=
  let p := q.payload
  let b := f1 p 0
  let n := f2 p 2
  let x := bankOf b s
  checks (searchChecks q true s) <|
    match firstInvalid x n with
    | none => .error .searchFull
    | some f =>
      let e := entryOf p (profileUnits x.profile) {}
      okResp (updBank b (fun y => { y with entries := Tbl.set {} (moveDown n f y.entries) n e }) s) (enc [(2, f - n), (2, f), (4, 0)])

/-- SEARCH_READ response. -/
def searchReadResp (b i : Nat) (s : State) : List Byte :=
  let x := bankOf b s
  let e := Tbl.get {} x.entries i
  let w := 10 * profileUnits x.profile
  enc [(1, b), (1, flags [e.hits.ovf, e.parityBad]), (2, i), (2, e.action), (2, 0), (8, e.hits.val)] ++ tb10 s.tb.now ++
    be w e.value ++ be w e.mask

/-- SEARCH_READ (R414). -/
def searchReadBody (q : Req) (s : State) : Body :=
  let p := q.payload
  let x := bankOf (f1 p 0) s
  checks [lenIs q 4, (decide (f1 p 0 ≤ 31), .searchParam),
      (decide (x.profile ≠ 0) && decide (f2 p 2 < bankEntries x.profile), .searchEntry)]
    (okResp s (searchReadResp (f1 p 0) (f2 p 2) s))

/-! ### Meters -/

/-- The settings of a METER_SET payload. -/
def meterCfgOf (p : List Byte) : MeterCfg where
  algo := f1 p 2
  aware := bitOf (f1 p 3) 0
  redDrop := bitOf (f1 p 3) 1
  lineBytes := bitOf (f1 p 3) 2
  cir := f4 p 4
  pir := f4 p 8
  cbs := f4 p 12
  ebs := f4 p 16

/-- Fields of METER_SET in range (R415): PIR counts for ALGO 2. -/
def meterCfgOk (c : MeterCfg) : Bool :=
  decide (c.algo ≤ 2) && decide (8 ≤ c.cir) && decide (c.cir ≤ 400000000) &&
    (decide (c.algo ≠ 2) || (decide (c.cir ≤ c.pir) && decide (c.pir ≤ 400000000))) && decide (64 ≤ c.cbs) &&
    decide (c.cbs ≤ 16777215) && decide (c.ebs ≤ 16777215)

/-- Tokens of a burst, in 10^-6 byte. -/
def burstTokens (b : Nat) : Nat := b * 1000000

/-- A new setting of a meter (R390): a change of ALGO fills both buckets; rates and burst sizes wait for the next refill;
the flags act at once. (DEDUCED: log entry 164) -/
def setMeter (c : MeterCfg) (y : Meter) : Meter :=
  if y.cfg.algo = c.algo then
    { y with
      cfg := { y.cfg with aware := c.aware, redDrop := c.redDrop, lineBytes := c.lineBytes }
      next := some c }
  else { y with cfg := c, next := none, tokC := burstTokens c.cbs, tokE := burstTokens c.ebs }

/-- METER_SET (R390, R415). -/
def meterSetBody (q : Req) (s : State) : Body :=
  let c := meterCfgOf q.payload
  checks [lenIs q 20, (decide (f2 q.payload 0 ≤ 16383) && meterCfgOk c, .meterParam)]
    (okEmpty (updMeter (f2 q.payload 0) (setMeter c) s))

/-- The counters of a meter in METER_GET order. -/
def meterCounters (m : Meter) : List Ctr :=
  [m.greenPkts, m.greenBytes, m.yellowPkts, m.yellowBytes, m.redPkts, m.redBytes, m.redDrops]

/-- METER_GET response: the setting last accepted, then the counters. -/
def meterGetResp (n : Nat) (s : State) : List Byte :=
  let m := meterOf n s
  let c := m.next.getD m.cfg
  enc [(2, n), (1, c.algo), (1, flags [c.aware, c.redDrop, c.lineBytes]), (4, c.cir), (4, c.pir), (4, c.cbs), (4, c.ebs),
    (4, flags ((meterCounters m).map fun x => x.ovf))] ++ tb10 s.tb.now ++ be 2 0 ++
    (meterCounters m).flatMap fun x => be 8 x.val

/-- METER_GET. -/
def meterGetBody (q : Req) (s : State) : Body :=
  checks [lenIs q 4, (decide (f2 q.payload 0 ≤ 16383), .meterParam)] (okResp s (meterGetResp (f2 q.payload 0) s))

/-- Tokens one period of 1,024 ns brings at a rate in kbit/s, in 10^-6 byte. -/
def refillTokens (kbps : Nat) : Nat := kbps * 128

/-- One refill of a meter (R388 to R390, RFC 2697, RFC 2698): a waiting change takes effect first, and cuts the buckets.
(DEDUCED: log entry 164) -/
def refillMeter (y : Meter) : Meter :=
  let c := y.next.getD y.cfg
  let tc := min y.tokC (burstTokens c.cbs)
  let te := min y.tokE (burstTokens c.ebs)
  let n := refillTokens c.cir
  match c.algo with
  | 1 =>
    let c1 := min (tc + n) (burstTokens c.cbs)
    { y with cfg := c, next := none, tokC := c1, tokE := min (te + (tc + n - c1)) (burstTokens c.ebs) }
  | 2 =>
    { y with
      cfg := c
      next := none
      tokC := min (tc + n) (burstTokens c.cbs)
      tokE := min (te + refillTokens c.pir) (burstTokens c.ebs) }
  | _ => { y with cfg := c, next := none, tokC := tc, tokE := te }

/-- The present instant is a refill instant of the time base that has not been served (R389, R405, R509). -/
def refillDue (last : Option Nat) (s : State) : Bool :=
  decide (s.tb.now % 1024 = 0) && decide (last ≠ some s.tb.now) && dataPlaneMode s.sup.mode

/-- METER_REFILL (R389). -/
def meterRefillEffect (t : Nat) (s0 : State) : State :=
  let s := advance t s0
  if refillDue s.cls.lastMeterRefill s then
    { s with cls := { s.cls with
        meter := s.cls.meter.map (fun p => (p.1, refillMeter p.2))
        lastMeterRefill := some s.tb.now } }
  else s

/-! ### The slow path -/

/-- RATE_PPS and BURST of punt class `c` in a PUNT_CONFIG_SET payload. -/
def puntRate (p : List Byte) (c : Nat) : Nat := f4 p (8 * c)
def puntBurst (p : List Byte) (c : Nat) : Nat := f2 p (8 * c + 4)

/-- Fields of PUNT_CONFIG_SET in range (R416). -/
def puntOk (p : List Byte) : Bool :=
  ((List.range 8).all fun c => decide (puntRate p c ≤ 100000) && decide (1 ≤ puntBurst p c) && decide (puntBurst p c ≤ 4096)) &&
    decide (((List.range 8).map (puntRate p)).sum ≤ 200000) && decide (1 ≤ f2 p 64) && decide (f2 p 64 ≤ 200)

/-- Tokens of a punt class, in 10^-9 frame. -/
def puntTokens (burst : Nat) : Nat := burst * 1000000000

/-- Apply a PUNT_CONFIG_SET payload; a bucket keeps its tokens, cut to the new burst. (DEDUCED: log entry 165) -/
def setPunt (p : List Byte) (s : State) : State :=
  let s1 := { s with cls := { s.cls with fragHoldMs := f2 p 64 } }
  forEach (List.range 8) (fun c s => updPunt c (fun y =>
    { y with
      rate := puntRate p c
      burst := puntBurst p c
      tokens := min y.tokens (puntTokens (puntBurst p c)) }) s) s1

/-- PUNT_CONFIG_SET (R416). -/
def puntConfigSetBody (q : Req) (s : State) : Body :=
  checks [lenIs q 68, (puntOk q.payload, .puntParam)] (okEmpty (setPunt q.payload s))

/-- PUNT_REFILL (R405); a class of RATE_PPS 0 holds no tokens (R416). -/
def puntRefillEffect (t : Nat) (s0 : State) : State :=
  let s := advance t s0
  if refillDue s.cls.lastPuntRefill s then
    let s1 := forEach (List.range 8) (fun c s => updPunt c (fun y =>
      { y with tokens := min (y.tokens + y.rate * 1024) (puntTokens y.burst) }) s) s
    { s1 with cls := { s1.cls with lastPuntRefill := some s.tb.now } }
  else s

/-- Follow entries in use (FRAG_STATUS_GET). -/
def followUsed (s : State) : Nat := (s.cls.follow.map fun x => x.2.length).sum

/-- The eight counters of FRAG_STATUS_GET, then PUNTED and PUNT_DROPPED. -/
def fragCounters (s : State) : List Ctr :=
  [s.cls.followInstalled, s.cls.followHits, s.cls.followMisses, s.cls.followFull, s.cls.reinjected, s.cls.holdExpired,
    s.cls.puntQueueFull, s.cls.scadaUnparsed] ++
  (List.range 8).map (fun c => (puntClassOf c s).punted) ++ (List.range 8).map fun c => (puntClassOf c s).dropped

/-- FRAG_STATUS_GET response. -/
def fragStatusResp (s : State) : List Byte :=
  enc [(2, followUsed s), (2, s.cls.held.length), (4, flags ((fragCounters s).map fun c => c.ovf))] ++ tb10 s.tb.now ++ be 2 0 ++
    (fragCounters s).flatMap fun c => be 8 c.val

/-- FRAG_STATUS_GET. -/
def fragStatusGetBody (q : Req) (s : State) : Body := checks [lenIs q 0] (okResp s (fragStatusResp s))

/-- FOLLOW_EXPIRY: entries 250 ms old leave (R402, R420). -/
def followExpiryEffect (t : Nat) (s0 : State) : State :=
  let s := advance t s0
  forEach (s.cls.follow.map Prod.fst) (fun i s =>
    { s with cls := { s.cls with follow := Tbl.upd [] s.cls.follow i (liveFollow s.elapsed) } }) s

/-- The fragments of a datagram the control core has gathered. -/
def gathered (key : List Byte) (s : State) : List HeldFrame :=
  s.cls.held.filter fun h => decide (h.reason = 2) && decide (h.key = key)

/-- The held fragments cover every byte up to `at0`, walking from the start: `n` more are looked at. -/
def coversFrom : Nat → Nat → List HeldFrame → Bool
  | 0, _, _ => false
  | n + 1, at0, l =>
    match l.find? fun h => decide (h.offset = at0) with
    | none => false
    | some h => if h.more then coversFrom n (at0 + h.size) l else true

/-- A datagram is complete (R408). -/
def datagramComplete (key : List Byte) (s : State) : Bool := coversFrom ((gathered key s).length + 1) 0 (gathered key s)

/-- A held fragment re-enters the ingress pipeline of its port at the present instant (R407, R408). -/
def reinject (h : HeldFrame) (trie : TrieRead) (s : State) : State :=
  let k := keysOf h.port h.bytes s
  let s1 := { s with cls := { s.cls with
      held := s.cls.held.filter (fun x => decide (x ≠ h))
      reinjected := s.cls.reinjected.add64 1 } }
  pipeline k s.tb.now trie true s1

/-- A FRAG_MISS frame whose follow entry exists (R407). -/
def missReady (s : State) : Option HeldFrame :=
  s.cls.held.find? fun h => decide (h.reason = 1) && (followHit h.key s).isSome

/-- A complete datagram's fragments, the first one first (R408). -/
def datagramReady (s : State) : Option (List HeldFrame) :=
  ((heldDatagrams s).find? fun key => datagramComplete key s).map fun key =>
    let l := gathered key s
    (l.filter fun h => decide (h.offset = 0)) ++ l.filter fun h => decide (h.offset ≠ 0)

/-- A later fragment of a complete datagram takes the decision its first fragment has just recorded. -/
def reinjectWith (f : Option Follow) (h : HeldFrame) (trie : TrieRead) (s : State) : State :=
  match f with
  | none => reinject h trie s
  | some f =>
    let k := keysOf h.port h.bytes s
    let s1 := { s with cls := { s.cls with
        held := s.cls.held.filter (fun x => decide (x ≠ h))
        reinjected := s.cls.reinjected.add64 1
        followHits := s.cls.followHits.add64 1 } }
    carryCaptured k s.tb.now f.dec ⟨f.cls, f.colour, f.queue⟩ s1

/-- The follow entry of a key as installed, visible or not. (DEDUCED: log entry 157) -/
def followEntry (key : List Byte) (s : State) : Option Follow :=
  (liveFollow s.elapsed (Tbl.get [] s.cls.follow (followSetOf key))).find? fun f => decide (f.key = key) && !f.bad

/-- Re-inject a complete datagram (R408): its later fragments come once the first one's entry is visible. (DEDUCED: log entry 158) -/
def reinjectDatagram (l : List HeldFrame) (trie : TrieRead) (s : State) : State :=
  forEach l (fun h s => if h.offset = 0 then reinject h trie s else reinjectWith (followEntry h.key s) h trie s) s

/-- REINJECTED: the control core re-injects a fragment whose follow entry exists, or a complete datagram (R407, R408). -/
def reinjectedEffect (t : Nat) (trie : TrieRead) (s0 : State) : State :=
  let s := advance t s0
  if dataPlaneMode s.sup.mode ∧ !ctlHalted s then
    match missReady s with
    | some h => reinject h trie s
    | none =>
      match datagramReady s with
      | some l => reinjectDatagram l trie s
      | none => s
  else s

/-- The first instant a datagram's fragments have been held from (R408). -/
def datagramSince (key : List Byte) (s : State) : Nat := ((gathered key s).map fun h => h.since).foldl min s.elapsed

/-- A frame's hold is over: its own for FRAG_MISS (R407), its datagram's for FRAG_PUNT (R408). -/
def holdOver (h : HeldFrame) (s : State) : Bool :=
  let since := if h.reason = 2 then datagramSince h.key s else h.since
  decide (since + msNs s.cls.fragHoldMs ≤ s.elapsed)

/-- HOLD_EXPIRED (R407, R408). -/
def holdExpiredEffect (t : Nat) (s0 : State) : State :=
  let s := advance t s0
  let gone := s.cls.held.filter fun h => holdOver h s
  { s with cls := { s.cls with
      held := s.cls.held.filter (fun h => !holdOver h s)
      holdExpired := s.cls.holdExpired.add64 gone.length } }

/-! ### Search memory protection (R409) -/

/-- SEARCH_SCRUB: an entry of a bank in a list fails its parity and stops matching. -/
def searchScrubEffect (t : Nat) (bank : Fin 32) (entry : Fin 1024) (s0 : State) : State :=
  let s := advance t s0
  let x := bankOf bank s
  if dataPlaneMode s.sup.mode ∧ x.list ≠ 0xFF ∧ entry.val < bankEntries x.profile ∧ !(Tbl.get {} x.entries entry).parityBad then
    let s1 := updBank bank (fun y => { y with entries := Tbl.upd {} y.entries entry (fun e => { e with parityBad := true }) }) s
    { s1 with cls := { s1.cls with parityEvents := inc16 s1.cls.parityEvents } }
  else s

/-- EV_SEARCH_ERROR: the control core has rewritten a failed entry from its copy, or failed to (R409). -/
def evSearchErrorEffect (t : Nat) (bank : Fin 32) (entry : Fin 1024) (repaired : Bool) (s0 : State) : State :=
  let s := advance t s0
  if (Tbl.get {} (bankOf bank s).entries entry).parityBad ∧ dataPlaneMode s.sup.mode ∧ !ctlHalted s then
    raise .searchError 0 (enc [(1, bank), (2, entry), (1, b2n repaired)])
      (if repaired then
        updBank bank (fun y => { y with entries := Tbl.upd {} y.entries entry (fun e => { e with parityBad := false }) }) s
      else s)
  else s

/-! ### The meanings -/

/-- PARSE_CONFIG_SET. -/
def execParseConfigSet (q : Req) (s : State) : Host.Outcome State Fault Refusal :=
  .next (kmpExec .parseConfigSet q (parseConfigSetBody q) s)

/-- PARSE_CONFIG_GET. -/
def execParseConfigGet (q : Req) (s : State) : Host.Outcome State Fault Refusal :=
  .next (kmpExec .parseConfigGet q (parseConfigGetBody q) s)

/-- PORT_CLASS_SET. -/
def execPortClassSet (q : Req) (s : State) : Host.Outcome State Fault Refusal :=
  .next (kmpExec .portClassSet q (portClassSetBody q) s)

/-- PORT_CLASS_GET. -/
def execPortClassGet (q : Req) (s : State) : Host.Outcome State Fault Refusal :=
  .next (kmpExec .portClassGet q (portClassGetBody q) s)

/-- SEARCH_BANK_SET. -/
def execSearchBankSet (q : Req) (s : State) : Host.Outcome State Fault Refusal :=
  .next (kmpExec .searchBankSet q (searchBankSetBody q) s)

/-- SEARCH_WRITE. -/
def execSearchWrite (q : Req) (s : State) : Host.Outcome State Fault Refusal :=
  .next (kmpExec .searchWrite q (searchWriteBody q) s)

/-- SEARCH_INSERT. -/
def execSearchInsert (q : Req) (s : State) : Host.Outcome State Fault Refusal :=
  .next (kmpExec .searchInsert q (searchInsertBody q) s)

/-- SEARCH_READ. -/
def execSearchRead (q : Req) (s : State) : Host.Outcome State Fault Refusal :=
  .next (kmpExec .searchRead q (searchReadBody q) s)

/-- METER_SET. -/
def execMeterSet (q : Req) (s : State) : Host.Outcome State Fault Refusal :=
  .next (kmpExec .meterSet q (meterSetBody q) s)

/-- METER_GET. -/
def execMeterGet (q : Req) (s : State) : Host.Outcome State Fault Refusal :=
  .next (kmpExec .meterGet q (meterGetBody q) s)

/-- PUNT_CONFIG_SET. -/
def execPuntConfigSet (q : Req) (s : State) : Host.Outcome State Fault Refusal :=
  .next (kmpExec .puntConfigSet q (puntConfigSetBody q) s)

/-- FRAG_STATUS_GET. -/
def execFragStatusGet (q : Req) (s : State) : Host.Outcome State Fault Refusal :=
  .next (kmpExec .fragStatusGet q (fragStatusGetBody q) s)

/-- METER_REFILL. -/
def execMeterRefill (t : Nat) (s : State) : Host.Outcome State Fault Refusal :=
  .next (meterRefillEffect t s)

/-- PUNT_REFILL. -/
def execPuntRefill (t : Nat) (s : State) : Host.Outcome State Fault Refusal :=
  .next (puntRefillEffect t s)

/-- FOLLOW_EXPIRY. -/
def execFollowExpiry (t : Nat) (s : State) : Host.Outcome State Fault Refusal :=
  .next (followExpiryEffect t s)

/-- REINJECTED. -/
def execReinjected (t : Nat) (trie : TrieRead) (s : State) : Host.Outcome State Fault Refusal :=
  .next (reinjectedEffect t trie s)

/-- HOLD_EXPIRED. -/
def execHoldExpired (t : Nat) (s : State) : Host.Outcome State Fault Refusal :=
  .next (holdExpiredEffect t s)

/-- SEARCH_SCRUB. -/
def execSearchScrub (t : Nat) (bank : Fin 32) (entry : Fin 1024) (s : State) : Host.Outcome State Fault Refusal :=
  .next (searchScrubEffect t bank entry s)

/-- EV_SEARCH_ERROR. -/
def execEvSearchError (t : Nat) (bank : Fin 32) (entry : Fin 1024) (repaired : Bool) (s : State) : Host.Outcome State Fault Refusal :=
  .next (evSearchErrorEffect t bank entry repaired s)

end Sys2Proof.Machine
end

