-- ==== Sys2Proof/Machine/Rx.lean ====
section
/-! DEFINITION. Machine/Rx.lean: the receive MAC of the Ethernet ports (R303 to R307, R722, R726). -/

namespace Sys2Proof.Machine

open Sys2Proof

/-- The FCS of a frame, as its last four bytes carry it: least significant byte first (IEEE 802.3). -/
def fcsOf (b : List Byte) : List Byte := le 4 (Crc.crc32 b)

/-- A frame's last four bytes are its FCS. -/
def fcsGood (b : List Byte) : Bool := decide (b.drop (b.length - 4) = fcsOf (b.take (b.length - 4)))

/-- Count in a counter of a port, with a datapath event (R303, R721). -/
def countPort (p ev : Nat) (f : PortCtrs → PortCtrs) (s : State) : State := countEvt ev [(1, p)] 1 (updPortCtrs p f s)

/-- An FCS error, with the strike tag where a window is open (R303, R726). -/
def fcsError (p : Nat) (s : State) : State :=
  let s1 := countPort p 0x05 (fun c => { c with fcsErrors := c.fcsErrors.add32 1 }) s
  if strikeOpen s1 then
    tallyAdd 0 1 (countPort p 0x06 (fun c =>
      { c with strikeFcs := c.strikeFcs.add32 1, lastStrikeId := s1.strike.id }) s1)
  else s1

/-- Add to the receive window of a port, where a window runs (R722, R723). -/
def bwRx (p n : Nat) (s : State) : State :=
  if s.cnt.bwStart ≤ s.tb.now then
    { s with cnt := { s.cnt with bw := Tbl.upd {} s.cnt.bw p (fun y => { y with rxNow := y.rxNow + n }) } }
  else s

/-- Stamp resolution in ns (R306). -/
def stampTo (m : Mode) (x : Nat) : Nat := if m = .watch then x / 40 * 40 else x / 2 * 2

/-- The bound of a stamp's residual error in ns (R307). -/
def residualBound (x : Port) : Int := if x.typ ≤ 2 ∨ (x.typ = 3 ∧ x.fec = 0) then 4 else 8

/-- The residual error of a stamp: any value within its bound (R307). (DEDUCED: log entry 135) -/
def stampResidual (x : Port) (n : Nat) : Int := Config.freeInt n % (2 * residualBound x + 1) - residualBound x

/-- The stamp of a frame that began `ageNs` before the present instant, with the port's adjustment (R306, R307). (DEDUCED: log entry 135) -/
def rxStamp (p ageNs : Nat) (s : State) : Nat :=
  stampTo s.sup.mode (((s.tb.now - ageNs : Nat) : Int) + stampResidual (portOf p s) s.freeCtr + (portOf p s).rxAdj).toNat

/-- The trie is read for a frame (R435): its decision would overrun a full queue. (DESIGN CHOICE: log entry 159) -/
def readsTrie (k : Keys) (s : State) : Bool :=
  let punts := (portClass k.inPort s).punt
  let looksUp := decide (k.p.frag = 0) || (decide (k.p.frag = 1) && !punts)
  looksUp && decide (decideFrame k .full s = .drop dOverrun)

/-- The DRAM side of a trie read that comes back uncorrectable (R442). -/
def trieSide (p : Nat) (frame : List Byte) (trie : TrieRead) (s : State) : State :=
  match trie with
  | .bad c line beats => if readsTrie (keysOf p frame s) s then trieReadBad c line.toNat beats.toNat s else s
  | _ => s

/-- A frame the receive MAC accepts is counted (R303, R716, R721, R722). (DEDUCED: log entries 134, 153) -/
def countAccepted (p len : Nat) (s : State) : State :=
  let s1 := updPortCtrs p (fun c => { c with rxFrames := c.rxFrames.add64 1, rxBytes := c.rxBytes.add64 len }) s
  bwRx p (len + 20) (countEvt 0x02 [(1, p)] len (countEvt 0x01 [(1, p)] 1 s1))

/-- The MAC receives on a port: it is formed and run, ADMIN_DOWN is clear or has not yet taken the link down, every receive half is ACTIVE with CDR locked, and
it is no trunk port; LINK_UP_MS need not have passed. (DEDUCED: log entry 134) -/
def macReceives (p : Nat) (s : State) : Bool :=
  decide ((portOf p s).typ ≠ 0) && portRuns p s && (!(portOf p s).adminDown || (portOf p s).link) && !isTrunk p s &&
    (portLanes p s).all fun l => decide ((laneOf l s).rx = .active) && (laneOf l s).cdr

/-- Uncorrectable codewords of a port's RS-FEC since the last frame (R721, R727). -/
def countFec (p n : Nat) (s : State) : State :=
  if n = 0 ∨ (portOf p s).fec = 0 then s else tallyAdd 2 n (countEvt 0x16 [(1, p)] n s)

/-- RX_FRAME: `raw` from destination address to FCS, `damaged` by a symbol or codeword error, first bit after the SFD
`ageNs` ago (R303 to R307), after `fecBad` uncorrectable codewords; `trie` is how its trie reads end. (DEDUCED: log entry 133) -/
def rxFrameEffect (t : Nat) (p : Fin 128) (raw : List Byte) (damaged : Bool) (fecBad ageNs : Nat) (trie : TrieRead) (s0 : State) :
    State :=
  let s := advance t s0
  if !macReceives p s then s
  else
    let s1 := countFec p fecBad s
    if raw.length < 64 then updPortCtrs p (fun c => { c with runts := c.runts.add64 1 }) s1
    else if (portOf p s).maxFrame < raw.length then updPortCtrs p (fun c => { c with oversize := c.oversize.add64 1 }) s1
    else if damaged || !fcsGood raw then fcsError p s1
    else
      let s2 := countAccepted p raw.length s1
      if f2 raw 12 = 0x8808 then updPortCtrs p (fun c => { c with macControl := c.macControl.add64 1 }) s2
      else ingress p raw (rxStamp p ageNs s2) trie (bumpFree (trieSide p raw trie s2))

/-! ### The meanings -/

/-- RX_FRAME. -/
def execRxFrame (t : Nat) (p : Fin 128) (raw : List Byte) (damaged : Bool) (fecBad : Nat) (ageNs : Nat) (trie : TrieRead) (s : State) : Host.Outcome State Fault Refusal :=
  .next (rxFrameEffect t p raw damaged fecBad ageNs trie s)

end Sys2Proof.Machine
end

