-- ==== Sys2Proof/Machine/EgressOps.lean ====
section
/-! DEFINITION. Machine/EgressOps.lean: frames as a port sends them, gate lists, and what leaves the head of a queue without
being sent (R427, R504, R511 to R515, R305). -/

namespace Sys2Proof.Machine

open Sys2Proof

/-! ### The frame on a port (R331, R427, R504) -/

/-- The bytes of a packet on a port, without FCS: under its egress VLAN's tag unless the port is untagged there (R427), and
padded to 60 bytes. (PRESUMED: log entry 132) -/
def frameBytes (x : Packet) (p : Nat) : List Byte :=
  let tag := if bitOf x.untagged p then [] else be 2 x.tpid ++ be 2 (x.pcpDei * 4096 + x.vlan)
  let b := be 6 x.dmac ++ be 6 x.smac ++ tag ++ x.body
  b ++ List.replicate (60 - b.length) 0

/-- Its wire length L (R504). -/
def wireLen (p n : Nat) (s : State) : Nat := if isTrunk p s then 32 * ((n + 29) / 30) else n + 24

/-- Its transmission time D in 1/256 ns, rounded up (R504). (DESIGN CHOICE: log entry 152) -/
def frameTicks (p l : Nat) (s : State) : Nat :=
  if isTrunk p s then (l * 8 * 256 * 1000 + 52683) / 52684
  else
    let r := typeGbps (portOf p s).typ
    (l * 8 * 256 + r - 1) / r

/-- The stored packet behind a queue entry. -/
def storedOf (p id : Nat) (s : State) : Option Stored := Tbl.get none (deckOf (deckNum p) s).stored id

/-! ### Gate lists (R511, R512) -/

/-- Gates and end, in 1/256 ns from the start of the cycle, of the entry at a position; the last one lasts to the end of
the cycle. -/
def gateSeg (cycle pos : Nat) : Nat → List (Nat × Nat) → Nat × Nat
  | _, [] => (0, cycle)
  | _, [e] => (e.1, cycle)
  | start, e :: es => if pos < start + e.2 * 256 then (e.1, start + e.2 * 256) else gateSeg cycle pos (start + e.2 * 256) es

/-- Position of an instant, in 1/256 ns (R511). -/
def gatePos (g : GateList) (x : Nat) : Nat := (((x : Int) - 256 * g.base) % (256 * g.cycle : Nat)).toNat

/-- The gate of queue `q` under a list at an instant, and the instant its entry ends; none where it never changes. -/
def listState (l : Option GateList) (q x : Nat) : Bool × Option Nat :=
  match l with
  | none => (true, none)
  | some g =>
    if g.entries.all fun e => bitOf e.1 q then (true, none)
    else if !g.entries.any fun e => bitOf e.1 q then (false, none)
    else
      let pos := gatePos g x
      let e := gateSeg (256 * g.cycle) pos 0 g.entries
      (bitOf e.1 q, some (x + (e.2 - pos)))

/-- The earlier of two instants that may be absent. -/
def earlier (a b : Option Nat) : Option Nat :=
  match a, b with
  | none, b => b
  | a, none => a
  | some a, some b => some (min a b)

/-- The combined schedule (R512): the list in force up to a takeover that the time base can reach (R95), the pending list
from there on; one that a commit brings is in force only once the commit has switched it (R192). -/
def gateState (p q x : Nat) (s : State) : Bool × Option Nat :=
  let g := egressOf p s
  match g.pend with
  | none => listState g.list q x
  | some d =>
    if s.tb.quality = .unset then listState g.list q x
    else if d.fromCommit ∧ 256 * d.takeover ≤ x then listState g.list q x
    else if 256 * d.takeover ≤ x then listState d.list q x
    else
      let a := listState g.list q x
      (a.1, earlier a.2 (some (256 * d.takeover)))

/-- The close instant of the window that holds `x`; none where it never closes. `n` entries are walked at most. -/
def closeAfter (p q : Nat) (s : State) : Nat → Nat → Option Nat
  | 0, x => some x
  | n + 1, x =>
    match gateState p q x s with
    | (false, _) => some x
    | (true, none) => none
    | (true, some y) => closeAfter p q s n y

/-- More entries than two lists and a takeover can make of one window. -/
def gateFuel : Nat := 1100

/-- The gate of queue `q` is open at `x`. -/
def gateOpen (p q x : Nat) (s : State) : Bool := (gateState p q x s).1

/-- A frame that takes `d` fits in the window that holds `x` (R513). -/
def gateFits (p q x d : Nat) (s : State) : Bool :=
  gateOpen p q x s &&
    match closeAfter p q s gateFuel x with
    | none => true
    | some c => decide (x + d ≤ c)

/-- The window that held `x` has closed by `y`. -/
def closedSince (p q x y : Nat) (s : State) : Bool :=
  !gateOpen p q x s ||
    match closeAfter p q s gateFuel x with
    | none => false
    | some c => decide (c ≤ y)

/-- The entries of a cycle with the last one lasting to its end: gates and ns. -/
def fullEntries (cycle : Nat) : List (Nat × Nat) → List (Nat × Nat)
  | [] => []
  | [e] => [(e.1, cycle)]
  | e :: es => e :: fullEntries (cycle - e.2) es

/-- The longest sum of a run of open entries. -/
def longestOpen (q : Nat) : List (Nat × Nat) → Nat → Nat → Nat
  | [], run, best => max run best
  | e :: es, run, best => if bitOf e.1 q then longestOpen q es (run + e.2) best else longestOpen q es 0 (max run best)

/-- MAX_WINDOW of a queue in ns; none where the gate never closes (R515). -/
def maxWindow (l : Option GateList) (q : Nat) : Option Nat :=
  match l with
  | none => none
  | some g =>
    let es := fullEntries g.cycle g.entries
    if es.all fun e => bitOf e.1 q then none else some (longestOpen q (es ++ es) 0 0)

/-! ### Heads that are dropped -/

/-- Add to an egress counter of a queue: 0 TX_PKTS, 1 TX_BYTES, 2 GATE_WAITS, 3 GATE_OVERSIZE, 4 DELAY_ALARMS. -/
def countTx (p q i n : Nat) (s : State) : State :=
  updQueue p q (fun y => { y with tx := Tbl.upd {} y.tx i (fun c => c.add64 n) }) s

/-- The head entry leaves its queue without being sent, and its reference with it (R481). (DEDUCED: log entry 201) -/
def dropHead (p q id : Nat) (s : State) : State :=
  releaseRef (deckNum p) id (updQueue p q (fun y => { y with ready := y.ready.tail }) s)

/-- EV_GATE_OVERSIZE, at most once per queue per 10 s (R527). (DESIGN CHOICE: log entry 200) -/
def oversizeEvent (p q l window : Nat) (s : State) : State :=
  let s1 := updQueue p q (fun y => { y with oversizeNew := y.oversizeNew + 1 }) s
  let x := queueOf p q s1
  if reportDue x.oversizeReport (sNs 10) s.elapsed then
    raise .gateOversize 0 (enc [(1, p), (1, q), (2, min l 65535), (4, window), (4, x.oversizeNew)])
      (updQueue p q (fun y => { y with oversizeReport := some s.elapsed, oversizeNew := 0 }) s1)
  else s1

/-- Drop from the head of a queue every frame that is longer than the port's MAX_FRAME (R305) or than any window of its
queue (R515). (DEDUCED: log entry 201) -/
def settleHead : Nat → (p q : Nat) → State → State
  | 0, _, _, s => s
  | n + 1, p, q, s =>
    match (queueOf p q s).ready with
    | [] => s
    | e :: _ =>
      match storedOf p e.id s with
      | none => s
      | some x =>
        let len := (frameBytes x.pkt p).length
        let l := wireLen p len s
        if !isTrunk p s ∧ (portOf p s).maxFrame < len + 4 then
          settleHead n p q (updPortCtrs p (fun c => { c with egressOversize := c.egressOversize.add64 1 }) (dropHead p q e.id s))
        else if isTrunk p s then s
        else
          match maxWindow (egressOf p s).list q with
          | none => s
          | some w =>
            if w * 256 < frameTicks p l s then
              settleHead n p q (oversizeEvent p q l w (countTx p q 3 1 (dropHead p q e.id s)))
            else s

/-- Settle the head of a queue. -/
def settleQueue (p q : Nat) (s : State) : State := settleHead ((queueOf p q s).ready.length + 1) p q s

end Sys2Proof.Machine
end

