-- ==== Sys2Proof/Machine/Truss.lean ====
section
/-! DEFINITION. Machine/Truss.lean: the Truss, the resequencers, admission and the Deck commands (R467 to R501). -/

namespace Sys2Proof.Machine

open Sys2Proof

/-! ### Slots (R467, R468, R484) -/

/-- The Truss runs, also in Freeze to deliver what it holds (R489, R490). -/
def trussRuns (s : State) : Bool := dataPlaneMode s.sup.mode || decide (s.sup.mode = .freeze)

/-- A new slot: frees made before it count from now on (R484). (DEDUCED: log entry 183) -/
def enterSlot (t : Nat) (s : State) : State :=
  if s.dp.slot < t then
    let decks := s.dp.deck.map fun d => (d.1, { d.2 with slotCells := 0, slotDesc := 0, slotEntries := 0 })
    { s with dp := { s.dp with slot := t, slotLaunched := [], slotSent := [], deck := decks.filter fun d => decide (d.2 ≠ {}) } }
  else s

/-- Middle plane `m`. -/
def planeOf (m : Nat) (s : State) : Plane := Tbl.get {} s.dp.plane m

/-- Change plane `m`. -/
def updPlane (m : Nat) (f : Plane → Plane) (s : State) : State :=
  { s with dp := { s.dp with plane := Tbl.upd {} s.dp.plane m f } }

/-- Place (m, k, d) is free (R473). -/
def placeFree (m k d : Nat) (s : State) : Bool :=
  !(planeOf m s).cells.any fun c => decide (c.pipe = k) && decide (c.deck = d)

/-- The Deck pipeline `k` sends to at plane `m`: the first from its pointer on with a head cell and a free place (R473). -/
def launchChoice (k m : Nat) (s : State) : Option Nat :=
  let x := pipeOf k s
  ((List.range 8).map fun i => (Tbl.get 0 x.rr m + i) % 8).find? fun d =>
    decide (Tbl.get [] x.queues d ≠ []) && placeFree m k d s

/-- Pipeline `k` sends the head cell of its queue for Deck `d` to plane `m`. -/
def launchCell (k m d : Nat) (s : State) : State :=
  match Tbl.get [] (pipeOf k s).queues d with
  | [] => s
  | c :: rest =>
    updPlane m (fun y => { y with cells := y.cells ++ [⟨k, d, s.dp.slot, c⟩] })
      (updPipe k (fun y => { y with queues := Tbl.set [] y.queues d rest, rr := Tbl.set 0 y.rr m ((d + 1) % 8) }) s)

/-- CELL_LAUNCH: in slot `slot`, pipeline `k` is connected to plane (k + slot) mod 8 (R468, R473). -/
def cellLaunchEffect (t : Nat) (k : Fin 8) (slot : Nat) (s0 : State) : State :=
  let s := advance t s0
  if trussRuns s ∧ s.dp.slot ≤ slot then
    let s1 := enterSlot slot s
    let m := (k + slot) % 8
    if s1.dp.slotLaunched.contains k then s1
    else
      match launchChoice k m s1 with
      | none => s1
      | some d => launchCell k m d { s1 with dp := { s1.dp with slotLaunched := k.val :: s1.dp.slotLaunched } }
  else s

/-- EV_TRUSS_CELL_ERR, at most once per plane per second (R495): kind 0 corrected, 1 uncorrectable. -/
def cellErrEvent (m kind : Nat) (s : State) : State :=
  let s1 := updPlane m (fun y => if kind = 0 then { y with newCorr := y.newCorr + 1 } else { y with newErr := y.newErr + 1 }) s
  let x := planeOf m s1
  if reportDue x.last (sNs 1) s.elapsed then
    raise .trussCellErr 0 (enc [(1, m), (1, kind), (4, if kind = 0 then x.newCorr else x.newErr)])
      (updPlane m (fun y =>
        { y with
          last := some s.elapsed
          newCorr := if kind = 0 then 0 else y.newCorr
          newErr := if kind = 0 then y.newErr else 0 }) s1)
  else s1

/-- A plane finds an ECC error in a cell (R475, R727). -/
def cellError (m kind : Nat) (s : State) : State :=
  let s1 := updPlane m (fun y => if kind = 0 then { y with corr := y.corr.add32 1 } else { y with err := y.err.add32 1 }) s
  let s2 :=
    if kind = 0 then s1
    else { s1 with dp := { s1.dp with cellErrSeen := s1.dp.cellErrSeen ||| BitVec.ofNat 8 (2 ^ m) } }
  cellErrEvent m kind (tallyAdd 4 1 s2)

/-- The first cell that waits at plane `m` for Deck `d` and arrived before slot `t` (R474). -/
def transferChoice (m d t : Nat) (s : State) : Option Transit :=
  (planeOf m s).cells.find? fun c => decide (c.deck = d) && decide (c.slot < t)

/-- PLANE_TRANSFER: in slot `slot`, plane `m` is connected to Deck (m + slot) mod 8 (R468, R474); `ecc` is 0 for a clean cell,
1 for a corrected one, 2 for one that is discarded (R475). -/
def planeTransferEffect (t : Nat) (m : Fin 8) (slot : Nat) (ecc : Fin 3) (s0 : State) : State :=
  let s := advance t s0
  if trussRuns s ∧ s.dp.slot ≤ slot then
    let s1 := enterSlot slot s
    let d := (m + slot) % 8
    if s1.dp.slotSent.contains m then s1
    else
      match transferChoice m d slot s1 with
      | none => s1
      | some c =>
        let s2 := updPlane m (fun y => { y with cells := y.cells.erase c })
          { s1 with dp := { s1.dp with slotSent := m.val :: s1.dp.slotSent } }
        let deliver := fun s => updDeck d (fun y => { y with arriving := y.arriving ++ [(c.pipe, c.cell)] }) s
        match ecc.val with
        | 0 => deliver s2
        | 1 => deliver (cellError m 0 s2)
        | _ => cellError m 1 s2
  else s

/-! ### Admission (R482 to R484) -/

/-- ALPHA_K and RED_LIMIT that decide in the present slot (R493, R498). (DEDUCED: log entry 184) -/
def admitCfg (p q : Nat) (s : State) : Int × Nat :=
  let x := queueOf p q s
  match x.old with
  | some (k, r, slot) => if slot = s.dp.slot then (k, r) else (x.alphaK, x.redLimit)
  | none => (x.alphaK, x.redLimit)

/-- The class is protected for admission in the present slot (R503). (DEDUCED: log entry 184) -/
def admitProtected (c : Nat) (s : State) : Bool :=
  match s.dp.protOld with
  | some (slot, mask) => if slot = s.dp.slot then bitOf mask c else bitOf s.dp.protClasses c
  | none => bitOf s.dp.protClasses c

/-- Indices of the admission counters (R492 table). -/
def cAdmitPkts : Nat := 0
def cAdmitBytes : Nat := 1
def cGreen : Nat := 2
def cYellow : Nat := 3
def cRed : Nat := 4
def cPool : Nat := 5
def cDesc : Nat := 6
def cKeep : Nat := 7

/-- Add to an admission counter of a queue. -/
def countAdmit (p q i n : Nat) (s : State) : State :=
  updQueue p q (fun y => { y with allot := Tbl.upd {} y.allot i (fun c => c.add64 n) }) s

/-- A refusal (R721 event 0x10). -/
def countRefusal (p q i : Nat) (s : State) : State := countEvt 0x10 [(1, p), (3, deckNum p)] 1 (countAdmit p q i 1 s)

/-- What an admission decision reads of the Deck: free descriptors and entries at the start of the slot, less what earlier
decisions took (R484). -/
structure Room where
  desc : Nat
  entries : Nat
deriving DecidableEq, Repr

/-- The counts an admission reads. (DEDUCED: log entry 187) -/
def roomOf (d : Nat) (s : State) : Room :=
  let y := deckOf d s
  ⟨y.freeDesc - y.slotDesc, y.freeEntries - y.slotEntries⟩

/-- Check 3 of R482: the threshold of the packet's colour. -/
def underThreshold (colour : Nat) (cfg : Int × Nat) (qn free : Nat) : Bool :=
  match colour with
  | 0 => decide (qn * 256 < 2 ^ (cfg.1 + 8).toNat * free)
  | 1 => decide (qn * 256 < 2 ^ (cfg.1 + 6).toNat * free)
  | _ => decide (qn < cfg.2)

/-- The counter of a failed check 3. -/
def thresholdCounter (colour : Nat) : Nat :=
  match colour with
  | 0 => cGreen
  | 1 => cYellow
  | _ => cRed

/-- The first check that fails for one target queue, as its counter; `taken` queues have passed before it (R482). -/
def admitCheck (x : Packet) (p taken : Nat) (r : Room) (s : State) : Option Nat :=
  if s.sup.mode = .keep ∧ !admitProtected x.cls s then some cKeep
  else if (r.desc = 0 ∧ taken = 0) ∨ r.entries ≤ taken then some cDesc
  else if underThreshold x.colour (admitCfg p x.queue s) (qlen (queueOf p x.queue s)) r.desc then none
  else some (thresholdCounter x.colour)

/-- EV_DECK_EXHAUSTED, at most once per Deck per resource per 10 s (R495). -/
def deckExhausted (d res : Nat) (s : State) : State :=
  let x := Tbl.get (none, 0) (deckOf d s).exhausted res
  let s1 := { s with dp := { s.dp with exhaustedSeen := s.dp.exhaustedSeen ||| BitVec.ofNat 8 (2 ^ d) } }
  let put := fun (v : Option Nat × Nat) (s : State) => updDeck d (fun y => { y with exhausted := Tbl.set (none, 0) y.exhausted res v }) s
  if reportDue x.1 (sNs 10) s.elapsed then
    raise .deckExhausted 0 (enc [(1, d), (1, res), (4, x.2 + 1)]) (put (some s.elapsed, 0) s1)
  else put (x.1, x.2 + 1) s1

/-- A refusal counted as DESC_DROP reports the resource it lacked (R495). -/
def refuse (x : Packet) (p i : Nat) (r : Room) (taken : Nat) (s : State) : State :=
  let s1 := countRefusal p x.queue i s
  if i = cDesc then deckExhausted (deckNum p) (if r.desc = 0 ∧ taken = 0 then 1 else 2) s1 else s1

/-- The target queues one after another: those that pass, by ascending port (R482). (DEDUCED: log entry 187) -/
def admitQueues (x : Packet) (r : Room) : List Nat → List Nat → State → List Nat × State
  | [], passed, s => (passed, s)
  | p :: ps, passed, s =>
    match admitCheck x p passed.length r s with
    | none => admitQueues x r ps (passed ++ [p]) s
    | some i => admitQueues x r ps passed (refuse x p i r passed.length s)

/-- A queue takes an entry for a packet that is being written; DEPTH_HWM follows its length (R480, R520). -/
def reserveEntry (p q : Nat) (s : State) : State :=
  updQueue p q (fun y =>
    let y1 := { y with reserved := y.reserved + 1 }
    if y1.depthHwm < qlen y1 then { y1 with depthHwm := qlen y1, depthHwmAt := s.tb.now } else y1) s

/-- Count an admission on a queue. -/
def countAdmitted (x : Packet) (p : Nat) (s : State) : State :=
  countEvt 0x0F [(1, p), (3, deckNum p)] 1
    (countAdmit p x.queue cAdmitBytes x.len (countAdmit p x.queue cAdmitPkts 1 (reserveEntry p x.queue s)))

/-- Take one descriptor, the packet's cells and an entry for each queue (R483). -/
def takeRoom (d cells entries : Nat) (s : State) : State :=
  updDeck d (fun y =>
    { y with
      freeCells := y.freeCells - cells
      freeDesc := y.freeDesc - 1
      freeEntries := y.freeEntries - entries
      minCells := min y.minCells (y.freeCells - cells)
      minDesc := min y.minDesc (y.freeDesc - 1)
      minEntries := min y.minEntries (y.freeEntries - entries) }) s

/-- The decision on a released head cell at Deck `d` (R482, R483): the write it begins, with no port where it is refused. -/
def allot (d : Nat) (x : Packet) (s : State) : Writing × State :=
  let r := roomOf d s
  let a := admitQueues x r (portsIn x.ports) [] s
  let id := s.dp.nextId
  let cells := cellCount x.len
  let refused : Writing := ⟨id, x, [], []⟩
  if a.1 = [] then (refused, a.2)
  else if (deckOf d s).freeCells - (deckOf d s).slotCells < cells then
    (refused, deckExhausted d 0 (forEach a.1 (fun p s => countRefusal p x.queue cPool s) a.2))
  else
    let s1 := takeRoom d cells a.1.length a.2
    let s2 := updDeck d (fun y => { y with stored := Tbl.set none y.stored id (some ⟨x, cells, a.1.length⟩) })
      { s1 with dp := { s1.dp with nextId := id + 1 } }
    (⟨id, x, a.1, []⟩, forEach a.1 (fun p s => countAdmitted x p s) s2)

/-! ### Resequencing (R476 to R478) -/

/-- Resequencer of pipeline `k` at Deck `d`. -/
def reseqOf (d k : Nat) (s : State) : Reseq := Tbl.get {} (deckOf d s).reseq k

/-- Change a resequencer. -/
def updReseq (d k : Nat) (f : Reseq → Reseq) (s : State) : State :=
  updDeck d (fun y => { y with reseq := Tbl.upd {} y.reseq k f }) s

/-- A port that can be served: formed and run by the mode, or a trunk port. (DEDUCED: log entry 188) -/
def portServed (p : Nat) (s : State) : Bool := portRuns p s || isTrunk p s

/-- The entry of a complete packet joins the tail of its queue (R480); with no port behind the queue it is dropped as R301
drops. A WFQ queue that was empty starts at V (R507). -/
def joinQueue (w : Writing) (p : Nat) (s : State) : State :=
  let q := w.pkt.queue
  let s1 := updQueue p q (fun y => { y with reserved := y.reserved - 1 }) s
  if portServed p s then
    settleQueue p q (updQueue p q (fun y =>
      { y with
        ready := y.ready ++ [⟨w.id, s.elapsed, false⟩]
        tagS := if y.ready = [] then max y.tagS (egressOf p s).v else y.tagS
        eligible := decide (y.ready ≠ []) && y.eligible }) s1)
  else countLinkDrop p (releaseRef (deckNum p) w.id s1)

/-- A port that was re-formed meanwhile abandons the packet as a mode drop (R500). -/
def abandonAtPort (w : Writing) (p : Nat) (s : State) : State :=
  countModeDrop p (releaseRef (deckNum p) w.id (updQueue p w.pkt.queue (fun y => { y with reserved := y.reserved - 1 }) s))

/-- The last cell of a packet has been written. -/
def completeWrite (w : Writing) (s : State) : State :=
  forEach w.abandoned (fun p s => abandonAtPort w p s) (forEach w.admitted (fun p s => joinQueue w p s) s)

/-- EV_RESEQ_TIMEOUT, at most once per Deck per second (R495). -/
def reseqEvent (d k skipped lost : Nat) (s : State) : State :=
  let s1 := updDeck d (fun y => { y with newSkipped := y.newSkipped + skipped, newLost := y.newLost + lost }) s
  let x := deckOf d s1
  if reportDue x.reseqReport (sNs 1) s.elapsed then
    raise .reseqTimeout 0 (enc [(1, d), (1, k), (4, x.newSkipped), (4, x.newLost)])
      (updDeck d (fun y => { y with reseqReport := some s.elapsed, newSkipped := 0, newLost := 0 }) s1)
  else s1

/-- A packet that lost a cell is abandoned (R478); one that was refused holds nothing. Answers the packets lost. (DEDUCED: log entry 186) -/
def abandonWrite (d : Nat) (w : Writing) (s : State) : Nat × State :=
  let ports := w.admitted ++ w.abandoned
  if ports = [] then (0, s)
  else
    let s1 := forEach ports (fun p s => updQueue p w.pkt.queue (fun y => { y with reserved := y.reserved - 1 }) s) s
    let s2 := updDeck d (fun y => { y with stored := Tbl.set none y.stored w.id none }) s1
    let s3 := deckFree d (cellCount w.pkt.len) 1 ports.length s2
    (1, updDeck d (fun y => { y with lostPkts := y.lostPkts.add64 1, lostBytes := y.lostBytes.add64 w.pkt.len }) s3)

/-- The packet in progress, if any, is abandoned. -/
def dropProgress (d k : Nat) (s : State) : Nat × State :=
  match (reseqOf d k s).writing with
  | none => (0, s)
  | some w => abandonWrite d w (updReseq d k (fun y => { y with writing := none }) s)

/-- A cell is released (R478, R482). -/
def releaseCell (d k : Nat) (c : Cell) (s : State) : State :=
  match c.pkt with
  | some x =>
    let s1 := (dropProgress d k s).2
    let a := allot d x s1
    if c.eop then completeWrite a.1 a.2 else updReseq d k (fun y => { y with writing := some a.1 }) a.2
  | none =>
    match (reseqOf d k s).writing with
    | none => s
    | some w => if c.eop then completeWrite w (updReseq d k (fun y => { y with writing := none }) s) else s

/-- `n` sequence numbers are skipped (R476, R478). -/
def skipCells (d k n : Nat) (s : State) : State :=
  if n = 0 then s
  else
    let s1 := updDeck d (fun y => { y with skipped := y.skipped.add64 n }) s
    let s2 := countEvt 0x11 [(3, d)] n { s1 with dp := { s1.dp with reseqSeen := s1.dp.reseqSeen ||| BitVec.ofNat 8 (2 ^ d) } }
    let a := dropProgress d k s2
    reseqEvent d k n a.1 a.2

/-- Distance of a sequence number after another (R471). -/
def seqAfter (a b : Nat) : Nat := (a + 65536 - b) % 65536

/-- Release the run of held cells that starts at NEXT. (DEDUCED: log entry 185) -/
def releaseRun : Nat → (d k : Nat) → State → State
  | 0, _, _, s => s
  | n + 1, d, k, s =>
    let r := reseqOf d k s
    match r.held.find? fun h => decide (h.cell.seq = r.next) with
    | none => s
    | some h =>
      releaseRun n d k (releaseCell d k h.cell
        (updReseq d k (fun y => { y with next := inc16 y.next, held := y.held.erase h }) s))

/-- The held cell with the lowest sequence number. -/
def lowestHeld (r : Reseq) : Option HeldCell :=
  r.held.foldl (fun b h =>
    match b with
    | none => some h
    | some x => if seqAfter h.cell.seq r.next < seqAfter x.cell.seq r.next then some h else some x) none

/-- Move NEXT to `target`: held cells below it are released in order, the numbers between them skipped (R476, R477). -/
def jumpNext : Nat → (d k target : Nat) → State → State
  | 0, _, _, _, s => s
  | n + 1, d, k, target, s =>
    let r := reseqOf d k s
    let left := seqAfter target r.next
    match lowestHeld r with
    | some h =>
      let gap := seqAfter h.cell.seq r.next
      if gap < left then
        let s1 := skipCells d k gap (updReseq d k (fun y => { y with next := inc16 h.cell.seq, held := y.held.erase h }) s)
        jumpNext n d k target (releaseCell d k h.cell s1)
      else skipCells d k left (updReseq d k (fun y => { y with next := target }) s)
    | none => skipCells d k left (updReseq d k (fun y => { y with next := target }) s)

/-- The window of a resequencer in cells (R476). -/
def reseqWindow : Nat := 64

/-- Set NEXT to `target` and release what is then in order. (DEDUCED: log entry 185) -/
def skipTo (d k target : Nat) (s : State) : State := releaseRun reseqWindow d k (jumpNext (reseqWindow + 1) d k target s)

/-- A cell at NEXT is released with the run behind it; a later one is held (R476). -/
def takeCell (d k : Nat) (c : Cell) (s : State) : State :=
  if c.seq = (reseqOf d k s).next then
    releaseRun reseqWindow d k (releaseCell d k c (updReseq d k (fun y => { y with next := inc16 y.next }) s))
  else updReseq d k (fun y => { y with held := y.held ++ [⟨c, s.elapsed⟩] }) s

/-- A resequencer takes a cell (R476). -/
def reseqCell (d k : Nat) (c : Cell) (s : State) : State :=
  let n := seqAfter c.seq (reseqOf d k s).next
  if 32768 ≤ n then updDeck d (fun y => { y with late := y.late.add64 1 }) s
  else if reseqWindow ≤ n then takeCell d k c (skipTo d k ((c.seq + 65536 - (reseqWindow - 1)) % 65536) s)
  else takeCell d k c s

/-- CELL_ARRIVAL: the first cell on its way to Deck `d` reaches its resequencer (R476). -/
def cellArrivalEffect (t : Nat) (d : Fin 8) (s0 : State) : State :=
  let s := advance t s0
  match (deckOf d s).arriving with
  | [] => s
  | (k, c) :: rest =>
    if trussRuns s then reseqCell d k c (updDeck d (fun y => { y with arriving := rest }) s) else s

/-- The longest a cell is held, in ns (R477). -/
def reseqHold : Nat := 2000

/-- RESEQ_TIMEOUT: the oldest held cell has been held for 2 µs (R477); no such interval ends in Freeze (R490). -/
def reseqTimeoutEffect (t : Nat) (d k : Fin 8) (s0 : State) : State :=
  let s := advance t s0
  let r := reseqOf d k s
  if dataPlaneMode s.sup.mode ∧ (r.held.any fun h => decide (h.at0 + reseqHold ≤ s.elapsed)) = true then
    match lowestHeld r with
    | none => s
    | some h => skipTo d k h.cell.seq (updDeck d (fun y => { y with timeouts := y.timeouts.add64 1 }) s)
  else s

/-! ### Commands (R492 to R495) -/

/-- Fields of DECK_QUEUE_SET in range (R493). -/
def deckQueueOk (p : List Byte) : Bool :=
  (decide (f1 p 1 ≤ 7) || decide (f1 p 1 = 0xFF)) && decide (-6 ≤ fieldInt p 2 1) && decide (fieldInt p 2 1 ≤ 3) &&
    decide (f2 p 4 ≤ 16384)

/-- The queues a request names. -/
def namedQueues (q : Nat) : List Nat := if q = 0xFF then List.range 8 else [q]

/-- Apply a DECK_QUEUE_SET payload: the present slot's admissions still see the old setting (R493, R498). -/
def setDeckQueue (p : List Byte) (s : State) : State :=
  forEach (namedQueues (f1 p 1)) (fun q s => updQueue (f1 p 0) q (fun y =>
    { y with
      old := some (admitCfg (f1 p 0) q s |>.1, admitCfg (f1 p 0) q s |>.2, s.dp.slot)
      alphaK := fieldInt p 2 1
      redLimit := f2 p 4 }) s) s

/-- DECK_QUEUE_SET. -/
def deckQueueSetBody (q : Req) (s : State) : Body :=
  checks [lenIs q 8, (decide (f1 q.payload 0 ≤ 127), .portNone), (deckQueueOk q.payload, .deckParam)]
    (okEmpty (setDeckQueue q.payload s))

/-- The admission counters of a queue. -/
def admitCounters (p q : Nat) (s : State) : List Ctr := (List.range 8).map (Tbl.get {} (queueOf p q s).allot)

/-- DECK_QUEUE_GET response. -/
def deckQueueResp (p q : Nat) (s : State) : List Byte :=
  let x := queueOf p q s
  enc [(1, p), (1, q), (1, twos 1 x.alphaK), (1, 0), (2, x.redLimit), (2, qlen x),
    (4, flags ((admitCounters p q s).map fun c => c.ovf))] ++ tb10 s.tb.now ++ be 2 0 ++
    (admitCounters p q s).flatMap fun c => be 8 c.val

/-- DECK_QUEUE_GET. -/
def deckQueueGetBody (q : Req) (s : State) : Body :=
  checks [lenIs q 4, (decide (f1 q.payload 0 ≤ 127), .portNone), (decide (f1 q.payload 1 ≤ 7), .deckParam)]
    (okResp s (deckQueueResp (f1 q.payload 0) (f1 q.payload 1) s))

/-- The counters of a Deck. -/
def deckCounters (x : Deck) : List Ctr := [x.timeouts, x.skipped, x.late, x.lostPkts, x.lostBytes]

/-- A count of free things, 0 for a Deck that is not powered (R496). (DESIGN CHOICE: log entry 191) -/
def freeShown (d n : Nat) (s : State) : Nat := if s.dp.powered.contains d then n else 0

/-- DECK_STATUS_GET response. -/
def deckStatusResp (d : Nat) (s : State) : List Byte :=
  let x := deckOf d s
  enc [(1, d), (1, 0), (2, freeShown d x.freeCells s), (2, freeShown d x.freeDesc s), (2, freeShown d x.freeEntries s),
    (2, freeShown d x.minCells s), (2, freeShown d x.minDesc s), (2, freeShown d x.minEntries s), (2, 0),
    (4, flags ((deckCounters x).map fun c => c.ovf))] ++ tb10 s.tb.now ++ be 2 0 ++
    ((deckCounters x).flatMap fun c => be 8 c.val) ++
    (List.range 8).flatMap fun k => enc [(2, (reseqOf d k s).next), (1, (reseqOf d k s).held.length), (1, 0)]

/-- CLEAR_MIN: the minima restart from the present values. -/
def clearMin (d : Nat) (s : State) : State :=
  updDeck d (fun y => { y with minCells := y.freeCells, minDesc := y.freeDesc, minEntries := y.freeEntries }) s

/-- DECK_STATUS_GET. -/
def deckStatusGetBody (q : Req) (s : State) : Body :=
  checks [lenIs q 4, (decide (f1 q.payload 0 ≤ 7), .deckParam)]
    (okResp (if bitOf (f1 q.payload 1) 0 then clearMin (f1 q.payload 0) s else s) (deckStatusResp (f1 q.payload 0) s))

/-- Cells in all launch queues of a pipeline. -/
def launchUsed (k : Nat) (s : State) : Nat := ((pipeOf k s).queues.map fun x => x.2.length).sum

/-- TRUSS_STATUS_GET response. -/
def trussStatusResp (s : State) : List Byte :=
  let ks := List.range 8
  let wide := ks.flatMap fun k => [(pipeOf k s).dropPkts.ovf, (pipeOf k s).dropBytes.ovf]
  let narrow := ks.flatMap fun m => [(planeOf m s).corr.ovf, (planeOf m s).err.ovf]
  be 4 (flags (wide ++ narrow)) ++ tb10 s.tb.now ++ be 2 0 ++
    (ks.flatMap fun k => enc [(2, launchUsed k s), (2, 0), (8, (pipeOf k s).dropPkts.val), (8, (pipeOf k s).dropBytes.val), (4, 0)]) ++
    ks.flatMap fun m => enc [(4, (planeOf m s).corr.val), (4, (planeOf m s).err.val)]

/-- TRUSS_STATUS_GET. -/
def trussStatusGetBody (q : Req) (s : State) : Body := checks [lenIs q 0] (okResp s (trussStatusResp s))

/-! ### The meanings -/

/-- DECK_QUEUE_SET. -/
def execDeckQueueSet (q : Req) (s : State) : Host.Outcome State Fault Refusal :=
  .next (kmpExec .deckQueueSet q (deckQueueSetBody q) s)

/-- DECK_QUEUE_GET. -/
def execDeckQueueGet (q : Req) (s : State) : Host.Outcome State Fault Refusal :=
  .next (kmpExec .deckQueueGet q (deckQueueGetBody q) s)

/-- DECK_STATUS_GET. -/
def execDeckStatusGet (q : Req) (s : State) : Host.Outcome State Fault Refusal :=
  .next (kmpExec .deckStatusGet q (deckStatusGetBody q) s)

/-- TRUSS_STATUS_GET. -/
def execTrussStatusGet (q : Req) (s : State) : Host.Outcome State Fault Refusal :=
  .next (kmpExec .trussStatusGet q (trussStatusGetBody q) s)

/-- CELL_LAUNCH. -/
def execCellLaunch (t : Nat) (k : Fin 8) (slot : Nat) (s : State) : Host.Outcome State Fault Refusal :=
  .next (cellLaunchEffect t k slot s)

/-- PLANE_TRANSFER. -/
def execPlaneTransfer (t : Nat) (m : Fin 8) (slot : Nat) (ecc : Fin 3) (s : State) : Host.Outcome State Fault Refusal :=
  .next (planeTransferEffect t m slot ecc s)

/-- CELL_ARRIVAL. -/
def execCellArrival (t : Nat) (d : Fin 8) (s : State) : Host.Outcome State Fault Refusal :=
  .next (cellArrivalEffect t d s)

/-- RESEQ_TIMEOUT. -/
def execReseqTimeout (t : Nat) (d : Fin 8) (k : Fin 8) (s : State) : Host.Outcome State Fault Refusal :=
  .next (reseqTimeoutEffect t d k s)

end Sys2Proof.Machine
end

