-- ==== Sys2Proof/Machine/Egress.lean ====
section
/-! DEFINITION. Machine/Egress.lean: scheduling, shaping, gates and their commands (R502 to R534). -/

namespace Sys2Proof.Machine

open Sys2Proof

/-! ### Eligibility (R505, R507) -/

/-- A shaper lets a frame start: it is disabled, or holds more than 0 tokens. -/
def shaperOk (x : Shaper) : Bool := !x.en || decide (0 < x.tokens)

/-- The wire length and transmission time of a stored packet on a port (R504). -/
def sizeOf (p : Nat) (x : Stored) (s : State) : Nat × Nat :=
  let l := wireLen p (frameBytes x.pkt p).length s
  (l, frameTicks p l s)

/-- Virtual channel of a class on a trunk port (R348). -/
def trunkVc (cls : Nat) (s : State) : Nat := if classProtected cls s then 1 else 2

/-- A trunk port can take a packet of `n` bytes: in UP no held packet and none of its channel waits to be cut into units
(R352); in HOLD the quota has room (R353). (DEDUCED: log entry 206) -/
def trunkRoom (p vc n : Nat) (s : State) : Bool :=
  let x := linkOf p s
  match x.state with
  | .up => decide (x.hold = []) && !x.txq.any fun e => decide (e.1 = vc)
  | .hold => decide (heldBytes x + n ≤ x.holdQuota * 2 ^ 20)
  | _ => true

/-- The gate test of R513, which a trunk port does not have (R517). (DEDUCED: log entry 208) -/
def gateTest (p q x d : Nat) (s : State) : Bool := isTrunk p s || gateFits p q x d s

/-- The head of a queue with its packet. -/
def headOf (p q : Nat) (s : State) : Option (QEntry × Stored) :=
  match (queueOf p q s).ready with
  | [] => none
  | e :: _ => (storedOf p e.id s).map fun x => (e, x)

/-- Both shapers of a queue let a frame start. -/
def tokensOk (p q : Nat) (s : State) : Bool := shaperOk (queueOf p q s).shaper && shaperOk (egressOf p s).shaper

/-- The queue is eligible at instant `x`, in 1/256 ns (R505). -/
def qEligible (p q x : Nat) (s : State) : Bool :=
  match headOf p q s with
  | none => false
  | some (_, y) =>
    tokensOk p q s && gateTest p q x (sizeOf p y s).2 s &&
      (!isTrunk p s || trunkRoom p (trunkVc y.pkt.cls s) (frameBytes y.pkt p).length s)

/-- A queue is examined: one that is not eligible, or was not at some time since the last examination, starts again from V
(R507); a head that only its close instant stops is counted once (R514). (DEDUCED: log entry 202) -/
def examineQueue (p x q : Nat) (s : State) : State :=
  let y := queueOf p q s
  match headOf p q s with
  | none => s
  | some (e, st) =>
    if qEligible p q x s then
      if y.eligible ∧ !closedSince p q (256 * (egressOf p s).seenAt) x s then s
      else updQueue p q (fun y => { y with tagS := max y.tagS (egressOf p s).v, eligible := true }) s
    else
      let s1 := updQueue p q (fun y => { y with eligible := false }) s
      if !isTrunk p s ∧ tokensOk p q s ∧ gateOpen p q x s ∧ !gateFits p q x (sizeOf p st s).2 s ∧ !e.waited then
        countEvt 0x12 [(1, p)] 1 (countTx p q 2 1 (updQueue p q (fun y =>
          { y with ready := { e with waited := true } :: y.ready.tail }) s1))
      else s1

/-- Examine every queue of a port. -/
def examine (p x : Nat) (s : State) : State :=
  updEgress p (fun y => { y with seenAt := x / 256 }) (forEach (List.range 8) (fun q s => examineQueue p x q s) s)

/-- The finishing tag of a queue's head (R507). -/
def finishTag (p q : Nat) (s : State) : Nat :=
  let y := queueOf p q s
  match headOf p q s with
  | none => y.tagS
  | some (_, st) => y.tagS + ((sizeOf p st s).1 * 65536 + y.weight - 1) / y.weight

/-- The queue with the smaller finishing tag, the higher-numbered one on equal tags. -/
def betterTag (p : Nat) (s : State) (best : Option Nat) (q : Nat) : Option Nat :=
  match best with
  | none => some q
  | some b => if finishTag p q s ≤ finishTag p b s then some q else some b

/-- The queue that is served next (R506). -/
def chooseQueue (p x : Nat) (s : State) : Option Nat :=
  let el := (List.range 8).filter fun q => qEligible p q x s
  match el.reverse.find? fun q => (queueOf p q s).strict with
  | some q => some q
  | none => el.foldl (betterTag p s) none

/-! ### A frame starts (R508, R509, R517, R520) -/

/-- Tokens a frame takes. -/
def takeTokens (l : Nat) (x : Shaper) : Shaper := if x.en then { x with tokens := x.tokens - l * 1000000 } else x

/-- EV_QUEUE_DELAY, at most once per queue per second (R527). -/
def delayEvent (p q ns : Nat) (s : State) : State :=
  let s1 := updQueue p q (fun y => { y with delayNew := y.delayNew + 1, delayMaxNew := max y.delayMaxNew ns }) s
  let x := queueOf p q s1
  if reportDue x.delayReport (sNs 1) s.elapsed then
    raise .queueDelay 0 (enc [(1, p), (1, q), (4, x.delayMaxNew), (4, x.delayNew)])
      (updQueue p q (fun y => { y with delayReport := some s.elapsed, delayNew := 0, delayMaxNew := 0 }) s1)
  else s1

/-- The sojourn of a packet that starts (R519, R520). (DEDUCED: log entry 203) -/
def noteSojourn (p q ns : Nat) (s : State) : State :=
  let s1 := updQueue p q (fun y =>
    { y with
      periodMax := max y.periodMax ns
      delayHwm := max y.delayHwm ns
      delayHwmAt := if y.delayHwm < ns then s.tb.now else y.delayHwmAt }) s
  let a := (queueOf p q s).alarmUs
  if a ≠ 0 ∧ a * 1000 < ns then
    delayEvent p q ns (countTx p q 4 1
      { s1 with dp := { s1.dp with delayAlarmMap := s1.dp.delayAlarmMap ||| BitVec.ofNat 128 (2 ^ p) } })
  else s1

/-- Add to the transmit window of a port (R722). -/
def bwTx (p n : Nat) (s : State) : State :=
  if s.cnt.bwStart ≤ s.tb.now then
    { s with cnt := { s.cnt with bw := Tbl.upd {} s.cnt.bw p (fun y => { y with txNow := y.txNow + n }) } }
  else s

/-- A transmitted frame is counted (R716, R721, R722). (DEDUCED: log entry 209) -/
def countSent (p q l : Nat) (s : State) : State :=
  let s1 := updPortCtrs p (fun c => { c with txFrames := c.txFrames.add64 1, txBytes := c.txBytes.add64 l }) s
  countTx p q 0 1 (countTx p q 1 l (bwTx p l (countEvt 0x04 [(1, p)] l (countEvt 0x03 [(1, p)] 1 s1))))

/-- A packet enters the Causeway link of a trunk port, or its hold store (R348, R353). -/
def sendTrunk (p : Nat) (x : Packet) (s : State) : State :=
  let vc := trunkVc x.cls s
  let b := frameBytes x p
  if (linkOf p s).state = .hold then updLink p (fun y => { y with hold := y.hold ++ [(vc, b)] }) s
  else updLink p (fun y => { y with txq := y.txq ++ [(vc, b, false)] }) s

/-- A frame goes out on a port, past the capture point (R701). -/
def sendFrame (p q : Nat) (x : Packet) (s : State) : State :=
  if isTrunk p s then sendTrunk p x (captureFrame p true (frameBytes x p) s.tb.now x.cls q s)
  else
    let b := frameBytes x p
    emit (.frame p (b ++ fcsOf b)) (captureFrame p true (b ++ fcsOf b) s.tb.now x.cls q s)

/-- The tags after a selection: V becomes F, and the next head starts from it (R507). -/
def advanceTags (p q f : Nat) (s : State) : State :=
  if (queueOf p q s).strict then s
  else updEgress p (fun y => { y with v := f }) (updQueue p q (fun y => { y with tagS := f }) s)

/-- Queues whose shaper, or whose port's shaper, is now empty are no longer eligible. -/
def lapseEmpty (p : Nat) (s : State) : State :=
  forEach (List.range 8) (fun q s =>
    if tokensOk p q s then s else updQueue p q (fun y => { y with eligible := false }) s) s

/-- The head frame of queue `q` starts at `x` (time base) and `xe` (elapsed clock), both in 1/256 ns. (DEDUCED: log entry 207) -/
def startFrame (p q x xe : Nat) (s : State) : State :=
  match headOf p q s with
  | none => s
  | some (e, st) =>
    let z := sizeOf p st s
    let f := finishTag p q s
    let down := !portUp p s
    let close := if isTrunk p s then none else closeAfter p q s gateFuel x
    let s1 := updQueue p q (fun y =>
      { y with ready := y.ready.tail, busy := y.busy + 1, shaper := takeTokens z.1 y.shaper }) s
    let s2 := updEgress p (fun y =>
      { y with shaper := takeTokens z.1 y.shaper, sending := some ⟨q, e.id, x + z.2, xe + z.2, close, down⟩ }) s1
    let s3 := lapseEmpty p (advanceTags p q f s2)
    let s4 :=
      if down then countLinkDrop p s3
      else sendFrame p q st.pkt (noteSojourn p q (sat32 (xe / 256 - e.joined)) (countSent p q z.1 s3))
    settleQueue p q s4

/-- The port starts the next eligible frame, if there is one (R506, R508). -/
def startNext (p x xe : Nat) (s : State) : State :=
  let s1 := examine p x s
  match chooseQueue p x s1 with
  | none => s1
  | some q => startFrame p q x xe s1

/-- The scheduler of a port runs. -/
def schedRuns (p : Nat) (s : State) : Bool := dataPlaneMode s.sup.mode && portServed p s

/-- TRANSMISSION_START: an idle port starts the next eligible frame (R508). -/
def transmissionStartEffect (t : Nat) (p : Fin 128) (s0 : State) : State :=
  let s := advance t s0
  if schedRuns p s ∧ (egressOf p s).sending = none then startNext p (256 * s.tb.now) (256 * s.elapsed) s else s

/-- TRANSMISSION_END: the frame in transmission has ended, IFG included, and the next one starts at once (R481, R508). -/
def transmissionEndEffect (t : Nat) (p : Fin 128) (s0 : State) : State :=
  let s := advance t s0
  match (egressOf p s).sending with
  | none => s
  | some x =>
    if 256 * s.elapsed < x.endAt then s
    else
      let s1 := endSending p s
      if !schedRuns p s1 then s1
      else if 256 * s.elapsed < x.endAt + 512 then startNext p x.endTb x.endAt s1
      else startNext p (256 * s.tb.now) (256 * s.elapsed) s1

/-! ### Shapers (R509, R510) -/

/-- A shaper at a refill instant: a change accepted before it applies first. -/
def refillShaper (now : Nat) (x : Shaper) : Shaper :=
  let fill := fun (y : Shaper) =>
    if y.en then { y with tokens := min (y.tokens + y.rate * 128) (y.burst * 1000000) } else y
  match x.next with
  | none => fill x
  | some (en, rate, burst, at0) =>
    if now ≤ at0 then fill x
    else if !en then { en := false, rate := rate, burst := burst, tokens := 0, next := none }
    else if x.en then
      fill { x with rate := rate, burst := burst, tokens := min x.tokens (burst * 1000000), next := none }
    else { en := true, rate := rate, burst := burst, tokens := burst * 1000000, next := none }

/-- SHAPER_REFILL (R509). -/
def shaperRefillEffect (t : Nat) (s0 : State) : State :=
  let s := advance t s0
  if refillDue s.dp.lastRefill s then
    let q1 := s.dp.queue.map fun p => (p.1, { p.2 with shaper := refillShaper s.elapsed p.2.shaper })
    let e1 := s.dp.egress.map fun p => (p.1, { p.2 with shaper := refillShaper s.elapsed p.2.shaper })
    { s with dp := { s.dp with
        queue := q1.filter fun p => decide (p.2 ≠ {})
        egress := e1.filter fun p => decide (p.2 ≠ {})
        lastRefill := some s.tb.now } }
  else s

/-- A shaper as the data plane starts: full, under its latest setting. (DEDUCED: log entry 205) -/
def startShaper (x : Shaper) : Shaper :=
  let y : Shaper :=
    match x.next with
    | none => x
    | some (en, rate, burst, _) => { x with en := en, rate := rate, burst := burst, next := none }
  { y with tokens := if y.en then y.burst * 1000000 else 0 }

/-- Egress as the data plane starts (R507, R520): V, tags, marks and samples from 0. (DEDUCED: log entry 205) -/
def startEgress (s : State) : State :=
  let q1 := s.dp.queue.map fun p => (p.1,
    { p.2 with
      ready := [], reserved := 0, busy := 0, shaper := startShaper p.2.shaper, tagS := 0, eligible := false,
      depthHwm := 0, depthHwmAt := 0, delayHwm := 0, delayHwmAt := 0, periodMax := 0, samples := [] })
  let e1 := s.dp.egress.map fun p => (p.1,
    { p.2 with shaper := startShaper p.2.shaper, v := 0, sending := none, seenAt := s.tb.now })
  { s with dp := { s.dp with
      queue := q1.filter fun p => decide (p.2 ≠ {})
      egress := e1.filter fun p => decide (p.2 ≠ {})
      periods := 0
      lastSample := none
      lastRefill := none } }

/-! ### Samples (R519) -/

/-- Samples each queue keeps. -/
def samplesKept : Nat := 16

/-- A queue at the end of period `n`; a sample of zeros is not listed. -/
def sampleQueue (n : Nat) (y : Queue) : Queue :=
  let old := y.samples.filter fun x => decide (n < x.1 + samplesKept)
  let new := if qlen y = 0 ∧ y.periodMax = 0 then [] else [(n, qlen y, y.periodMax)]
  { y with samples := new ++ old, periodMax := 0 }

/-- SAMPLE_PERIOD_END (R519). -/
def samplePeriodEndEffect (t : Nat) (s0 : State) : State :=
  let s := advance t s0
  if dataPlaneMode s.sup.mode ∧ s.tb.now % usNs s.dp.sampleUs = 0 ∧ s.dp.lastSample ≠ some s.tb.now then
    let q1 := s.dp.queue.map fun p => (p.1, sampleQueue (s.dp.periods + 1) p.2)
    { s with dp := { s.dp with
        queue := q1.filter fun p => decide (p.2 ≠ {})
        periods := s.dp.periods + 1
        lastSample := some s.tb.now } }
  else s

/-! ### Gate lists (R511, R515, R516, R532) -/

/-- A list or a removal takes over on a port (R516); source 0 command, 1 commit. -/
def switchGate (p source : Nat) (late : Bool) (lateNs : Nat) (list : Option GateList) (s : State) : State :=
  let s1 := updEgress p (fun y => { y with list := list, pend := none }) s
  let s2 := if dataPlaneMode s.sup.mode then forEach (List.range 8) (fun q s => settleQueue p q s) s1 else s1
  raise .gateTakeover 0 (enc [(1, p), (1, source), (1, flags [late, list.isNone]), (8, lateNs)]) s2

/-- The pending list of a port set by GATE_LIST_SET takes over where its instant is reached (R95, R516). (DEDUCED: log entry 197) -/
def takeoverDue (p : Nat) (late : Bool) (s : State) : State :=
  match (egressOf p s).pend with
  | none => s
  | some d =>
    if s.tb.quality ≠ .unset ∧ d.takeover ≤ s.tb.now ∧ !d.fromCommit then
      let at0 := if late then s.tb.now else d.takeover
      switchGate p 0 late (s.tb.now - d.takeover) (d.list.map fun l => { l with takeover := at0 }) s
    else s

/-- Every takeover whose instant has passed happens now, late: on the tick of a step, and where quality leaves UNSET
(R95, R516, R532). -/
def takeoversLate (s : State) : State := forEach (List.range 128) (fun p s => takeoverDue p true s) s

/-- EV_GATE_TAKEOVER: a takeover instant has come. -/
def gateTakeoverEffect (t : Nat) (p : Fin 128) (s0 : State) : State := takeoverDue p false (advance t s0)

/-- The end of a frame in transmission after a step of `d` ns. -/
def stepSending (d : Int) (x : Sending) : Sending := { x with endTb := ((x.endTb : Int) + 256 * d).toNat }

/-- The frame completes past the close instant of the window it started in. -/
def pastClose (x : Sending) : Bool :=
  match x.closeTb with
  | none => false
  | some c => decide (c < x.endTb)

/-- Egress after a step of the time base by `d` ns (R532): frames in transmission go on, EV_GATE_STEP is raised where a port
has a list, and takeovers the step passed happen on its tick, late. (DEDUCED: log entry 199) -/
def egressStep (d : Int) (s : State) : State :=
  let s1 := { s with dp := { s.dp with egress := s.dp.egress.map fun p =>
      (p.1, { p.2 with sending := p.2.sending.map (stepSending d) }) } }
  let lists := (s1.dp.egress.filter fun p => p.2.list.isSome).length
  let frames := (s1.dp.egress.filter fun p => p.2.sending.any pastClose).length
  takeoversLate (raiseIf (decide (lists ≠ 0)) .gateStep 0 (beInt 8 d ++ enc [(1, lists), (1, frames)]) s1)

/-! ### Settings (R522 to R526) -/

/-- Fields of EGRESS_CONFIG_SET in range. -/
def egressCfgOk (p : List Byte) : Bool := decide (10 ≤ f4 p 4) && decide (f4 p 4 ≤ 1000000)

/-- Apply an EGRESS_CONFIG_SET payload: admission in the present slot still sees the old mask (R503). -/
def setEgressCfg (p : List Byte) (s : State) : State :=
  let old := match s.dp.protOld with
    | some (slot, m) => if slot = s.dp.slot then m else s.dp.protClasses
    | none => s.dp.protClasses
  { s with dp := { s.dp with protClasses := f2 p 0, protOld := some (s.dp.slot, old), sampleUs := f4 p 4 } }

/-- EGRESS_CONFIG_SET. -/
def egressConfigSetBody (q : Req) (s : State) : Body :=
  checks [lenIs q 8, (egressCfgOk q.payload, .schedParam)] (okEmpty (setEgressCfg q.payload s))

/-- EGRESS_CONFIG_GET. -/
def egressConfigGetBody (q : Req) (s : State) : Body :=
  checks [lenIs q 0] (okResp s (enc [(2, s.dp.protClasses), (2, 0), (4, s.dp.sampleUs)]))

/-- A rate and a burst in range. -/
def rateOk (rate burst : Nat) : Bool :=
  decide (64 ≤ rate) && decide (rate ≤ 200000000) && decide (64 ≤ burst) && decide (burst ≤ 16777215)

/-- A queue record of SCHED_SET in range; WEIGHT is ignored for a strict queue. (DEDUCED: log entry 195) -/
def queueRecOk (r : List Byte) : Bool :=
  decide (f1 r 0 ≤ 1) && (decide (f1 r 0 = 1) || decide (1 ≤ f1 r 1)) && rateOk (f4 r 4) (f4 r 8) &&
    decide (f4 r 12 ≤ 4000000)

/-- Bytes of a SCHED_SET payload. -/
def schedLen : Nat := 140

/-- Record of queue `q` in a SCHED_SET payload. -/
def queueRec (p : List Byte) (q : Nat) : List Byte := slice p (12 + 16 * q) 16

/-- Fields of SCHED_SET in range (R523). -/
def schedOk (p : List Byte) : Bool := rateOk (f4 p 4) (f4 p 8) && (List.range 8).all fun q => queueRecOk (queueRec p q)

/-- A shaper setting waits for its refill instant (R510). -/
def setShaper (en : Bool) (rate burst now : Nat) (x : Shaper) : Shaper := { x with next := some (en, rate, burst, now) }

/-- Apply a queue record: a queue that becomes WFQ is treated as becoming eligible (R523). -/
def setQueueRec (r : List Byte) (now : Nat) (y : Queue) : Queue :=
  { y with
    strict := decide (f1 r 0 = 1)
    weight := if f1 r 1 = 0 then y.weight else f1 r 1
    eligible := y.eligible && decide (f1 r 0 = 1 ↔ y.strict = true)
    shaper := setShaper (bitOf (f1 r 2) 0) (f4 r 4) (f4 r 8) now y.shaper
    alarmUs := f4 r 12 }

/-- Apply a SCHED_SET payload. -/
def setSched (p : List Byte) (s : State) : State :=
  let s1 := updEgress (f1 p 0) (fun y =>
    { y with shaper := setShaper (bitOf (f1 p 1) 0) (f4 p 4) (f4 p 8) s.elapsed y.shaper }) s
  forEach (List.range 8) (fun q s => updQueue (f1 p 0) q (setQueueRec (queueRec p q) s.elapsed) s) s1

/-- SCHED_SET. -/
def schedSetBody (q : Req) (s : State) : Body :=
  checks [lenIs q schedLen, (decide (f1 q.payload 0 ≤ 127), .portNone), (schedOk q.payload, .schedParam)]
    (okEmpty (setSched q.payload s))

/-- Enable, rate and burst as last accepted. -/
def shaperSetting (x : Shaper) : Bool × Nat × Nat :=
  match x.next with
  | none => (x.en, x.rate, x.burst)
  | some (en, rate, burst, _) => (en, rate, burst)

/-- A queue record of SCHED_GET. -/
def queueRecOf (y : Queue) : List Byte :=
  let h := shaperSetting y.shaper
  enc [(1, b2n y.strict), (1, y.weight), (1, b2n h.1), (1, 0), (4, h.2.1), (4, h.2.2), (4, y.alarmUs)]

/-- SCHED_GET. -/
def schedGetBody (q : Req) (s : State) : Body :=
  let p := f1 q.payload 0
  let h := shaperSetting (egressOf p s).shaper
  checks [lenIs q 4, (decide (p ≤ 127), .portNone)]
    (okResp s (enc [(1, p), (1, b2n h.1), (2, 0), (4, h.2.1), (4, h.2.2)] ++
      (List.range 8).flatMap fun n => queueRecOf (queueOf p n s)))

/-- Entries of a GATE_LIST_SET payload: gates and interval in ns. -/
def gateEntries (p : List Byte) : List (Nat × Nat) :=
  (List.range (f2 p 2)).map fun i => (f1 p (32 + 4 * i), 2 * field p (33 + 4 * i) 3)

/-- Fields of ACTION 0 in range (R524). -/
def gateFieldsOk (p : List Byte) : Bool :=
  let es := gateEntries p
  let cycle := f4 p 4
  decide (1 ≤ f2 p 2) && decide (f2 p 2 ≤ 256) && decide (1000 ≤ cycle) && decide (cycle ≤ 1000000000) &&
    decide (cycle % 2 = 0) && (es.all fun e => decide (e.2 ≠ 0)) && decide ((es.map fun e => e.2).sum ≤ cycle)

/-- The payload passes E_GATE_PARAM (R524). -/
def gateParamOk (p : List Byte) : Bool :=
  decide (p.length = 32 + 4 * f2 p 2) &&
    match f1 p 1 with
    | 0 => gateFieldsOk p
    | 1 => decide (f2 p 2 = 0) && decide (f4 p 4 = 0) && decide (field p 8 10 = 0) && decide (field p 18 10 = 0)
    | 2 => decide (f2 p 2 = 0) && decide (f4 p 4 = 0) && decide (field p 8 10 = 0)
    | _ => false

/-- The pending list or removal a payload asks for. -/
def gatePendOf (p : List Byte) (takeover : Nat) (fromCommit : Bool) : GatePend :=
  let l : Option GateList := if f1 p 1 = 0 then some ⟨gateEntries p, f4 p 4, tbField p 8, takeover⟩ else none
  ⟨l, takeover, fromCommit⟩

/-- GATE_LIST_SET (R524). (DEDUCED: log entries 197, 198) -/
def gateListSetBody (q : Req) (s : State) : Body :=
  let p := q.payload
  let port := f1 p 0
  let pend := (egressOf port s).pend
  let takeover := tbField p 18
  checks [(decide (port ≤ 127), .portNone), (!isTrunk port s, .gateTrunk), (gateParamOk p, .gateParam),
      (tbFieldOk p 8 && tbFieldOk p 18, .badTime),
      (!(pend.any fun d => d.fromCommit), .gatePending),
      (decide (takeover = 0) || decide (s.tb.now < takeover), .gatePast),
      (decide (f1 p 1 ≠ 1) || pend.isSome, .gateNone)]
    (if f1 p 1 = 1 then okResp (updEgress port (fun y => { y with pend := none }) s) (enc [(1, 2), (3, 0)])
     else
      let at0 := if takeover = 0 then s.tb.now + tickNs s.sup.mode else takeover
      okResp (updEgress port (fun y => { y with pend := some (gatePendOf p at0 false) }) s)
        (enc [(1, b2n pend.isSome), (3, 0)]))

/-- Index of the entry in force at a position. -/
def entryAt (pos : Nat) : Nat → Nat → List (Nat × Nat) → Nat
  | _, i, [] => i
  | _, i, [_] => i
  | start, i, e :: es => if pos < start + e.2 * 256 then i else entryAt pos (start + e.2 * 256) (i + 1) es

/-- GATE_LIST_GET response: the layout of GATE_LIST_SET with WHICH, STATE and CURRENT_ENTRY laid over it. (DEDUCED: log entry 196) -/
def gateListResp (port which state current takeover : Nat) (l : Option GateList) : List Byte :=
  let cycle := (l.map fun g => g.cycle).getD 0
  let base := (l.map fun g => g.base).getD 0
  let es := (l.map fun g => g.entries).getD []
  enc [(1, port), (1, which), (1, state), (1, 0), (2, cycle / 65536), (2, current)] ++ tb10 base ++ tb10 takeover ++ be 4 0 ++
    es.flatMap fun e => be 1 e.1 ++ be 3 (e.2 / 2)

/-- GATE_LIST_GET; CURRENT_ENTRY without a list is a free value. -/
def gateListGetBody (q : Req) (s : State) : Body :=
  let port := f1 q.payload 0
  let which := f1 q.payload 1
  let g := egressOf port s
  let none0 := okResp (bumpFree s) (gateListResp port which 0 (Config.freeNat s.freeCtr % 65536) 0 none)
  checks [lenIs q 4, (decide (port ≤ 127), .portNone), (decide (which ≤ 1), .gateParam)]
    (if which = 0 then
      match g.list with
      | none => none0
      | some l => okResp s (gateListResp port 0 1 (entryAt (gatePos l (256 * s.tb.now)) 0 0 l.entries) l.takeover (some l))
     else
      match g.pend with
      | none => none0
      | some d => okResp s (gateListResp port 1 (if d.list.isSome then 2 else 3) 0xFFFF d.takeover d.list))

/-- The egress counters of a queue. -/
def txCounters (y : Queue) : List Ctr := (List.range 5).map (Tbl.get {} y.tx)

/-- The sample of period `n`: depth and largest sojourn. -/
def sampleOf (y : Queue) (n : Nat) : Nat × Nat :=
  match y.samples.find? fun x => decide (x.1 = n) with
  | some x => x.2
  | none => (0, 0)

/-- QUEUE_STATUS_GET response. (DEDUCED: log entry 204) -/
def queueStatusResp (p q : Nat) (s : State) : List Byte :=
  let y := queueOf p q s
  let closed := !isTrunk p s && !gateOpen p q (256 * s.tb.now) s
  let state := flags [decide (y.ready ≠ []), y.shaper.en && decide (y.shaper.tokens ≤ 0), closed,
    (y.ready.head?.map fun e => e.waited).getD false]
  let tokens : Int := if y.shaper.en then y.shaper.tokens / 1000000 else 0
  let valid := min samplesKept s.dp.periods
  enc [(1, p), (1, q), (1, state), (1, 0), (2, qlen y), (2, y.depthHwm)] ++ beInt 4 tokens ++ be 4 y.delayHwm ++
    tb10 y.depthHwmAt ++ tb10 y.delayHwmAt ++ tb10 s.tb.now ++ be 2 0 ++
    be 4 (flags ((txCounters y).map fun c => c.ovf)) ++ ((txCounters y).flatMap fun c => be 8 c.val) ++
    enc [(1, valid), (3, 0)] ++
    (List.range samplesKept).flatMap fun i =>
      let x := if i < valid then sampleOf y (s.dp.periods - i) else (0, 0)
      enc [(2, x.1), (2, 0), (4, x.2)]

/-- CLEAR_HWM: both marks restart from 0 (R520). (DEDUCED: log entry 204) -/
def clearHwm (p q : Nat) (s : State) : State :=
  updQueue p q (fun y => { y with depthHwm := 0, depthHwmAt := 0, delayHwm := 0, delayHwmAt := 0 }) s

/-- QUEUE_STATUS_GET. -/
def queueStatusGetBody (q : Req) (s : State) : Body :=
  let p := f1 q.payload 0
  let n := f1 q.payload 1
  checks [lenIs q 4, (decide (p ≤ 127), .portNone), (decide (n ≤ 7), .schedParam)]
    (okResp (if bitOf (f1 q.payload 2) 0 then clearHwm p n s else s) (queueStatusResp p n s))

/-! ### Stage items (R525, R526) -/

/-- Body of an item 0x0611: an EGRESS_CONFIG_SET payload and 128 SCHED_SET payloads in port order. -/
def schedItemOk (b : List Byte) : Bool :=
  decide (b.length = 8 + 128 * schedLen) && egressCfgOk b &&
    (List.range 128).all fun i =>
      let p := slice b (8 + schedLen * i) schedLen
      decide (f1 p 0 = i) && schedOk p

/-- Apply an item 0x0611. -/
def applySchedItem (b : List Byte) (s : State) : State :=
  forEach (List.range 128) (fun i s => setSched (slice b (8 + schedLen * i) schedLen) s) (setEgressCfg (b.take 8) s)

/-- The payloads of an item 0x0612 from an offset; none where they do not fill the body exactly. -/
def gatePayloads (b : List Byte) : Nat → Nat → Option (List (List Byte))
  | 0, off => if off = b.length then some [] else none
  | n + 1, off =>
    let len := 32 + 4 * f2 b (off + 2)
    if b.length < off + len then none
    else (gatePayloads b n (off + len)).map fun l => slice b off len :: l

/-- The payloads of an item 0x0612. -/
def gateItem (b : List Byte) : Option (List (List Byte)) := gatePayloads b (f2 b 0) 4

/-- A gate list item passes (R526). -/
def gateItemOk (b : List Byte) (s : State) : Bool :=
  match gateItem b with
  | none => false
  | some ps =>
    (ps.all fun p =>
      decide (f1 p 0 ≤ 127) && !isTrunk (f1 p 0) s && gateParamOk p && decide (f1 p 1 ≠ 1) && tbFieldOk p 8 &&
        decide (field p 18 10 = 0) && !((egressOf (f1 p 0) s).pend.any fun d => !d.fromCommit)) &&
      decide ((ps.map fun p => f1 p 0).Nodup)

/-- The lists of a commit armed for `epoch` are pending on their ports (R516, R524). -/
def armGateItem (b : List Byte) (epoch : Nat) (s : State) : State :=
  forEach ((gateItem b).getD []) (fun p s =>
    updEgress (f1 p 0) (fun y => { y with pend := some (gatePendOf p epoch true) }) s) s

/-- A commit is cancelled: its lists are pending no more. -/
def disarmGates (s : State) : State :=
  { s with dp := { s.dp with egress := (s.dp.egress.map fun p =>
      (p.1, if p.2.pend.any fun d => d.fromCommit then { p.2 with pend := none } else p.2)).filter fun p => decide (p.2 ≠ {}) } }

/-- The lists of a commit take over on the tick of its switch (R516). -/
def applyGateItem (b : List Byte) (late : Bool) (lateNs : Nat) (s : State) : State :=
  forEach ((gateItem b).getD []) (fun p s =>
    switchGate (f1 p 0) 1 late lateNs (gatePendOf p s.tb.now true).list s) s

/-! ### The meanings -/

/-- EGRESS_CONFIG_SET. -/
def execEgressConfigSet (q : Req) (s : State) : Host.Outcome State Fault Refusal :=
  .next (kmpExec .egressConfigSet q (egressConfigSetBody q) s)

/-- EGRESS_CONFIG_GET. -/
def execEgressConfigGet (q : Req) (s : State) : Host.Outcome State Fault Refusal :=
  .next (kmpExec .egressConfigGet q (egressConfigGetBody q) s)

/-- SCHED_SET. -/
def execSchedSet (q : Req) (s : State) : Host.Outcome State Fault Refusal :=
  .next (kmpExec .schedSet q (schedSetBody q) s)

/-- SCHED_GET. -/
def execSchedGet (q : Req) (s : State) : Host.Outcome State Fault Refusal :=
  .next (kmpExec .schedGet q (schedGetBody q) s)

/-- GATE_LIST_SET. -/
def execGateListSet (q : Req) (s : State) : Host.Outcome State Fault Refusal :=
  .next (kmpExec .gateListSet q (gateListSetBody q) s)

/-- GATE_LIST_GET. -/
def execGateListGet (q : Req) (s : State) : Host.Outcome State Fault Refusal :=
  .next (kmpExec .gateListGet q (gateListGetBody q) s)

/-- QUEUE_STATUS_GET. -/
def execQueueStatusGet (q : Req) (s : State) : Host.Outcome State Fault Refusal :=
  .next (kmpExec .queueStatusGet q (queueStatusGetBody q) s)

/-- TRANSMISSION_START. -/
def execTransmissionStart (t : Nat) (p : Fin 128) (s : State) : Host.Outcome State Fault Refusal :=
  .next (transmissionStartEffect t p s)

/-- SHAPER_REFILL. -/
def execShaperRefill (t : Nat) (s : State) : Host.Outcome State Fault Refusal :=
  .next (shaperRefillEffect t s)

/-- EV_GATE_TAKEOVER. -/
def execEvGateTakeover (t : Nat) (p : Fin 128) (s : State) : Host.Outcome State Fault Refusal :=
  .next (gateTakeoverEffect t p s)

/-- SAMPLE_PERIOD_END. -/
def execSamplePeriodEnd (t : Nat) (s : State) : Host.Outcome State Fault Refusal :=
  .next (samplePeriodEndEffect t s)

/-- TRANSMISSION_END. -/
def execTransmissionEnd (t : Nat) (p : Fin 128) (s : State) : Host.Outcome State Fault Refusal :=
  .next (transmissionEndEffect t p s)

end Sys2Proof.Machine
end

