-- ==== Sys2Proof/Machine/TimeOps.lean ====
section
/-! DEFINITION. Machine/TimeOps.lean: steps of the time base, its quality and sources, time snapshots and general timers
(R79 to R96, R238, R723). -/

namespace Sys2Proof.Machine

open Sys2Proof

/-! ### Bandwidth windows and monitors at a step (R722 to R725) -/

/-- The first multiple of `w` at or after `x`. (DEDUCED: log entry 271) -/
def nextMultiple (w x : Nat) : Nat := (x + (w - 1)) / w * w

/-- A port's window ends; `peaks` says whether it takes part in the peaks (R722, R723). -/
def endBwPort (start : Nat) (stepped : Bool) (y : BwPort) : BwPort :=
  let rxUp := !stepped && decide (y.rxPeak < y.rxNow)
  let txUp := !stepped && decide (y.txPeak < y.txNow)
  { rxNow := 0
    txNow := 0
    lastStart := start
    rxLast := y.rxNow
    txLast := y.txNow
    stepped := stepped
    rxPeak := if rxUp then y.rxNow else y.rxPeak
    txPeak := if txUp then y.txNow else y.txPeak
    rxPeakAt := if rxUp then start else y.rxPeakAt
    txPeakAt := if txUp then start else y.txPeakAt }

/-- The window in progress of every port ends. (DEDUCED: log entry 50) -/
def endBwWindow (stepped : Bool) (s : State) : State :=
  let bw := (List.range 128).foldl (fun b p => Tbl.upd {} b p (endBwPort s.cnt.bwStart stepped)) s.cnt.bw
  { s with cnt := { s.cnt with bw := bw } }

/-- Bandwidth windows run anew from the next multiple of BW_WINDOW_US on, the one in progress discarded. -/
def restartBw (s : State) : State :=
  let clear := s.cnt.bw.map fun e => (e.1, { e.2 with rxNow := 0, txNow := 0 })
  { s with cnt := { s.cnt with
      bwStart := nextMultiple (usNs s.cnt.bwWindowUs) s.tb.now
      bw := clear.filter fun e => decide (e.2 ≠ {}) } }

/-- The windows of monitors over a datapath event counter see the step; those over bandwidth skip the window it ends (R725). -/
def stepMonitor (running : Bool) (now : Nat) (m : Monitor) : Monitor :=
  if m.kind = 1 then
    if m.startValue.isSome then { m with stepped := true, windowStart := now / msNs m.windowMs * msNs m.windowMs }
    else { m with windowStart := nextMultiple (msNs m.windowMs) now }
  else if m.kind = 4 ∧ running then { m with skipped := m.skipped.add32 1 }
  else m

/-- Bandwidth windows and monitors at a step from the instant `old` (R723, R725). (DEDUCED: log entry 50) -/
def stepWindows (old : Nat) (s : State) : State :=
  let running := dataPlaneMode s.sup.mode && decide (s.cnt.bwStart ≤ old)
  let s1 := restartBw (if running then endBwWindow true s else s)
  { s1 with cnt := { s1.cnt with monitors := s1.cnt.monitors.map fun e => (e.1, stepMonitor running s.tb.now e.2) } }

/-! ### Quality, steps and the RTC trim (R81, R85, R86, R90) -/

/-- `a` divided by `b`, rounded to the nearest whole number, a half upwards. (DEDUCED: log entry 42) -/
def roundDiv (a : Int) (b : Nat) : Int := (2 * a + b) / (2 * b : Int)

/-- RTC_TRIM learns from an offset that ends a period of quality HELD (R90). (DEDUCED: log entry 42) -/
def learnTrim (off : Int) (s : State) : State :=
  match s.disc.heldUnaligned with
  | none => s
  | some ns =>
    let s1 := { s with disc := { s.disc with heldUnaligned := none, firstOffset := none } }
    let est := roundDiv (off * 10000000) ns * 100
    if s.tb.rtcLearn ∧ sNs 3600 ≤ ns ∧ est.natAbs ≤ 50000 then
      let old := s.rtc.trimPpb
      let new := max (-200000) (min 200000 (old + est))
      raise .rtcTrim 0 (beInt 4 old ++ beInt 4 new)
        { s1 with rtc := { s1.rtc with ticks := rtcTicks s1, since := s1.elapsed, trimPpb := new } }
    else s1

/-- The quality that a locked source gives. -/
def isLocked (q : Quality) : Bool := decide (q = .lockedPps ∨ q = .lockedPtp)

/-- Quality changes (R86); a lock that ends quality HELD without a step trains the trim by the first offset (R90). -/
def setQuality (q : Quality) (s : State) : State :=
  if s.tb.quality = q then s
  else
    let s1 :=
      match s.disc.firstOffset with
      | some off => if isLocked q then learnTrim off s else s
      | none => s
    let s2 := { s1 with
      tb := { s1.tb with quality := q }
      disc := { s1.disc with
        heldUnaligned := if s1.tb.quality = .held then none else s1.disc.heldUnaligned
        firstOffset := none
        holdoverSince := if q = .holdover then some s1.elapsed else none } }
    let s3 := setCause causeTime (raise .timeQuality 0 (enc [(1, s.tb.quality.code), (1, q.code), (1, s.tb.source.code)]) s2)
    if s.tb.quality = .unset then takeoversLate s3 else s3

/-- A step of the time base by `d` ns, on one tick (R81, R85, R105, R532, R723); the cause is 0 TIME_SET, 1 PTP, 2 PPS. -/
def stepTime (d : Int) (cause : Nat) (s : State) : State :=
  let new := ((s.tb.now : Int) + d).toNat
  let s1 := { s with tb :=
    { s.tb with now := new, lastStepAt := new, stepCount := inc32 s.tb.stepCount, freqPpb := 0 } }
  let s2 := raise .timeStep 0 (beInt 8 d ++ [BitVec.ofNat 8 cause]) s1
  egressStep d (stepWindows s.tb.now (if s.tb.quality = .held then learnTrim d s2 else s2))

/-! ### Sources (R82 to R87) -/

/-- The follower's own sources are suspended while it follows the leader's time (R561). -/
def followsTime (s : State) : Bool := decide (s.span.role = .follower) && decide (s.span.state = .sync ∨ s.span.state = .joined)

/-- The sources in order. -/
def sourceOrder (s : State) : List Source := [s.tb.source1, s.tb.source2].filter fun x => decide (x ≠ .none)

/-- The source is locked. -/
def sourceLocked (x : Source) (s : State) : Bool :=
  match x with
  | .none => false
  | .pps => s.disc.ppsLocked
  | .ptp => s.disc.ptpLocked

/-- The source is received. -/
def sourceSeen (x : Source) (s : State) : Bool :=
  match x with
  | .none => false
  | .pps => s.disc.lastPpsAt.isSome
  | .ptp => s.disc.lastSyncAt.isSome

/-- The first locked source is taken; with none locked a locked time base holds over (R82, R86). -/
def reselect (s : State) : State :=
  match (sourceOrder s).find? fun x => sourceLocked x s with
  | some x => setQuality (if x = .pps then .lockedPps else .lockedPtp) { s with tb := { s.tb with source := x } }
  | none =>
    let s1 := { s with tb := { s.tb with source := .none } }
    if isLocked s.tb.quality then setQuality .holdover s1 else s1

/-- The source that disciplines the time base: the first locked one, or before any lock the first one received. (DEDUCED: log entry 39) -/
def discSource (s : State) : Source :=
  match (sourceOrder s).find? fun x => sourceLocked x s with
  | some x => x
  | none => ((sourceOrder s).find? fun x => sourceSeen x s).getD .none

/-- The frequency correction of a slew: any value within SLEW_PPM in the offset's direction (R85). (DESIGN CHOICE: log entry 38) -/
def slewPpb (off : Int) (s : State) : Int :=
  let n : Int := (1 + Config.freeNat s.freeCtr % (s.tb.slewPpm * 1000) : Nat)
  if off = 0 then 0 else if 0 < off then n else -n

/-- The last measurement beyond STEP_NS of a source. -/
def lastBig (x : Source) (s : State) : Option Int := if x = .pps then s.disc.lastBigPps else s.disc.lastBigPtp

/-- Keep it. -/
def setBig (x : Source) (v : Option Int) (s : State) : State :=
  if x = .pps then { s with disc := { s.disc with lastBigPps := v } } else { s with disc := { s.disc with lastBigPtp := v } }

/-- The disciplining source's offset is slewed away, or stepped at the second large one that agrees (R85). -/
def correct (x : Source) (off : Int) (s : State) : State :=
  let first := if s.tb.quality = .held ∧ s.disc.heldUnaligned.isSome then some (s.disc.firstOffset.getD off) else s.disc.firstOffset
  let s1 := { s with tb := { s.tb with offsetNs := off }, disc := { s.disc with firstOffset := first } }
  if off.natAbs ≤ s.tb.stepNs then
    bumpFree { (setBig x none s1) with tb := { s1.tb with freqPpb := slewPpb off s1 } }
  else
    match lastBig x s with
    | none => setBig x (some off) s1
    | some o =>
      if (off - o).natAbs ≤ 10000 then stepTime off (if x = .pps then 2 else 1) (setBig x none s1)
      else setBig x (some off) s1

/-- A source's run of good measurements, and its lock (R86). -/
def noteRun (x : Source) (off : Int) (s : State) : State :=
  match x with
  | .pps =>
    let n := if off.natAbs ≤ 100 then s.disc.ppsGood + 1 else 0
    { s with disc := { s.disc with ppsGood := min n 8, ppsLocked := s.disc.ppsLocked || decide (8 ≤ n) } }
  | _ =>
    let n := if off.natAbs ≤ 1000 then s.disc.ptpGood + 1 else 0
    { s with disc := { s.disc with ptpGood := min n 16, ptpLocked := s.disc.ptpLocked || decide (16 ≤ n) } }

/-- A measurement of a configured source (R82, R85, R86). -/
def measure (x : Source) (off : Int) (s : State) : State :=
  let s1 := if discSource s = x then correct x off s else s
  reselect (noteRun x off s1)

/-- A source is lost, or no longer configured: its lock and its run end (R87). -/
def loseSource (x : Source) (s : State) : State :=
  let s1 :=
    match x with
    | .pps => { s with disc := { s.disc with ppsGood := 0, ppsLocked := false, lastBigPps := none } }
    | _ => { s with disc := { s.disc with ptpGood := 0, ptpLocked := false, lastSyncAt := none, lastBigPtp := none } }
  if followsTime s1 then s1 else reselect s1

/-- Locks and runs start afresh. (DEDUCED: log entry 41) -/
def resetSources (s : State) : State :=
  { s with
    tb := { s.tb with source := .none }
    disc := { s.disc with ppsGood := 0, ptpGood := 0, ppsLocked := false, ptpLocked := false, lastBigPps := none, lastBigPtp := none } }

/-! ### Carrying time through Shelf (R88, R89) -/

/-- Entry to Watch from Shelf: the time base is loaded from the RTC (R89). (DEDUCED: log entry 64) -/
def loadTime (s : State) : State :=
  let now := rtcNs s
  let good := s.rtc.valid && !s.tb.rtcFail
  let s1 := setQuality (if good then .held else .unset) { s with tb := { s.tb with now := now } }
  { s1 with disc := { s1.disc with
      heldUnaligned := if good then some (now - sNs s.rtc.alignedS) else none
      firstOffset := none } }

/-- Entry to Shelf: the time base stops (R80, R94). -/
def stopTimeBase (s : State) : State :=
  { s with
    tb := { s.tb with source := .none, freqPpb := 0 }
    disc := { syncIntervalNs := s.disc.syncIntervalNs }
    timers := [] }

/-! ### Snapshots and general timers (R92, R93, R238) -/

/-- A time snapshot with its CAUSE: 0 TIME_LATCH, 1 TAKE, 2 1PPS (R238). -/
def takeSnap (cause : Nat) (s : State) : State :=
  let x := s.host.snap
  setCause causeSnap { s with host := { s.host with snap :=
    { x with ns := s.tb.now % nsPerS, sec := s.tb.now / nsPerS, count := x.count + 1, cause := BitVec.ofNat 2 cause,
             quality := BitVec.ofNat 3 s.tb.quality.code } } }

/-- Timer `n`. -/
def timerOf (n : Nat) (s : State) : GTimer := Tbl.get {} s.timers n

/-- Set a timer. -/
def setTimer (n : Nat) (x : GTimer) (s : State) : State := { s with timers := Tbl.set {} s.timers n x }

/-- The timer a claim gets: the one it names, or any free one (R92). -/
def grantTimer (n : Nat) (s : State) : Option Nat :=
  if n = 0xFF then (List.range 8).find? fun i => decide ((timerOf i s).owner = .free)
  else if (timerOf n s).owner = .free then some n
  else none

/-- TOUTn starts from the pin's data bit as KMP takes GTn (R654). (DEDUCED: log entry 249) -/
def startTout (n : Nat) (s : State) : State :=
  { s with io := { s.io with tout := setBit s.io.tout n (bitOf s.io.data (n + 4)) } }

/-- An owner takes a timer and arms it. -/
def takeTimer (o : TimerOwner) (n start period : Nat) (s : State) : State :=
  setTimer n ⟨o, true, start, period, start⟩ (applyIf (decide (o = .kmp)) (startTout n) s)

/-- A timer is due (R93). -/
def timerDue (o : TimerOwner) (n : Nat) (s : State) : Bool :=
  let x := timerOf n s
  decide (x.owner = o) && x.armed && decide (x.next ≤ s.tb.now) && decide (tickNs s.sup.mode ≠ 0)

/-- Periods a due timer has missed: one fire stands for all that a step passed (R106). (DESIGN CHOICE: log entry 48) -/
def timerMissed (x : GTimer) (now : Nat) : Nat := if x.periodNs = 0 then 0 else (now - x.next) / x.periodNs

/-- A timer after it has fired: a periodic one compares next at the first START + k × PERIOD above the time base (R93, R106). -/
def firedTimer (x : GTimer) (now : Nat) : GTimer :=
  if x.periodNs = 0 then { x with armed := false }
  else { x with next := x.next + (timerMissed x now + 1) * x.periodNs }

end Sys2Proof.Machine
end

