-- ==== Sys2Proof/Machine/SpanOps.lean ====
section
/-! DEFINITION. Machine/SpanOps.lean: counted links, the join, the election, the split, and the traffic between the members
(R538 to R544, R549 to R565). -/

namespace Sys2Proof.Machine

open Sys2Proof

/-! ### Joint lanes and counted links (R537 to R539) -/

/-- The joint lanes of LANE_MASK. -/
def maskLanes (mask : Nat) : List Nat := ((List.range 16).filter fun n => bitOf mask n).map (128 + ·)

/-- The joint lanes the Span layer owns. -/
def jointLanes (s : State) : List Nat := maskLanes s.span.cfg.laneMask

/-- A link is UP to another module by the right lane (R539). -/
def linkValid (s : State) (l : Nat) : Bool :=
  let x := linkOf l s
  decide (x.state = .up) && x.peerSeen && decide (x.peerLane = l) && decide (x.peerSerial ≠ s.ident.serial.toNat)

/-- The SERIAL of the counted links: that of the lowest valid one. (DEDUCED: log entry 211) -/
def partnerOf (s : State) : Option Nat := ((jointLanes s).find? (linkValid s)).map fun l => (linkOf l s).peerSerial

/-- The counted links (R539). -/
def countedLanes (s : State) : List Nat :=
  (jointLanes s).filter fun l => linkValid s l && decide (partnerOf s = some (linkOf l s).peerSerial)

/-- LANES_COUNTED. -/
def countedMask (s : State) : Nat := ((countedLanes s).map fun l => 2 ^ (l - 128)).sum

/-- LANES_UP. -/
def upMask (s : State) : Nat :=
  (((jointLanes s).filter fun l => decide ((linkOf l s).state = .up)).map fun l => 2 ^ (l - 128)).sum

/-- An INIT on a joint link that fails a test of R539. (DEDUCED: log entry 212) -/
def wiringBad (l serial lane : Nat) (s : State) : Bool :=
  decide (lane ≠ l) || decide (serial = s.ident.serial.toNat) || (partnerOf s).any fun n => decide (n ≠ serial)

/-- The Span layer takes the joint lanes that no one else holds (R538). -/
def takeLanes (ls : List Nat) (s : State) : State :=
  forEach ls (fun l s => if (linkOf l s).formed ∨ (laneOf l s).owner ≠ .none then s else formJoint l s) s

/-- The joint lanes return to owner none (R541). -/
def releaseLanes (ls : List Nat) (s : State) : State := forEach ls (fun l s => releaseLink l s) s

/-! ### The join (R541) -/

/-- Receive halves of the joint lanes. -/
def wakeJoint (h : Half) (s : State) : State := forEach (jointLanes s) (fun l s => setRx l h s) s

/-- Entry to ALONE with a LAST_CAUSE: the receive halves sleep, the transmit halves go on (R541). (DEDUCED: log entry 213) -/
def enterAlone (cause : Nat) (s : State) : State :=
  let s1 := enterJoin .alone s
  wakeJoint .sleep { s1 with span := { s1.span with role := .none, lastCause := cause, probeAt := s1.elapsed } }

/-- ALONE for want of a comma or of links (R541, R568): cause 0 or 1. -/
def goAlone (cause : Nat) (s : State) : State := raise .spanAlone 0 [BitVec.ofNat 8 cause] (enterAlone 6 s)

/-- EV_SPAN_MISMATCH, at most once per 10 s (R568): kind 0 SPAN_ID, 1 MEMBER, and the partner's value. -/
def spanMismatch (kind value : Nat) (s : State) : State :=
  let s1 := enterAlone 7 s
  if reportDue s.span.lastMismatch (sNs 10) s.elapsed then
    raise .spanMismatch 0 (enc [(1, kind), (4, value)]) { s1 with span := { s1.span with lastMismatch := some s.elapsed } }
  else s1

/-- The module's own CLAIM for the round (R542). -/
def ownClaim (s : State) : Claim :=
  ⟨s.span.round, s.span.cfg.priority, s.ident.serial.toNat, s.span.cfg.member, s.span.cfg.spanId⟩

/-- A round of the election starts (R541, R542). -/
def startRound (n : Nat) (s : State) : State :=
  let s1 := { s with span := { s.span with round := n, roundAt := s.elapsed, claim := none } }
  sendVc0 (.claim (ownClaim s1)) s1

/-- Quality of a follower that is left to itself (R562). -/
def looseTime (s : State) : State :=
  if followsTime s then
    reselect (setQuality (if isLocked s.span.leaderQuality then .holdover else .free)
      { s with span := { s.span with role := .none } })
  else { s with span := { s.span with role := .none } }

/-- Enough links are counted. -/
def enoughLinks (s : State) : Bool := decide (s.span.cfg.minLanes ≤ (countedLanes s).length)

/-- Entry to PROBE (R541): the joint links are formed; a lane that is LOCKED already needs no comma to be found. -/
def enterProbe (s : State) : State :=
  let s1 := takeLanes (jointLanes s) (enterJoin .probe s)
  if (jointLanes s1).any fun l => decide ((laneOf l s1).align = .locked) then enterJoin .link s1 else s1

/-! ### Mirrored state (R550 to R552, R555) -/

/-- Item types of the mirrored tables: table images of TABLE 1 to 6 (R550, R553). -/
def isMirroredItem (i : Item) : Bool := decide (i.typ = 0x0410) && decide (1 ≤ f1 i.data 0) && decide (f1 i.data 0 ≤ 6)

/-- A learned entry as it is sent to the follower. -/
def learnedBytes (e : BEntry) : List Byte := enc [(2, e.vlan), (6, e.mac), (4, e.result)]

/-- A static entry that a command made, as BRIDGE_ENTRY_SET. -/
def staticBytes (e : BEntry) : List Byte := enc [(1, 0), (1, 1), (2, e.vlan), (6, e.mac), (4, e.result), (2, 0)]

/-- What the leader streams for a sync (R555): the mirrored items of its record, its FWD_CONFIG_SET settings (kind 2), and the
entries that came from no image (kinds 0 and 3). -/
def syncItems (settings : List Byte) (s : State) : List (Nat × List Byte) :=
  let rec0 := ((recordInForce s).map fun r => r.items).getD []
  let own := s.fwd.live.bridge.filterMap fun x =>
    x.2.bind fun e => if e.image then none else if e.static then some (0, staticBytes e) else some (3, learnedBytes e)
  ((itemsFor s.span.cfg.member rec0).filter isMirroredItem).map (fun i => (i.typ, i.data)) ++ [(2, settings)] ++ own

/-- Tables of a switch on the follower: the leader's mirrored items; port sets stay its own (R550). -/
def mirrorTables (l : List (Nat × List Byte)) (s : State) : Tables :=
  let items := (l.map fun x => (⟨x.1, x.2⟩ : Item)).filter isMirroredItem
  let tb := buildTables false s.fwd.labelBase items { s.fwd.live with bridge := [] }
  { tb with portset := s.fwd.live.portset }

/-- Place or move a learned entry as the leader has it (R551, R556). -/
def putLearned (vlan mac result : Nat) (s : State) : State :=
  match bridgeFind s.fwd.live vlan mac with
  | some (k, e) => if isDynamic e then putBridge k (some { e with result := result, lastSeen := s.tb.now }) s else s
  | none =>
    match freeWay vlan mac s with
    | some k => putBridge k (some ⟨vlan, mac, false, false, false, result, s.tb.now, false⟩) s
    | none => s

/-- The state of a body that succeeds. -/
def bodyState (b : Body) (s : State) : State :=
  match b with
  | .ok (s1, _) => s1
  | .error _ => s

/-- Apply a mirrored change (R551): kind 0 BRIDGE_ENTRY_SET, 1 BRIDGE_FLUSH, 2 FWD_CONFIG_SET, 3 a learned entry, 4 a removed
one. -/
def applyMirror (kind : Nat) (p : List Byte) (s : State) : State :=
  match kind with
  | 0 =>
    if f1 p 0 = 0 then bodyState (bridgeAdd (f2 p 2) (field p 4 6) (f4 p 10) (bitOf (f1 p 1) 0) s) s
    else bodyState (bridgeDelete (f2 p 2) (field p 4 6) s) s
  | 1 => removeDynamic (flushMatches p) s
  | 2 => setFwd p s
  | 3 => putLearned (f2 p 0) (field p 2 6) (f4 p 8) s
  | 4 => removeDynamic (fun e => decide (e.vlan = f2 p 0) && decide (e.mac = field p 2 6)) s
  | _ => s

/-- The follower installs a sync on one tick (R555). -/
def installSync (l : List (Nat × List Byte)) (s : State) : State :=
  let s1 := { s with fwd := { s.fwd with live := mirrorTables l s } }
  forEach (l.filter fun x => decide (x.1 ≤ 4)) (fun x s => applyMirror x.1 x.2 s) s1

/-- Dynamic entries take Span port numbers where they have local ones (R552). (DEDUCED: log entry 227) -/
def spanNumbers (s : State) : State :=
  if s.span.spanPorts then s
  else
    let move := fun (e : BEntry) =>
      if isDynamic e ∧ e.result < 128 then { e with result := 128 * s.span.cfg.member + e.result } else e
    { s with
      fwd := { s.fwd with live := { s.fwd.live with bridge := s.fwd.live.bridge.map fun x => (x.1, x.2.map move) } }
      span := { s.span with spanPorts := true } }

/-! ### Roles (R543, R544) -/

/-- The leader of two claims: the higher PRIORITY, then the lower SERIAL (R543). -/
def leaderOf (a b : Claim) : Nat :=
  if a.priority ≠ b.priority then (if b.priority < a.priority then a.serial else b.serial)
  else min a.serial b.serial

/-- The leader is decided or adopted: SYNC (R541, R544, R555, R561). -/
def takeRole (serial : Nat) (decided : Bool) (s : State) : State :=
  let leads := decide (serial = s.ident.serial.toNat)
  let role : Role := if leads then .leader else .follower
  let s1 := enterJoin .sync s
  let s2 := { s1 with span := { s1.span with role := role, partnerSerial := (partnerOf s).getD 0, timeOffset := 0 } }
  let s3 := raise .spanElected 0 (enc [(1, if leads then 1 else 2), (8, serial), (2, s.span.round), (1, b2n decided)]) s2
  if leads then sendVc0 (.sync (syncItems (fwdBytes s3) s3)) s3 else resetSources s3

/-- Entry to JOINED (R541, R549). (DEDUCED: log entry 218) -/
def enterJoined (items : List (Nat × List Byte)) (s : State) : State :=
  let us := (s.elapsed - s.span.enteredAt) / 1000
  let leads := decide (s.span.role = .leader)
  let s1 := if leads then spanNumbers s else installSync items { s with span := { s.span with spanPorts := true } }
  let s2 :=
    if leads then s1
    else
      { s1 with kmp := { s1.kmp with
          sessions := [], ctlCache := [], ctlLastRequestId := 0, waiting := [], stage := none } }
  let s3 := enterMode .span .command (enterJoin .joined s2)
  let s4 := { s3 with span := { s3.span with heartbeatAt := s3.elapsed, lowSince := none, launchq := [], seqs := [], reseq := [] } }
  modeChanged .full .span .command 0
    (raise .spanJoined 0 (enc [(8, s.span.partnerSerial), (2, countedMask s4), (4, us)]) s4)

/-! ### Split (R563 to R565) -/

/-- The ports whose mode drops count the packets of a joint launch queue: each packet's ingress port; of a packet whose head has
gone, the first port of its pipeline. -/
def queuePorts (k : Nat) : Nat → List (Nat × Cell) → List Nat
  | _, [] => []
  | cur, (_, c) :: cs =>
    let p := (c.pkt.map fun x => x.inPort).getD cur
    if c.eop then p :: queuePorts k (16 * k) cs else queuePorts k p cs

/-- The port whose mode drops count a remote packet for Deck `d`: its lowest target; of a flood, the first port of the Deck. -/
def remoteDropPort (d : Nat) (x : Packet) : Nat := (portsIn (x.ports % 2 ^ 128)).headD (16 * d)

/-- The packets that have not crossed are mode drops (R564). (DEDUCED: log entry 218) -/
def dropCrossing (s : State) : State :=
  let away := s.span.launchq.flatMap fun e => queuePorts e.1 (16 * e.1) e.2
  let partial0 := s.span.reseq.flatMap fun e =>
    ((e.2.gathered.toList ++ e.2.held.filterMap fun h => h.cell.pkt)).map (remoteDropPort (e.1 % 8))
  forEach (away ++ partial0) (fun p s => countModeDrop p s)
    { s with span := { s.span with launchq := [], reseq := [], seqs := [] } }

/-- A bridge result names a remote Span port (R564). -/
def namesRemote (s : State) (e : BEntry) : Bool := decide (e.result < 256) && decide (e.result / 128 ≠ s.span.cfg.member)

/-- The mailbox at a split: on the leader the sessions whose transport lay on the partner end; the follower starts with none
(R564). (DEDUCED: log entry 217) -/
def splitMailbox (leads : Bool) (s : State) : State :=
  if leads then
    let gone := s.kmp.sessions.filter fun x => x.dest.remote
    let s1 := forEach gone (fun x s => endSession x.number 0 0 s) s
    { s1 with kmp := { s1.kmp with
        sessions := s1.kmp.sessions.map fun x => { x with target := 0 }
        waiting := s1.kmp.waiting.filter fun w => !w.req.remote
        relayed := false } }
  else
    { s with kmp := { s.kmp with
        sessions := [], ctlCache := [], waiting := [], stage := none, ctlAckPoint := s.kmp.eventSeq } }

/-- A split with its LAST_CAUSE (R564); afterwards the join is sought again or given up. (DEDUCED: log entry 215) -/
def splitJoin (cause : Nat) (seek : Bool) (s : State) : State :=
  let leads := decide (s.span.role = .leader)
  let mask := countedMask s
  let s1 := removeDynamic (namesRemote s) (dropCrossing (countSpan 9 1 s))
  let s2 := enterJoin .off (looseTime s1)
  let s3 := enterMode .full .joinLost { s2 with span := { s2.span with lastCause := cause, lowSince := none } }
  let s4 := raise .spanSplit 0 (enc [(1, cause), (2, mask)]) (splitMailbox leads s3)
  if seek then enterProbe s4 else releaseLanes (jointLanes s4) s4

/-- A split that the partner or the links cause: the join is sought again with AUTO_JOIN set (R541). -/
def splitAuto (cause : Nat) (s : State) : State := splitJoin cause s.span.cfg.autoJoin s

/-- The join is left, from any state but OFF (R541, R564): cause 1 for a command, 5 where the partner has left by SPAN_LEAVE. -/
def quitJoin (cause : Nat) (s : State) : State :=
  match s.span.state with
  | .off => s
  | .joined => splitJoin cause false s
  | _ =>
    let s1 := enterJoin .off (looseTime s)
    releaseLanes (jointLanes s1) { s1 with span := { s1.span with lastCause := cause } }

/-- The module leaves the join and tells the partner (R541, R563). (DEDUCED: log entry 215) -/
def leaveJoin (cause : Nat) (byCommand : Bool) (s : State) : State :=
  if s.span.state = .off then s
  else quitJoin cause (if (countedLanes s).isEmpty then s else sendVc0 (.leaving byCommand) s)

/-- The module starts to seek a join (R541). -/
def seekJoin (s : State) : State := enterProbe s

/-- A joint lane of LANE_MASK is held by another owner (R566). (DEDUCED: log entry 214) -/
def jointHeld (s : State) : Bool :=
  (jointLanes s).any fun l => (linkOf l s).formed || decide ((laneOf l s).owner ≠ .none)

/-- Entry to Full with AUTO_JOIN set (R541). (DEDUCED: log entry 214) -/
def autoJoin (s : State) : State :=
  if s.span.cfg.autoJoin ∧ s.span.state = .off ∧ s.span.cfg.spanId ≠ 0 ∧ !jointHeld s then seekJoin s else s

/-- The count of links has changed (R541, R563, R572). -/
def spanRecount (s : State) : State :=
  match s.span.state with
  | .link => if enoughLinks s then startRound 1 (enterJoin .elect s) else s
  | .elect => if enoughLinks s then s else enterJoin .link s
  | .sync => if enoughLinks s then s else enterJoin .link (looseTime s)
  | .joined =>
    if enoughLinks s then
      if heldFor s.span.lowSince (msNs s.span.cfg.lossMs) s.elapsed then splitAuto 2 s
      else { s with span := { s.span with lowSince := none } }
    else { s with span := { s.span with lowSince := some (s.span.lowSince.getD s.elapsed) } }
  | _ => s

/-! ### Cells between the members (R557 to R560) -/

/-- DATA units of VC3 that wait on a link. -/
def vc3Waiting (x : CwLink) : Nat :=
  ((x.txq.filter fun e => decide (e.1 = 3)).map fun e => (e.2.1.length + 27) / 28).sum

/-- A counted link has VC3 credit for another cell. -/
def vc3Room (s : State) (l : Nat) : Bool :=
  let x := linkOf l s
  let c := x.peerCredits.getD 3 0xFFFF
  decide (c = 0xFFFF) || decide ((x.sentUnits.getD 3 0 + vc3Waiting x + 65536 - x.peerFreed.getD 3 0) % 65536 < c)

/-- The link a pipeline's next cell goes to: the first from its turn on with credit (R559). -/
def dealLink (k : Nat) (s : State) : Option Nat :=
  let turn := Tbl.get 0 s.span.rot k
  let ls := (countedLanes s).filter (vc3Room s)
  match ls.find? fun l => decide (turn ≤ l - 128) with
  | some l => some l
  | none => ls.head?

/-- The 280 bytes of a cell; the spec lays out neither its tag nor its frame bytes here. (DESIGN CHOICE: log entry 210) -/
def cellBytes (n : Nat) : List Byte := (List.range 280).map fun i => Config.freeByte (n + i)

/-- A pipeline's next cell is dealt to a link (R559). (DEDUCED: log entry 220) -/
def dealCell (k : Nat) (s : State) : State :=
  match Tbl.get [] s.span.launchq k, dealLink k s with
  | (d, c) :: rest, some l =>
    let s1 := updLink l (fun y => { y with txq := y.txq ++ [(3, cellBytes s.freeCtr, false)] }) s
    emit (.vc3 l k d c.seq c.sop c.eop c.pkt) (countSpan 1 1
      { s1 with
        freeCtr := s.freeCtr + 280
        span := { s1.span with
          launchq := Tbl.set [] s1.span.launchq k rest
          rot := Tbl.set 0 s1.span.rot k (l - 128 + 1) } })
  | _, _ => s

/-- Every pipeline deals a cell. -/
def dealCells (s : State) : State := if spanJoined s then forEach (List.range 8) (fun k s => dealCell k s) s else s

/-- The resequencer of source pipeline `k` and Deck `d` (R560). -/
def remoteOf (k d : Nat) (s : State) : RemoteReseq := Tbl.get {} s.span.reseq (k * 8 + d)

/-- Change it. -/
def updRemote (k d : Nat) (f : RemoteReseq → RemoteReseq) (s : State) : State :=
  { s with span := { s.span with reseq := Tbl.upd {} s.span.reseq (k * 8 + d) f } }

/-- A packet that has crossed enters the launch queue of its pipeline; a flood goes to the receiving member's own MEMBERS
(R552, R560). -/
def launchReceived (x : Packet) (s : State) : State :=
  let v := vlanOf x.vlan s
  launchLocal { x with ports := if bitOf x.ports 256 then v.members else x.ports, untagged := v.untagged } s

/-- A remote cell is released in order. -/
def releaseRemote (k d : Nat) (c : Cell) (s : State) : State :=
  match c.pkt with
  | some x => if c.eop then launchReceived x (updRemote k d (fun y => { y with gathered := none }) s)
              else updRemote k d (fun y => { y with gathered := some x }) s
  | none =>
    match (remoteOf k d s).gathered with
    | none => s
    | some x => if c.eop then launchReceived x (updRemote k d (fun y => { y with gathered := none }) s) else s

/-- `n` numbers are skipped: the packet in progress is lost (R560). -/
def skipRemote (k d n : Nat) (s : State) : State :=
  if n = 0 then s else countSpan 6 n (updRemote k d (fun y => { y with gathered := none }) s)

/-- The held cell nearest after NEXT. -/
def lowestRemote (r : RemoteReseq) : Option HeldCell :=
  r.held.foldl (fun a h =>
    match a with
    | none => some h
    | some x => if seqAfter h.cell.seq r.next < seqAfter x.cell.seq r.next then some h else some x) none

/-- Release the run of held cells that starts at NEXT. -/
def runRemote : Nat → (k d : Nat) → State → State
  | 0, _, _, s => s
  | n + 1, k, d, s =>
    let r := remoteOf k d s
    match r.held.find? fun h => decide (h.cell.seq = r.next) with
    | none => s
    | some h =>
      runRemote n k d (releaseRemote k d h.cell
        (updRemote k d (fun y => { y with next := inc16 y.next, held := y.held.erase h }) s))

/-- Move NEXT to `target`: held cells below it are released in order, the numbers between them skipped. -/
def jumpRemote : Nat → (k d target : Nat) → State → State
  | 0, _, _, _, s => s
  | n + 1, k, d, target, s =>
    let r := remoteOf k d s
    let left := seqAfter target r.next
    match lowestRemote r with
    | some h =>
      let gap := seqAfter h.cell.seq r.next
      if gap < left then
        let s1 := skipRemote k d gap (updRemote k d (fun y => { y with next := inc16 h.cell.seq, held := y.held.erase h }) s)
        jumpRemote n k d target (releaseRemote k d h.cell s1)
      else skipRemote k d left (updRemote k d (fun y => { y with next := target }) s)
    | none => skipRemote k d left (updRemote k d (fun y => { y with next := target }) s)

/-- The window of a remote resequencer in cells (R560). -/
def remoteWindow : Nat := 256

/-- Set NEXT to `target` and release what is then in order. -/
def skipRemoteTo (k d target : Nat) (s : State) : State :=
  runRemote remoteWindow k d (jumpRemote (remoteWindow + 1) k d target s)

/-- A cell at NEXT is released with the run behind it; a later one is held. -/
def takeRemote (k d : Nat) (c : Cell) (s : State) : State :=
  if c.seq = (remoteOf k d s).next then
    runRemote remoteWindow k d (releaseRemote k d c (updRemote k d (fun y => { y with next := inc16 y.next }) s))
  else updRemote k d (fun y => { y with held := y.held ++ [⟨c, s.elapsed⟩] }) s

/-- A remote resequencer takes a cell (R476, R560). (DEDUCED: log entry 220) -/
def remoteCell (k d : Nat) (c : Cell) (s : State) : State :=
  let n := seqAfter c.seq (remoteOf k d s).next
  if 32768 ≤ n then s
  else if remoteWindow ≤ n then takeRemote k d c (skipRemoteTo k d ((c.seq + 65536 - (remoteWindow - 1)) % 65536) s)
  else takeRemote k d c s

end Sys2Proof.Machine
end

