-- ==== Sys2Proof/Machine/Span.lean ====
section
/-! DEFINITION. Machine/Span.lean: the Span commands, and the events of a join (R535 to R574). -/

namespace Sys2Proof.Machine

open Sys2Proof

/-! ### Commands (R566, R567) -/

/-- Join states of SPAN_STATUS_GET. -/
def Join.code : Join → Nat
  | .off => 0
  | .probe => 1
  | .alone => 2
  | .link => 3
  | .elect => 4
  | .sync => 5
  | .joined => 6

/-- Roles of SPAN_STATUS_GET. -/
def Role.code : Role → Nat
  | .none => 0
  | .leader => 1
  | .follower => 2

/-- Settings of a SPAN_CONFIG_SET payload. -/
def spanCfgOf (p : List Byte) : SpanCfg :=
  ⟨f1 p 0, f1 p 1, bitOf (f1 p 2) 0, f1 p 3, f4 p 4, f2 p 8, f2 p 10, f2 p 12⟩

/-- Every field of a SPAN_CONFIG_SET is in range, and MIN_LANES within LANE_MASK (R567). -/
def spanCfgOk (c : SpanCfg) : Bool :=
  decide (c.member ≤ 1) && decide (1 ≤ c.minLanes) && decide (c.minLanes ≤ 16) && decide (c.spanId ≠ 0) &&
    decide (1 ≤ c.lossMs) && decide (c.lossMs ≤ 1000) && decide (2 ≤ c.reseqUs) && decide (c.reseqUs ≤ 200) &&
    decide (c.minLanes ≤ (maskLanes c.laneMask).length)

/-- A change that waits for OFF or ALONE (R567). (DEDUCED: log entry 222) -/
def spanCfgMoves (a b : SpanCfg) : Bool := decide (a.member ≠ b.member ∨ a.spanId ≠ b.spanId ∨ a.laneMask ≠ b.laneMask)

/-- Apply Span settings; in ALONE the lanes that leave LANE_MASK are released and those that enter it are formed (R538).
(DEDUCED: log entry 222) -/
def setSpanCfg (c : SpanCfg) (s : State) : State :=
  let old := jointLanes s
  let s1 := { s with span := { s.span with cfg := c } }
  let s2 :=
    if s.span.state = .alone ∧ s.span.cfg.laneMask ≠ c.laneMask then
      let s3 := takeLanes (jointLanes s1) (releaseLanes (old.filter fun l => !(jointLanes s1).contains l) s1)
      if s.span.probing then s3 else wakeJoint .sleep s3
    else s1
  spanRecount s2

/-- SPAN_CONFIG_SET. -/
def spanConfigSetBody (q : Req) (s : State) : Body :=
  let c := spanCfgOf q.payload
  checks [lenIs q 16, (spanCfgOk c, .spanParam),
      (!spanCfgMoves s.span.cfg c || decide (s.span.state = .off ∨ s.span.state = .alone), .spanActive)] (okEmpty (setSpanCfg c s))

/-- The settings in the layout of SPAN_CONFIG_SET. -/
def spanCfgBytes (c : SpanCfg) : List Byte :=
  enc [(1, c.member), (1, c.priority), (1, b2n c.autoJoin), (1, c.minLanes), (4, c.spanId), (2, c.laneMask), (2, c.lossMs),
    (2, c.reseqUs), (2, 0)]

/-- SPAN_CONFIG_GET. -/
def spanConfigGetBody (q : Req) (s : State) : Body := checks [lenIs q 0] (okResp s (spanCfgBytes s.span.cfg))

/-- SPAN_JOIN (R541). (DEDUCED: log entry 221) -/
def spanJoinBody (q : Req) (s : State) : Body :=
  checks [lenIs q 0] <|
    if s.span.state ≠ .off then okResp s (enc [(1, 1), (3, 0)])
    else checks [(decide (s.span.cfg.spanId ≠ 0), .spanParam), (!jointHeld s, .spanLanes)] (okResp (seekJoin s) (enc [(1, 0), (3, 0)]))

/-- SPAN_LEAVE (R541): leaving a held join is a commanded step from Span to Full. -/
def spanLeaveBody (q : Req) (s : State) : Body :=
  checks [lenIs q 0] <|
    if s.span.state = .off then okResp s (enc [(1, 1), (3, 0)])
    else
      let s1 := leaveJoin 1 true s
      okResp (if spanJoined s then modeChanged .span .full .joinLost q.requestId s1 else s1) (enc [(1, 0), (3, 0)])

/-- SPAN_STATUS_GET response. -/
def spanStatus (s : State) : List Byte :=
  let x := s.span
  let cs := (List.range 10).map (Tbl.get {} x.ctrs)
  enc [(1, x.state.code), (1, x.role.code), (1, x.cfg.member), (1, x.lastCause), (2, upMask s), (2, countedMask s),
    (8, x.partnerSerial)] ++ tb10 x.since ++ beInt 4 (if x.role = .follower then x.timeOffset else 0) ++
    enc [(2, x.round), (4, flags (cs.map fun c => c.ovf))] ++ tb10 s.tb.now ++ be 2 0 ++ cs.flatMap fun c => be 8 c.val

/-- SPAN_STATUS_GET. -/
def spanStatusGetBody (q : Req) (s : State) : Body := checks [lenIs q 0] (okResp s (spanStatus s))

/-- SPAN_TARGET_SET (R547): TARGET is kept as 0 for this member, 1 for the partner. -/
def spanTargetSetBody (q : Req) (s : State) : Body :=
  let m := f1 q.payload 0
  checks [lenIs q 4, (spanJoined s, .spanNotJoined), (decide (m ≤ 1), .spanParam)]
    (okEmpty (updSession q.session (fun y => { y with target := if m = s.span.cfg.member then 0 else 1 }) s))

/-! ### Probing (R541) -/

/-- The join has been in its state for `ns`. -/
def joinFor (j : Join) (ns : Nat) (s : State) : Bool := decide (s.span.state = j) && decide (s.span.enteredAt + ns ≤ s.elapsed)

/-- PROBE_TIMEOUT: 2 s without alignment. (DEDUCED: log entry 213) -/
def probeTimeoutEffect (t : Nat) (s0 : State) : State :=
  let s := advance t s0
  if joinFor .probe (sNs 2) s then goAlone 0 s else s

/-- ALONE_PROBE: 10 s after entry or the last probe the receive halves wake. -/
def aloneProbeEffect (t : Nat) (s0 : State) : State :=
  let s := advance t s0
  if s.span.state = .alone ∧ !s.span.probing ∧ s.span.probeAt + sNs 10 ≤ s.elapsed then
    wakeJoint .active { s with span := { s.span with probing := true, probeAt := s.elapsed } }
  else s

/-- ALONE_PROBE_END: 25 ms later they sleep again. -/
def aloneProbeEndEffect (t : Nat) (s0 : State) : State :=
  let s := advance t s0
  if s.span.state = .alone ∧ s.span.probing ∧ s.span.probeAt + msNs 25 ≤ s.elapsed then
    wakeJoint .sleep { s with span := { s.span with probing := false } }
  else s

/-- LINK_TIMEOUT: 12 s without enough counted links. -/
def linkTimeoutEffect (t : Nat) (s0 : State) : State :=
  let s := advance t s0
  if joinFor .link (sNs 12) s then goAlone 1 s else s

/-! ### Election and sync (R542 to R544, R555) -/

/-- ELECTION_ROUND_TIMEOUT: 100 ms without a decision. -/
def electionRoundTimeoutEffect (t : Nat) (s0 : State) : State :=
  let s := advance t s0
  if s.span.state = .elect ∧ s.span.roundAt + msNs 100 ≤ s.elapsed then startRound (inc16 s.span.round) s else s

/-- The mismatch a partner's CLAIM shows (R541): a different SPAN_ID, or the same MEMBER. (DEDUCED: log entry 212) -/
def claimMismatch (c : Claim) (s : State) : Option (Nat × Nat) :=
  if c.spanId ≠ s.span.cfg.spanId then some (0, c.spanId)
  else if c.member = s.span.cfg.member then some (1, c.member)
  else none

/-- A module decides and sends DECIDE (R543). -/
def decideRound (c : Claim) (s : State) : State :=
  let n := leaderOf (ownClaim s) c
  takeRole n true (sendVc0 (.decide s.span.round n) { s with span := { s.span with claim := some c } })

/-- CLAIM: the fence completes, and the partner's CLAIM is read if one has arrived (R542, R543). -/
def spanClaimEffect (t : Nat) (claim : Option Claim) (s0 : State) : State :=
  let s := advance t s0
  match claim with
  | none => s
  | some c =>
    match s.span.state with
    | .link =>
      match claimMismatch c s with
      | some (k, v) => spanMismatch k v s
      | none => s
    | .elect =>
      if c.round ≠ s.span.round then s
      else
        match claimMismatch c s with
        | some (k, v) => spanMismatch k v s
        | none => decideRound c s
    | _ => s

/-- DECIDE: an undecided module adopts the leader (R543). -/
def spanDecideEffect (t : Nat) (round : BitVec 16) (serial : BitVec 64) (s0 : State) : State :=
  let s := advance t s0
  if s.span.state = .elect ∧ round.toNat = s.span.round then takeRole serial.toNat false s else s

/-- SYNC_COMPLETE: both modules have installed the mirrored state, and the follower's offset lies within ±20 ns (R541, R555). -/
def syncCompleteEffect (t : Nat) (offsetNs : Int) (items : List (Nat × List Byte)) (s0 : State) : State :=
  let s := advance t s0
  if s.span.state = .sync ∧ offsetNs.natAbs ≤ 20 then
    enterJoined items { s with span := { s.span with timeOffset := offsetNs } }
  else s

/-- Qualities by code. -/
def Quality.ofCode : Nat → Quality
  | 1 => .held
  | 2 => .free
  | 3 => .holdover
  | 4 => .lockedPps
  | 5 => .lockedPtp
  | _ => .unset

/-- SPAN_TIMING_EXCHANGE: the follower's time base follows the leader's (R561). (DEDUCED: log entry 219) -/
def spanTimingExchangeEffect (t : Nat) (offsetNs : Int) (quality : Fin 6) (s0 : State) : State :=
  let s := advance t s0
  if followsTime s then
    let q := Quality.ofCode quality
    let s1 := setQuality q { s with span := { s.span with timeOffset := offsetNs, leaderQuality := q } }
    if offsetNs.natAbs ≤ 20 then s1 else stepTime (-offsetNs) 1 { s1 with span := { s1.span with timeOffset := 0 } }
  else s

/-! ### The held join (R551, R563) -/

/-- No heartbeat has arrived for LOSS_MS (R563). -/
def heartbeatLost (s : State) : Bool := decide (s.span.heartbeatAt + msNs s.span.cfg.lossMs ≤ s.elapsed)

/-- HEARTBEAT: one is sent, or one has arrived (R563). -/
def heartbeatEffect (t : Nat) (heard : Bool) (s0 : State) : State :=
  let s := advance t s0
  if !spanJoined s then s
  else if !heard then sendVc0 .heartbeat s
  else if heartbeatLost s then splitAuto 3 s
  else { s with span := { s.span with heartbeatAt := s.elapsed } }

/-- EV_SPAN_SPLIT: a split condition holds (R563): 2 link count, 3 heartbeat, 4 partner restarted, 5 partner left.
(DEDUCED: log entry 223) -/
def spanSplitEffect (t : Nat) (cause : Fin 6) (byLeave : Bool) (s0 : State) : State :=
  let s := advance t s0
  if cause = 5 ∧ byLeave then quitJoin 5 s
  else if !spanJoined s then s
  else
    match cause.val with
    | 2 => if heldFor s.span.lowSince (msNs s.span.cfg.lossMs) s.elapsed then splitAuto 2 s else s
    | 3 => if heartbeatLost s then splitAuto 3 s else s
    | 4 => splitAuto 4 s
    | 5 => splitAuto 5 s
    | _ => s

/-- MIRROR_UPDATE (R551). -/
def mirrorUpdateEffect (t : Nat) (kind : Fin 5) (payload : List Byte) (s0 : State) : State :=
  let s := advance t s0
  if spanFollows s then countSpan 8 1 (applyMirror kind payload s) else s

/-- REMOTE_CELL: a cell of source pipeline `k` for Deck `d` (R559, R560). -/
def remoteCellEffect (t : Nat) (k d : Fin 8) (seq : BitVec 16) (sop eop : Bool) (pkt : Option Packet) (s0 : State) : State :=
  let s := advance t s0
  if spanJoined s then remoteCell k d ⟨seq.toNat, sop, eop, pkt⟩ (countSpan 2 1 s) else s

/-- SPAN_RESEQ_TIMEOUT: the oldest held cell has been held for RESEQ_US (R560). -/
def spanReseqTimeoutEffect (t : Nat) (k d : Fin 8) (s0 : State) : State :=
  let s := advance t s0
  let r := remoteOf k d s
  if r.held.any fun h => decide (h.at0 + usNs s.span.cfg.reseqUs ≤ s.elapsed) then
    match lowestRemote r with
    | none => s
    | some h => skipRemoteTo k d h.cell.seq (countSpan 5 1 s)
  else s

/-! ### The meanings -/

/-- SPAN_CONFIG_SET. -/
def execSpanConfigSet (q : Req) (s : State) : Host.Outcome State Fault Refusal :=
  .next (kmpExec .spanConfigSet q (spanConfigSetBody q) s)

/-- SPAN_CONFIG_GET. -/
def execSpanConfigGet (q : Req) (s : State) : Host.Outcome State Fault Refusal :=
  .next (kmpExec .spanConfigGet q (spanConfigGetBody q) s)

/-- SPAN_JOIN. -/
def execSpanJoin (q : Req) (s : State) : Host.Outcome State Fault Refusal :=
  .next (kmpExec .spanJoin q (spanJoinBody q) s)

/-- SPAN_LEAVE. -/
def execSpanLeave (q : Req) (s : State) : Host.Outcome State Fault Refusal :=
  .next (kmpExec .spanLeave q (spanLeaveBody q) s)

/-- SPAN_STATUS_GET. -/
def execSpanStatusGet (q : Req) (s : State) : Host.Outcome State Fault Refusal :=
  .next (kmpExec .spanStatusGet q (spanStatusGetBody q) s)

/-- SPAN_TARGET_SET. -/
def execSpanTargetSet (q : Req) (s : State) : Host.Outcome State Fault Refusal :=
  .next (kmpExec .spanTargetSet q (spanTargetSetBody q) s)

/-- PROBE_TIMEOUT. -/
def execProbeTimeout (t : Nat) (s : State) : Host.Outcome State Fault Refusal :=
  .next (probeTimeoutEffect t s)

/-- ALONE_PROBE. -/
def execAloneProbe (t : Nat) (s : State) : Host.Outcome State Fault Refusal :=
  .next (aloneProbeEffect t s)

/-- LINK_TIMEOUT. -/
def execLinkTimeout (t : Nat) (s : State) : Host.Outcome State Fault Refusal :=
  .next (linkTimeoutEffect t s)

/-- ELECTION_ROUND_TIMEOUT. -/
def execElectionRoundTimeout (t : Nat) (s : State) : Host.Outcome State Fault Refusal :=
  .next (electionRoundTimeoutEffect t s)

/-- CLAIM. -/
def execSpanClaim (t : Nat) (claim : Option Claim) (s : State) : Host.Outcome State Fault Refusal :=
  .next (spanClaimEffect t claim s)

/-- DECIDE. -/
def execSpanDecide (t : Nat) (round : BitVec 16) (serial : BitVec 64) (s : State) : Host.Outcome State Fault Refusal :=
  .next (spanDecideEffect t round serial s)

/-- SYNC_COMPLETE. -/
def execSyncComplete (t : Nat) (offsetNs : Int) (items : List (Nat × List Byte)) (s : State) : Host.Outcome State Fault Refusal :=
  .next (syncCompleteEffect t offsetNs items s)

/-- HEARTBEAT. -/
def execHeartbeat (t : Nat) (heard : Bool) (s : State) : Host.Outcome State Fault Refusal :=
  .next (heartbeatEffect t heard s)

/-- EV_SPAN_SPLIT. -/
def execEvSpanSplit (t : Nat) (cause : Fin 6) (byLeave : Bool) (s : State) : Host.Outcome State Fault Refusal :=
  .next (spanSplitEffect t cause byLeave s)

/-- MIRROR_UPDATE. -/
def execMirrorUpdate (t : Nat) (kind : Fin 5) (payload : List Byte) (s : State) : Host.Outcome State Fault Refusal :=
  .next (mirrorUpdateEffect t kind payload s)

/-- REMOTE_CELL. -/
def execRemoteCell (t : Nat) (k : Fin 8) (d : Fin 8) (seq : BitVec 16) (sop : Bool) (eop : Bool) (pkt : Option Packet) (s : State) : Host.Outcome State Fault Refusal :=
  .next (remoteCellEffect t k d seq sop eop pkt s)

/-- SPAN_RESEQ_TIMEOUT. -/
def execSpanReseqTimeout (t : Nat) (k : Fin 8) (d : Fin 8) (s : State) : Host.Outcome State Fault Refusal :=
  .next (spanReseqTimeoutEffect t k d s)

/-- ALONE_PROBE_END. -/
def execAloneProbeEnd (t : Nat) (s : State) : Host.Outcome State Fault Refusal :=
  .next (aloneProbeEndEffect t s)

/-- SPAN_TIMING_EXCHANGE. -/
def execSpanTimingExchange (t : Nat) (offsetNs : Int) (quality : Fin 6) (s : State) : Host.Outcome State Fault Refusal :=
  .next (spanTimingExchangeEffect t offsetNs quality s)

end Sys2Proof.Machine
end

