-- ==== Sys2Proof/Machine/DebugOps.lean ====
section
/-! DEFINITION. Machine/DebugOps.lean: halting and resuming the cores, and the end of debug access (R679, R688, R691 to R694). -/

namespace Sys2Proof.Machine

open Sys2Proof

/-- The control core (false) or the watch core (true). -/
def coreDbg (w : Bool) (s : State) : CoreDbg := if w then s.dbg.watch else s.dbg.control

/-- Change what a core holds. -/
def updCore (w : Bool) (f : CoreDbg → CoreDbg) (s : State) : State :=
  if w then { s with dbg := { s.dbg with watch := f s.dbg.watch } } else { s with dbg := { s.dbg with control := f s.dbg.control } }

/-- The mode whose duties the cores have: Freeze has those of the mode it was entered from (R679). -/
def dutyMode (s : State) : Mode := if s.sup.mode = .freeze then s.sup.frozenFrom else s.sup.mode

/-- A Keystone run is in progress on the control core, recovery included (R112, R132). -/
def keystoneRuns (s : State) : Bool :=
  s.boot.recovery || (s.clk.reference && s.boot.loading.isSome)

/-- The core runs or is halted, and is neither off nor stopped (R679). -/
def coreUp (w : Bool) (s : State) : Bool :=
  if keystoneRuns s then !w
  else
    match dutyMode s with
    | .off => false
    | .shelf => w && s.clk.reference
    | .watch => w || s.boot.controlUp
    | .keep => true
    | .full => !w
    | .span => !w
    | .freeze => true

/-- Code of a core's state (CORE_STATUS_GET table). -/
def coreStateCode (w : Bool) (s : State) : Nat :=
  if coreUp w s then
    if (coreDbg w s).halted then 4 else if s.clk.corePll then 3 else 2
  else if s.sup.mode = .off ∨ s.sup.mode = .shelf ∧ !s.clk.reference then 0
  else if w ∧ keystoneRuns s then 0
  else 1

/-- EV_CORE_HALT: a core halts (state 1) or resumes (0). (DESIGN CHOICE: log entry 267) -/
def haltEvent (w halted forced : Bool) (reqId : Nat) (s : State) : State :=
  raise .coreHalt reqId (enc [(1, b2n w), (1, b2n halted), (1, b2n forced)]) s

/-- Number of a locked sequence (R707). -/
def seqNum : LockedSeq → Nat
  | .epochCommit => 0
  | .dramMode _ => 1
  | .keyLoad => 2

/-- A core halts, by a forced halt or at an instruction boundary. -/
def haltCore (w forced : Bool) (s : State) : State :=
  haltEvent w true forced 0 (updCore w (fun c => { c with halted := true, pend := none, regs := [] }) s)

/-- A message that a transport held is taken (R694). -/
def takeHeldMsg (m : HeldMsg) (s : State) : State :=
  match m with
  | .raw t d b => messageTaken t d b s
  | .req code q =>
    match arrive code q (takeRequest s) with
    | .done s1 => s1
    | .go h s1 => enqueue code q h s1

/-- The messages that transports held are taken in the order they came. -/
def takeHeldMsgs (s : State) : State :=
  if kmpHalted s then s
  else forEach s.dbg.held takeHeldMsg { s with dbg := { s.dbg with held := [] } }

/-- What a forced halt has cut through is reported as its core resumes (R692). -/
def reportBroken (w : Bool) (reqId : Nat) (s : State) : State :=
  match (coreDbg w s).broken with
  | none => s
  | some x => raise .lockBroken reqId (enc [(1, b2n w), (1, seqNum x)]) (updCore w (fun c => { c with broken := none }) s)

/-- The DRAM mode-register write that a forced halt left is finished as the control core resumes (R693), and what the debugger has
written into SRAM and registers runs on from there. (DESIGN CHOICE: log entry 255) -/
def clearWritten (w : Bool) (s : State) : State :=
  let s1 := updCore w (fun c => { c with halted := false, pend := none, regs := [] }) s
  if w then s1 else { s1 with dbg := { s1.dbg with sram := [], modeWrite := none } }

/-- A halted core resumes; a halt that waits for a locked sequence is taken back (R688, R710). -/
def resumeCore (w : Bool) (reqId : Nat) (s : State) : State :=
  if (coreDbg w s).halted then takeHeldMsgs (reportBroken w reqId (haltEvent w false false reqId (clearWritten w s)))
  else updCore w (fun c => { c with pend := none }) s

/-- Debug access closes (R688): cause 0 command, 1 expiry, 2 a Keystone run. (DEDUCED: log entry 266) -/
def closeDebug (cause reqId : Nat) (s : State) : State :=
  if s.dbg.opened then
    let s1 := resumeCore true reqId (resumeCore false reqId s)
    let ir :=
      match s1.dbg.tap with
      | .idcode => TapIr.idcode
      | .sample => .sample
      | _ => .bypass
    raise .debugAccess reqId (enc [(1, 0), (1, cause)] ++ tb10 0)
      { s1 with dbg := { s1.dbg with opened := false, untilTb := 0, endsAt := 0, tap := ir } }
  else s

end Sys2Proof.Machine
end

