-- ==== Sys2Proof/Machine/Digest.lean ====
section
/-! DEFINITION. Machine/Digest.lean: key slots, key loads and DIGEST_RUN (R608 to R635). -/

namespace Sys2Proof.Machine

open Sys2Proof

/-! ### Key slots (R617 to R625) -/

/-- Key slot `n`. -/
def slotOf (n : Nat) (s : State) : KeySlot := Tbl.get {} s.dig.slots n

/-- Set a key slot. -/
def setSlot (n : Nat) (x : KeySlot) (s : State) : State := { s with dig := { s.dig with slots := Tbl.set {} s.dig.slots n x } }

/-- ASCII "KID1", "KWRP", "KCHK" (R617, R620). -/
def kid1Bytes : List Byte := [0x4B, 0x49, 0x44, 0x31]
def kwrpBytes : List Byte := [0x4B, 0x57, 0x52, 0x50]
def kchkBytes : List Byte := [0x4B, 0x43, 0x48, 0x4B]

/-- KEY_ID of a key (R617). -/
def keyIdOf (k : List Byte) : List Byte := (Sha.hmac256 k kid1Bytes).take 8

/-- PAD for slot `n` and a generation, uncut (R620). -/
def wrapPad (key0 : List Byte) (n g : Nat) : List Byte :=
  (List.range 3).flatMap fun i => Sha.hmac384 key0 (kwrpBytes ++ enc [(1, n), (4, g), (1, i)])

/-- The key of a KEY_LOAD payload, unwrapped under slot 0 (R620). -/
def unwrapKey (p : List Byte) (s : State) : List Byte :=
  xorBytes (slice p 24 (f1 p 2)) (wrapPad (slotOf 0 s).key (f1 p 0) (f4 p 4))

/-- KEY_CHECK passes (R620, R621); after a failed self-test no verdict passes (R626). -/
def keyCheckOk (p : List Byte) (s : State) : Bool :=
  s.dig.katOk && decide ((Sha.hmac256 (unwrapKey p s) (kchkBytes ++ enc [(1, f1 p 0), (4, f4 p 4)])).take 16 = slice p 8 16)

/-- EV_KEY_CHANGED: action 0 loaded, 1 cleared; source 0 command, 1 commit, 2 Keystone restore (R630). -/
def keyChanged (n action source : Nat) (s : State) : State :=
  let x := slotOf n s
  raise .keyChanged 0 (enc [(1, n), (1, action), (1, source), (4, x.generation)] ++ padTo 8 x.keyId) s

/-- A slot takes a key (R621); LOADED_AT is unknown after a Keystone restore (KEY_STATUS_GET table). -/
def loadSlot (p : List Byte) (srcCode evSource : Nat) (s : State) : State :=
  let k := unwrapKey p s
  keyChanged (f1 p 0) 0 evSource
    (setSlot (f1 p 0) ⟨.loaded, k, f1 p 1 % 16, srcCode, f4 p 4, keyIdOf k, if evSource = 2 then 0 else s.tb.now / nsPerS⟩ s)

/-- A slot is emptied (KEY_CLEAR, R624). (DEDUCED: log entry 235) -/
def clearSlot (n g srcCode evSource : Nat) (s : State) : State :=
  keyChanged n 1 evSource (setSlot n { source := srcCode, generation := g } s)

/-- GENERATION is the slot's present one plus 1 (R628). -/
def nextGeneration (n g : Nat) (s : State) : Bool := decide (g = (slotOf n s).generation + 1)

/-- KEY_LOAD fields in range (R628). (DEDUCED: log entry 233) -/
def keyFieldsOk (p : List Byte) : Bool :=
  decide (f1 p 0 ≤ 15) && decide (16 ≤ f1 p 2) && decide (f1 p 2 ≤ 128) && decide (p.length = 24 + f1 p 2)

/-- KEY_LOAD; `broken` says that a forced halt broke the load (R622). (DEDUCED: log entries 233, 237) -/
def keyLoadBody (q : Req) (broken : Bool) (s : State) : Body :=
  let p := q.payload
  checks [(decide (f1 p 0 ≠ 0), .keyFused), (keyFieldsOk p, .keyParam), (underSlot0 q s, .keyAuth),
      (nextGeneration (f1 p 0) (f4 p 4) s, .stale)] <|
    if broken then .error .keyBroken
    else if keyCheckOk p s then
      let s1 := loadSlot p 1 0 (countCompare true s)
      okResp s1 (slotOf (f1 p 0) s1).keyId
    else .ok (countCompare false s, .err .keyWrap [])

/-- KEY_CLEAR. (DEDUCED: log entry 233) -/
def keyClearBody (q : Req) (s : State) : Body :=
  let p := q.payload
  checks [(decide (f1 p 0 ≠ 0), .keyFused), (decide (f1 p 0 ≤ 15) && decide (p.length = 8), .keyParam), (underSlot0 q s, .keyAuth),
      (nextGeneration (f1 p 0) (f4 p 4) s, .stale)] (okEmpty (clearSlot (f1 p 0) (f4 p 4) 1 0 s))

/-- An entry of KEY_STATUS_GET. -/
def slotBytes (x : KeySlot) : List Byte :=
  enc [(1, x.state.code), (1, x.usage), (1, x.source), (1, 0), (4, x.generation)] ++ padTo 8 x.keyId ++ be 8 x.loadedAt

/-- KEY_STATUS_GET. -/
def keyStatusGetBody (q : Req) (s : State) : Body :=
  checks [lenIs q 0] (okResp s ((List.range 16).flatMap fun n => slotBytes (slotOf n s)))

/-! ### DIGEST_RUN (R615, R629) -/

/-- Digest length of an algorithm. -/
def digestLen (alg : Nat) : Nat := if alg = 1 ∨ alg = 3 then 32 else 48

/-- Fields of DIGEST_RUN in range. -/
def digestFieldsOk (p : List Byte) : Bool :=
  let alg := f1 p 0
  let tag := f1 p 3
  decide (1 ≤ alg) && decide (alg ≤ 4) && (if 3 ≤ alg then decide (f1 p 1 ≤ 15) else decide (f1 p 1 = 0)) &&
    decide (f2 p 4 ≤ 1220) &&
    (if bitOf (f1 p 2) 0 then decide (tag = 16 ∨ tag = 24 ∨ tag = 32 ∨ tag = 48) && decide (tag ≤ digestLen alg) else decide (tag = 0))

/-- The digest asked for. -/
def digestOf (p : List Byte) (s : State) : List Byte :=
  let data := slice p 56 (f2 p 4)
  let key := (slotOf (f1 p 1) s).key
  match f1 p 0 with
  | 1 => Sha.sha256 data
  | 2 => Sha.sha384 data
  | 3 => Sha.hmac256 key data
  | _ => Sha.hmac384 key data

/-- The slot holds a key. -/
def slotHoldsKey (n : Nat) (s : State) : Bool := decide ((slotOf n s).state = .loaded ∨ (slotOf n s).state = .fused)

/-- DIGEST_RUN. (DEDUCED: log entry 234) -/
def digestRunBody (q : Req) (s : State) : Body :=
  let p := q.payload
  let keyed := decide (3 ≤ f1 p 0)
  let cmp := bitOf (f1 p 2) 0
  checks [(decide (q.payload.length = 56 + f2 p 4), .badPayload), (digestFieldsOk p, .digestParam), (!keyed || cmp, .keyUsage),
      (!keyed || slotHoldsKey (f1 p 1) s, .keySlot), (!keyed || bitOf (slotOf (f1 p 1) s).usage 3, .keyUsage)] <|
    let d := digestOf p s
    if cmp then
      let pass := s.dig.katOk && decide (d.take (f1 p 3) = slice p 8 (f1 p 3))
      okResp (countCompare pass s) (enc [(1, b2n (!pass)), (1, 0), (2, 0)])
    else okResp s (enc [(1, 2), (1, d.length), (2, 0)] ++ d)

/-! ### Slot 0 and the self-test (R619, R626) -/

/-- EV_DIGEST_FAULT: kind 0 self-test, 1 fuse CRC, 2 context error. -/
def digestFault (kind context : Nat) (s : State) : State := raise .digestFault 0 (enc [(1, kind), (1, context)]) s

/-- A Keystone run computes slot 0 from the fuses (R619). -/
def fuseSlot0 (s : State) : State :=
  let k := s.ident.slot0Key
  if s.ident.fuseGood then
    let s1 := setSlot 0 ⟨.fused, k, 0x0F, 2, 0, keyIdOf k, 0⟩ s
    { s1 with dig := { s1.dig with slot0Ok := true } }
  else
    let s1 := setSlot 0 { state := .fuseFault, source := 2 } s
    digestFault 1 0 { s1 with dig := { s1.dig with slot0Ok := false } }

/-- The self-test of a Keystone run (R626). -/
def selfTest (good : Bool) (s : State) : State :=
  let s1 := { s with dig := { s.dig with katOk := good, compares := 0, fails := 0 } }
  if good then s1 else digestFault 0 0 s1

/-! ### Key set items (R624) -/

/-- The KEY_LOAD payloads of a key set body; none where the body ends inside one. -/
def keySetEntries : Nat → List Byte → Option (List (List Byte))
  | 0, b => if b = [] then some [] else none
  | n + 1, b =>
    let m := 24 + f1 b 2
    if b.length < m then none else (keySetEntries n (b.drop m)).map fun l => b.take m :: l

/-- The entries of a key set item's body. -/
def keySetOf (b : List Byte) : Option (List (List Byte)) := keySetEntries (f2 b 0) (b.drop 4)

/-- A key set passes R624 against the generations of the record in force. -/
def keySetOk (b : List Byte) (baseGen : Nat → Nat) (s : State) : Bool :=
  match keySetOf b with
  | none => false
  | some l =>
    decide ((l.map fun p => f1 p 0).Nodup) && l.all fun p =>
      decide (1 ≤ f1 p 0) && decide (f1 p 0 ≤ 15) && decide (baseGen (f1 p 0) < f4 p 4) &&
        (decide (f1 p 2 = 0) || (decide (16 ≤ f1 p 2) && decide (f1 p 2 ≤ 128) && keyCheckOk p s))

/-- A key set takes effect at its commit (R624). -/
def applyKeySet (b : List Byte) (s : State) : State :=
  forEach ((keySetOf b).getD []) (fun p s => if f1 p 2 = 0 then clearSlot (f1 p 0) (f4 p 4) 0 1 s else loadSlot p 0 1 s) s

/-- What a record's key sets leave in slot `n`: the last payload for it. -/
def lastEntry (items : List (List Byte)) (n : Nat) : Option (List Byte) :=
  ((items.flatMap fun b => (keySetOf b).getD []).filter fun p => decide (f1 p 0 = n)).getLast?

/-- A Keystone run restores a slot from the record's key sets (R623): a slot the record clears keeps its GENERATION.
(DEDUCED: log entry 235) -/
def restoreSlot (items : List (List Byte)) (n : Nat) (s : State) : State :=
  match lastEntry items n with
  | none => s
  | some p => if f1 p 2 = 0 then setSlot n { generation := f4 p 4 } s else loadSlot p 0 2 s

/-- A Keystone run restores slots 1 to 15 (R623). (DEDUCED: log entry 236) -/
def restoreSlots (items : List (List Byte)) (s : State) : State :=
  forEach ((List.range 15).map (· + 1)) (restoreSlot items) s

/-- Slots that held a key before the run and hold none after it have been cleared by the restore (R623, R630). (DEDUCED: log entry 236) -/
def restoreEnds (s : State) : State :=
  forEach (s.dig.hadKeys.filter fun n => decide ((slotOf n s).state ≠ .loaded)) (fun n s => keyChanged n 1 2 s)
    { s with dig := { s.dig with hadKeys := [] } }

/-- Generations a record's key set items leave (R624). -/
def generationOf (items : List (List Byte)) (n : Nat) : Nat :=
  (items.flatMap fun b => (keySetOf b).getD []).foldl (fun g p => if f1 p 0 = n then f4 p 4 else g) 0

/-! ### The meanings -/

/-- KEY_STATUS_GET. -/
def execKeyStatusGet (q : Req) (s : State) : Host.Outcome State Fault Refusal :=
  .next (kmpExec .keyStatusGet q (keyStatusGetBody q) s)

/-- KEY_LOAD. -/
def execKeyLoad (q : Req) (broken : Bool) (s : State) : Host.Outcome State Fault Refusal :=
  .next (kmpExec .keyLoad q (keyLoadBody q broken) s)

/-- KEY_CLEAR. -/
def execKeyClear (q : Req) (s : State) : Host.Outcome State Fault Refusal :=
  .next (kmpExec .keyClear q (keyClearBody q) s)

/-- DIGEST_RUN. -/
def execDigestRun (q : Req) (s : State) : Host.Outcome State Fault Refusal :=
  .next (kmpExec .digestRun q (digestRunBody q) s)

end Sys2Proof.Machine
end

