-- ==== Sys2Proof/Machine/CountOps.lean ====
section
/-! DEFINITION. Machine/CountOps.lean: the restart of the data-plane counters, stored snapshots, and the evaluation of
monitors (R717 to R725). -/

namespace Sys2Proof.Machine

open Sys2Proof

/-- Monitor `n`. -/
def monOf (n : Nat) (s : State) : Monitor := Tbl.get {} s.cnt.monitors n

/-- Change monitor `n`. -/
def updMon (n : Nat) (f : Monitor → Monitor) (s : State) : State :=
  { s with cnt := { s.cnt with monitors := Tbl.upd {} s.cnt.monitors n f } }

/-- Monitors run (R724). -/
def monitorsRun (s : State) : Bool := decide (s.sup.mode = .keep ∨ s.sup.mode = .full ∨ s.sup.mode = .span)

/-- Whether a monitor is tripped once it has seen a value (R724). -/
def tripsOn (m : Monitor) (v : Int) : Bool :=
  if m.below then (if v < m.low then true else if m.high ≤ v then false else m.tripped)
  else (if m.high < v then true else if v ≤ m.low then false else m.tripped)

/-- STATE of a monitor: 0 off, 1 clear, 2 tripped. -/
def monState (m : Monitor) : Nat := if m.kind = 0 then 0 else if m.tripped then 2 else 1

/-- Compare a value (R724). (DEDUCED: log entry 270) -/
def evalMonitor (n : Nat) (v : Int) (s : State) : State :=
  let m := monOf n s
  let b := tripsOn m v
  let m1 := { m with
    value := v
    evalAt := s.tb.now
    tripped := b
    trips := if b && !m.tripped then m.trips.add32 1 else m.trips
    clears := if m.tripped && !b then m.clears.add32 1 else m.clears }
  raiseIf (m.events && (b != m.tripped)) .monitor 0 (enc [(1, n), (1, monState m1)] ++ beInt 8 v) (updMon n (fun _ => m1) s)

/-- Give a value to every monitor of a source, in monitor order (R724). -/
def evalSource (kind index : Nat) (v : Int) (s : State) : State :=
  if monitorsRun s then
    forEach (List.range 16) (fun n s =>
      if (monOf n s).kind = kind ∧ (monOf n s).index = index then evalMonitor n v s else s) s
  else s

/-- Restart the counters of the data plane in the search, punt and follow structures. -/
def zeroCls (c : Cls) : Cls :=
  let z : Ctr := {}
  { c with
    bank := (c.bank.map fun b => (b.1, { b.2 with
      entries := (b.2.entries.map fun e => (e.1, { e.2 with hits := z })).filter fun e => decide (e.2 ≠ {}) })).filter
        fun b => decide (b.2 ≠ {})
    meter := (c.meter.map fun m => (m.1, { m.2 with
      greenPkts := z, greenBytes := z, yellowPkts := z, yellowBytes := z, redPkts := z, redBytes := z, redDrops := z })).filter
        fun m => decide (m.2 ≠ {})
    punt := (c.punt.map fun p => (p.1, { p.2 with punted := z, dropped := z })).filter fun p => decide (p.2 ≠ {})
    followInstalled := z, followHits := z, followMisses := z, followFull := z, reinjected := z, holdExpired := z
    puntQueueFull := z, scadaUnparsed := z, misses := [] }

/-- The datapath event counters restart at 0 (R717); a monitor's window goes on from there. -/
def zeroEvents (c : Count) : Count :=
  { c with
    events := (c.events.map fun e => (e.1, { e.2 with value := {} })).filter fun e => decide (e.2 ≠ {})
    monitors := c.monitors.map fun m => (m.1, { m.2 with startValue := m.2.startValue.map fun _ => 0 }) }

/-- Restart the counters of the Truss, the Decks and egress. -/
def zeroPlane (d : DataPlane) : DataPlane :=
  let z : Ctr := {}
  { d with
    pipe := (d.pipe.map fun p => (p.1, { p.2 with dropPkts := z, dropBytes := z })).filter fun p => decide (p.2 ≠ {})
    plane := (d.plane.map fun p => (p.1, { p.2 with corr := z, err := z })).filter fun p => decide (p.2 ≠ {})
    deck := (d.deck.map fun k => (k.1, { k.2 with timeouts := z, skipped := z, late := z, lostPkts := z, lostBytes := z })).filter
      fun k => decide (k.2 ≠ {})
    queue := (d.queue.map fun k => (k.1, { k.2 with allot := [], tx := [] })).filter fun k => decide (k.2 ≠ {}) }

/-- The data-plane counters restart at 0 (R715, R717). (DEDUCED: log entry 273) -/
def restartCounters (s : State) : State :=
  let e := inc32 s.cnt.epoch
  let s1 := { s with
    cnt := { zeroEvents s.cnt with ports := [], epoch := e, lost := false }
    cls := zeroCls s.cls
    fwd := { s.fwd with learnCtrs := [], drops := [] }
    dp := zeroPlane s.dp }
  raise .countersRestart 0 (enc [(4, e), (1, s.sup.mode.code)]) s1

/-- Take a stored snapshot (R719): sets 1 to 3 on one tick, the 32 newest kept. (DEDUCED: log entry 272) -/
def storeSnap (s : State) : State :=
  let x : StoredSnap := ⟨s.cnt.nextSnapId, s.tb.now, s.cnt.epoch, s.cnt.lost, s.cnt.ports, s.cnt.transports, s.cnt.events⟩
  let all := s.cnt.snaps ++ [x]
  { s with cnt := { s.cnt with snaps := all.drop (all.length - 32), nextSnapId := inc32 s.cnt.nextSnapId, lost := false } }

end Sys2Proof.Machine
end

