-- ==== Sys2Proof/Machine/FieldIo.lean ====
section
/-! DEFINITION. Machine/FieldIo.lean: field pins, GPIO pins and the housekeeping ADC (R636 to R677). -/

namespace Sys2Proof.Machine

open Sys2Proof

/-- Field pin `n`. -/
def fioOf (n : Nat) (s : State) : FioPin := Tbl.get {} s.io.fio n

/-- Change field pin `n`. -/
def updFio (n : Nat) (f : FioPin → FioPin) (s : State) : State :=
  { s with io := { s.io with fio := Tbl.upd {} s.io.fio n f } }

/-- GPIO pin `n`. -/
def gpioOf (n : Nat) (s : State) : GpioPin := Tbl.get {} s.io.gpio n

/-- ADC channel `n`. -/
def adcOf (n : Nat) (s : State) : AdcChan := Tbl.get {} s.io.adc n

/-- Change ADC channel `n`. -/
def updAdc (n : Nat) (f : AdcChan → AdcChan) (s : State) : State :=
  { s with io := { s.io with adc := Tbl.upd {} s.io.adc n f } }

/-- The firmware that serves the pins runs: Watch and above (R637). (DEDUCED: log entry 251) -/
def fieldRuns (s : State) : Bool := decide (tickNs s.sup.mode ≠ 0) && !s.io.released

/-- The level a pin senses at `mv`: that of a voltage input (R639), of a wetted input (R640), or the readback of an output
(R646); between the thresholds it keeps its level. An Off pin senses none. (DEDUCED: log entry 239) -/
def senseLevel (p : FioPin) (mv : Nat) : Bool :=
  match p.mode with
  | 0 => false
  | 1 => if p.onMv ≤ mv then true else if mv ≤ p.offMv then false else p.raw
  | 2 => if 6000 < mv then true else if mv < 3000 then false else p.raw
  | _ => if 3000 < mv then true else if mv < 1500 then false else p.raw

/-- LEVEL as reported (R642). (DEDUCED: log entry 239) -/
def levelOf (p : FioPin) : Bool := if p.mode = 1 ∨ p.mode = 2 then p.raw != p.invert else p.raw

/-- What an output drives: the level of its pulse, or its commanded state (R647). (DEDUCED: log entry 240) -/
def driveOf (p : FioPin) : Bool :=
  match p.pulse with
  | some u => if u.active then u.level else p.commanded
  | none => p.commanded

/-- The readback agrees with what the output drives (R646). (DEDUCED: log entry 240) -/
def agrees (p : FioPin) : Bool := if driveOf p then decide (p.mv < 1500) else decide (3000 < p.mv)

/-- Run the readback test, which is suspended in limit, while latched and shortly after each change (R646). -/
def retest (now : Nat) (p : FioPin) : FioPin :=
  if p.mode ≠ 3 ∨ p.latched ∨ p.limitSince.isSome then { p with test := none }
  else
    match p.test with
    | some (b, _) => if b = agrees p then p else { p with test := some (agrees p, max now p.quietUntil) }
    | none => { p with test := some (agrees p, max now p.quietUntil) }

/-- What the output drives has changed: it conducts unless latched, and the readback test rests for 2 ms (R646). -/
def redrive (now : Nat) (p : FioPin) : FioPin :=
  retest now { p with
    on := driveOf p && (p.on || !p.latched)
    limitSince := if driveOf p then p.limitSince else none
    test := none
    quietUntil := now + msNs 2 }

/-- Command an output on or off: off clears LATCHED (R644, R664). -/
def commandOutput (b : Bool) (now : Nat) (p : FioPin) : FioPin :=
  if b = p.commanded then (if b then p else retest now { p with latched := false, retryAt := none })
  else
    let p1 := { p with commanded := b }
    redrive now (if b then p1 else { p1 with latched := false, retryAt := none })

/-- Debounce time in ns: DEBOUNCE_MS, or the hardware filter of 100 µs for 0 (R642). -/
def debounceNs (p : FioPin) : Nat := if p.debounceMs = 0 then usNs 100 else msNs p.debounceMs

/-- EV_FIO_INPUT for an edge, at most once per pin per second (R642, R670). (DEDUCED: log entry 244) -/
def reportEdge (n : Nat) (s : State) : State :=
  let p := fioOf n s
  if p.edgeEvents then
    if reportDue p.lastEvent (sNs 1) s.elapsed then
      raise .fioInput 0 (enc [(1, n), (1, b2n (levelOf p)), (4, sat32 (p.newEdges + 1))])
        (updFio n (fun p => { p with lastEvent := some s.elapsed, newEdges := 0 }) s)
    else updFio n (fun p => { p with newEdges := p.newEdges + 1 }) s
  else s

/-- A change that has held for the debounce time counts as an edge, exactly at its end included (R642, R672). (DEDUCED: log entry 244) -/
def settleInput (n : Nat) (s : State) : State :=
  let p := fioOf n s
  match p.change with
  | none => s
  | some (tb, at0) =>
    if at0 + debounceNs p ≤ s.elapsed then
      reportEdge n (updFio n (fun p =>
        { p with settled := p.raw, change := none, edges := p.edges.add64 1, lastChange := tb }) s)
    else s

/-- The voltage of a pin moves: an input that senses a new level starts its debounce, one that returns to the level last
counted drops it (R642); a wetted input is cleaned (R640); an output's readback is tested (R646). -/
def movePin (mv now tb : Nat) (p : FioPin) : FioPin :=
  let p1 := { p with mv := mv, raw := senseLevel p mv }
  if p.mode = 3 then retest now p1
  else if p1.raw = p.raw then p1
  else { p1 with
    change := if p1.raw = p.settled then none else some (tb, now)
    cleanUntil := if p.mode = 2 then now + msNs 10 else p.cleanUntil }

/-- FIO_INPUT_CHANGE. -/
def fioInputChangeEffect (t : Nat) (pin : Fin 8) (mv : Nat) (s0 : State) : State :=
  let s := advance t s0
  let s1 := if fieldRuns s then settleInput pin s else s
  updFio pin (movePin mv s1.elapsed s1.tb.now) s1

/-- DEBOUNCE (R642). -/
def debounceEffect (t : Nat) (pin : Fin 8) (s0 : State) : State :=
  let s := advance t s0
  if fieldRuns s then settleInput pin s else s

/-- EV_FIO_FAULT (R670). -/
def fioFault (n kind : Nat) (s : State) : State :=
  let s1 := updFio n (fun p => { p with lastChange := s.tb.now }) s
  raise .fioFault 0 (enc [(1, n), (1, kind), (4, (fioOf n s1).retries.val)]) s1

/-- An output recovers: it has stayed out of limit for 200 µs after a retry (R644). (DEDUCED: log entry 241) -/
def recoverOutput (n : Nat) (s : State) : State :=
  let p := fioOf n s
  if p.latched ∧ p.on ∧ p.limitSince = none ∧ heldFor p.retryAt (usNs 200) s.elapsed then
    fioFault n 2 (updFio n (fun p => retest s.elapsed { p with latched := false, retryAt := none }) s)
  else s

/-- CURRENT_LIMIT: an output enters current limit, or is found out of it (R643, R644). -/
def currentLimitEffect (t : Nat) (pin : Fin 8) (limited : Bool) (s0 : State) : State :=
  let s := advance t s0
  let p := fioOf pin s
  if !(fieldRuns s && decide (p.mode = 3) && p.on) then s
  else if limited then
    updFio pin (fun p =>
      retest s.elapsed { p with
        limitSince := match p.limitSince with
          | some a => some a
          | none => some s.elapsed
        retryAt := none }) s
  else recoverOutput pin (updFio pin (fun p => retest s.elapsed { p with limitSince := none }) s)

/-- The output latches off (R643); L is its first latch instant while it stays latched (R644). -/
def latchOff (now : Nat) (p : FioPin) : FioPin :=
  retest now { p with
    on := false
    limitSince := none
    overcurrent := true
    latches := p.latches.add32 1
    firstLatch := if p.latched then p.firstLatch else now
    retryNum := if p.latched then p.retryNum else 0
    retryAt := none
    latched := true }

/-- OVERCURRENT_LATCH: an output in limit for 200 µs latches off (R643, R672, R726). -/
def overcurrentLatchEffect (t : Nat) (pin : Fin 8) (s0 : State) : State :=
  let s := advance t s0
  let p := fioOf pin s
  if fieldRuns s ∧ p.mode = 3 ∧ p.on ∧ heldFor p.limitSince (usNs 200) s.elapsed then
    fioFault pin 0 (tallyAdd 7 1 (updFio pin (latchOff s.elapsed) s))
  else s

/-- Number of the latest retry instant L + n × 1 s (R644). -/
def retryInstant (p : FioPin) (now : Nat) : Nat := (now - p.firstLatch) / sNs 1

/-- OUTPUT_RETRY (R644, R675). (DEDUCED: log entry 241) -/
def outputRetryEffect (t : Nat) (pin : Fin 8) (s0 : State) : State :=
  let s := advance t s0
  let p := fioOf pin s
  if fieldRuns s ∧ p.mode = 3 ∧ p.latched ∧ p.retry ∧ !p.on ∧ p.commanded ∧ driveOf p ∧
      p.retryNum < retryInstant p s.elapsed then
    updFio pin (fun p =>
      { p with
        on := true
        retries := p.retries.add32 1
        retryNum := retryInstant p s.elapsed
        retryAt := some s.elapsed }) s
  else s

/-- The readback test has given `b` for 10 ms (R646). -/
def testHeld (b : Bool) (p : FioPin) (now : Nat) : Bool :=
  match p.test with
  | some (c, a) => decide (c = b) && decide (a + msNs 10 ≤ now)
  | none => false

/-- READBACK_CONFLICT (R646). -/
def readbackConflictEffect (t : Nat) (pin : Fin 8) (s0 : State) : State :=
  let s := advance t s0
  let p := fioOf pin s
  if fieldRuns s ∧ !p.conflict ∧ testHeld false p s.elapsed then
    fioFault pin 1 (updFio pin (fun p =>
      { p with conflict := true, conflictSticky := true, conflicts := p.conflicts.add32 1 }) s)
  else s

/-- CONFLICT_CLEAR (R646). -/
def conflictClearEffect (t : Nat) (pin : Fin 8) (s0 : State) : State :=
  let s := advance t s0
  let p := fioOf pin s
  if fieldRuns s ∧ p.conflict ∧ testHeld true p s.elapsed then
    fioFault pin 3 (updFio pin (fun p => { p with conflict := false }) s)
  else s

/-- PULSE_START: the pin is driven to LEVEL, and the timer compares next at the pulse's end (R647). -/
def pulseStartEffect (t : Nat) (pin : Fin 8) (s0 : State) : State :=
  let s := advance t s0
  match (fioOf pin s).pulse with
  | none => s
  | some u =>
    if timerDue .fio u.timer s ∧ !u.active then
      setTimer u.timer { timerOf u.timer s with next := u.start + usNs u.widthUs }
        (updFio pin (fun p => redrive s.elapsed { p with pulse := some { u with active := true } }) s)
    else s

/-- PULSE_END: the pin returns to its commanded state and the timer is released (R647). -/
def pulseEndEffect (t : Nat) (pin : Fin 8) (s0 : State) : State :=
  let s := advance t s0
  match (fioOf pin s).pulse with
  | none => s
  | some u =>
    if timerDue .fio u.timer s ∧ u.active then
      setTimer u.timer {} (updFio pin (fun p => redrive s.elapsed { p with pulse := none }) s)
    else s

/-- The fields of a FIO_CONFIG_SET payload at `off` are in range (R663). -/
def fioCfgOk (p : List Byte) (off : Nat) : Bool :=
  let on := f2 p (off + 4)
  let lo := f2 p (off + 6)
  decide (f1 p off ≤ 7 ∧ f1 p (off + 1) ≤ 3 ∧ 2000 ≤ on ∧ on ≤ 36000 ∧ 1000 ≤ lo ∧ lo + 1000 ≤ on ∧ f2 p (off + 8) ≤ 1000)

/-- A wake edge is enabled on a field pin (R41, R651). -/
def wakeEdgeOn (n : Nat) (s : State) : Bool := bitOf s.wake.riseMask n || bitOf s.wake.fallMask n

/-- The pin's mode changes: an output takes its commanded state from INIT_ON, leaving MODE 3 clears LATCHED, and an input
starts from the level it senses (R663). (DEDUCED: log entry 243) -/
def changeMode (m now : Nat) (p : FioPin) : FioPin :=
  let p1 := { p with
    mode := m
    commanded := decide (m = 3) && p.initOn
    latched := false
    retryAt := none
    limitSince := none
    on := false
    conflict := false
    change := none }
  let raw := senseLevel { p1 with raw := false } p1.mv
  redrive now { p1 with raw := raw, settled := raw }

/-- Apply a FIO_CONFIG_SET payload at `off`; at the base section every output takes its commanded state from INIT_ON (R663). -/
def applyFioCfg (base : Bool) (p : List Byte) (off : Nat) (s : State) : State :=
  let fl := f1 p (off + 2)
  let m := f1 p (off + 1)
  updFio (f1 p off) (fun x =>
    let y := { x with
      invert := bitOf fl 0, edgeEvents := bitOf fl 1, retry := bitOf fl 2, initOn := bitOf fl 3
      onMv := f2 p (off + 4), offMv := f2 p (off + 6), debounceMs := f2 p (off + 8) }
    if base || decide (m ≠ x.mode) then changeMode m s.elapsed y else y) s

/-- FIO_CONFIG_SET (R663). -/
def fioConfigSetBody (q : Req) (s : State) : Body :=
  let p := q.payload
  let n := f1 p 0
  let x := fioOf n s
  checks [lenIs q 12, (fioCfgOk p 0, .fioParam), (!(decide (f1 p 1 = 3) && wakeEdgeOn n s), .pinBusy),
      (!(decide (f1 p 1 ≠ x.mode) && x.pulse.isSome), .pinBusy)]
    (okEmpty (applyFioCfg false p 0 s))

/-- A field pin conducts. -/
def conducts (n : Nat) (s : State) : Bool := (fioOf n s).on && fieldRuns s

/-- A number from a property of pins 0 to `n` - 1, bit by bit. -/
def pinBits (n : Nat) (f : Nat → Bool) : Nat := flags ((List.range n).map f)

/-- The CONFIG field of a pin (FIO_CONFIG_SET table). -/
def fioCfgBytes (n : Nat) (x : FioPin) : List Byte :=
  enc [(1, n), (1, x.mode), (1, flags [x.invert, x.edgeEvents, x.retry, x.initOn]), (1, 0), (2, x.onMv), (2, x.offMv),
    (2, x.debounceMs), (2, 0)]

/-- A pin entry of FIO_STATUS_GET. -/
def fioEntry (n : Nat) (s : State) : List Byte :=
  let x := fioOf n s
  fioCfgBytes n x ++
  enc [(1, b2n (levelOf x)), (1, b2n x.commanded),
    (1, flags [x.latched, x.overcurrent, x.conflictSticky, x.pulse.isSome, wakeEdgeOn n s]), (1, 0), (8, x.edges.val),
    (4, x.latches.val), (4, x.retries.val), (4, x.conflicts.val), (4, 0)] ++
  tb10 x.lastChange ++ enc [(2, 0)]

/-- FIO_STATUS_GET. -/
def fioStatusGetBody (q : Req) (s : State) : Body :=
  let sat (n : Nat) : Bool := (fioOf n s).latches.ovf || (fioOf n s).retries.ovf || (fioOf n s).conflicts.ovf
  checks [lenIs q 0] (okResp s (tb10 s.tb.now ++ enc [(2, 0),
    (4, pinBits 8 (fun n => (fioOf n s).edges.ovf) + 256 * pinBits 8 sat)] ++
    (List.range 8).flatMap fun n => fioEntry n s))

/-- The pins a mask of `w` bits names. -/
def maskPins (w mask : Nat) : List Nat := (List.range w).filter fun n => bitOf mask n

/-- FIO_OUTPUT_SET (R664). -/
def fioOutputSetBody (q : Req) (s : State) : Body :=
  let p := q.payload
  let pins := maskPins 8 (f1 p 0)
  let s1 := forEach pins (fun n => updFio n (commandOutput (bitOf (f1 p 1) n) s.elapsed)) s
  checks [lenIs q 4, (pins.all fun n => decide ((fioOf n s).mode = 3), .pinMode),
      (pins.all fun n => (fioOf n s).pulse.isNone, .pinBusy)]
    (okResp s1 (enc [(1, pinBits 8 fun n => conducts n s1), (1, pinBits 8 fun n => (fioOf n s1).latched), (2, 0)]))

/-- The items of a kind in an armed commit (R192). -/
def armedItems (typ : Nat) (s : State) : List Item :=
  match s.kmp.committed with
  | none => []
  | some c => c.items.filter fun i => decide (i.typ = typ)

/-- An armed commit changes the mode of field pin `n` (R665). -/
def armedModeChange (n : Nat) (s : State) : Bool :=
  (armedItems 0x0A10 s).any fun i =>
    (List.range 8).any fun k => decide (f1 i.data (12 * k) = n ∧ f1 i.data (12 * k + 1) ≠ (fioOf n s).mode)

/-- START of a pulse or capture: valid, and zero or later than the time base (R665, R668). -/
def startOk (p : List Byte) (off : Nat) (s : State) : Bool :=
  tbFieldOk p off && (decide (tbField p off = 0) || decide (s.tb.now < tbField p off))

/-- The instant START names: 0 is the first tick after acceptance. -/
def startAt (p : List Byte) (off : Nat) (s : State) : Nat :=
  if tbField p off = 0 then s.tb.now + tickNs s.sup.mode else tbField p off

/-- FIO_PULSE (R647, R665). -/
def fioPulseBody (q : Req) (s : State) : Body :=
  let p := q.payload
  let n := f1 p 0
  let x := fioOf n s
  checks [lenIs q 20,
      (decide (n ≤ 7 ∧ f1 p 1 ≤ 1 ∧ 1000 ≤ f4 p 16 ∧ f4 p 16 ≤ 3600000000) && startOk p 4 s, .fioParam),
      (decide (x.mode = 3), .pinMode), (!x.latched, .fioLatched), (x.pulse.isNone && !armedModeChange n s, .pinBusy)]
    (match grantTimer 0xFF s with
    | none => .error .timerBusy
    | some g =>
      okResp (updFio n (fun x => { x with pulse := some ⟨decide (f1 p 1 = 1), startAt p 4 s, f4 p 16, g, false⟩ })
        (takeTimer .fio g (startAt p 4 s) 0 s)) (enc [(1, g), (3, 0)]))

/-- FIO_CLEAR on one pin: a latched output that is commanded on is turned on and tested afresh; a retry instant on the same
tick is used up (R675). (DEDUCED: log entry 242) -/
def clearPin (now : Nat) (p : FioPin) : FioPin :=
  let p1 := { p with overcurrent := false, conflictSticky := false }
  if p.latched ∧ p.commanded ∧ driveOf p then
    retest now { p1 with latched := false, on := true, retryAt := none, limitSince := none, quietUntil := now + msNs 2, test := none }
  else p1

/-- FIO_CLEAR. -/
def fioClearBody (q : Req) (s : State) : Body :=
  checks [lenIs q 4] (okEmpty (forEach (maskPins 8 (f1 q.payload 0)) (fun n => updFio n (clearPin s.elapsed)) s))

/-- The fields of a GPIO_CONFIG_SET payload at `off` are in range (R666). -/
def gpioCfgOk (p : List Byte) (off : Nat) : Bool :=
  let n := f1 p off
  let fn := f1 p (off + 1)
  decide (n ≤ 31 ∧ fn ≤ 1 ∧ f1 p (off + 3) ≤ 2) && decide (fn = 1 → n ≤ 11) && decide (fn = 0 → f1 p (off + 2) ≤ 2) &&
    decide (fn = 1 ∧ n = 0 → f2 p (off + 6) ≤ 500)

/-- Apply a GPIO_CONFIG_SET payload at `off`; INIT_HIGH gives the data bit when the base section is applied. -/
def applyGpioCfg (base : Bool) (p : List Byte) (off : Nat) (s : State) : State :=
  let n := f1 p off
  let alt := decide (f1 p (off + 1) = 1)
  let high := bitOf (f1 p (off + 4)) 0
  let was := (gpioOf n s).alt
  { s with io :=
    { s.io with
      gpio := Tbl.set {} s.io.gpio n
        ⟨alt, if alt then (gpioOf n s).mode else f1 p (off + 2), f1 p (off + 3), high⟩
      data := if base then setBit s.io.data n high else s.io.data
      tout := if alt && !was && decide (4 ≤ n) then setBit s.io.tout (n - 4) (bitOf s.io.data n) else s.io.tout
      rtsLeadMs := if alt && decide (n = 0) then f2 p (off + 6) else s.io.rtsLeadMs } }

/-- UART0 sends what it held, once CTS no longer stops it (R653). -/
def releaseUart0 (s : State) : State :=
  if ctsStops s then s
  else forEach s.io.ctsHeld (fun x => uart0Send x.1 x.2) { s with io := { s.io with ctsHeld := [] } }

/-- GPIO_CONFIG_SET (R666). -/
def gpioConfigSetBody (q : Req) (s : State) : Body :=
  checks [lenIs q 8, (gpioCfgOk q.payload 0, .gpioParam)] (okEmpty (releaseUart0 (applyGpioCfg false q.payload 0 s)))

/-- A GPIO output pin (DIR). -/
def gpioIsOut (n : Nat) (s : State) : Bool :=
  let g := gpioOf n s
  !s.io.released && !g.alt && decide (1 ≤ g.mode)

/-- The level of a GPIO pad: driven by the data bit, by RTS (released, high) or by TOUTn, or given from outside (R648 to R654). -/
def padLevel (n : Nat) (s : State) : Bool :=
  let g := gpioOf n s
  let ext := bitOf s.io.ext n
  let dat := bitOf s.io.data n
  if s.io.released then ext
  else if g.alt then
    if n = 0 then true
    else if n ≤ 3 then ext
    else if (timerOf (n - 4) s).owner = .kmp then bitOf s.io.tout (n - 4)
    else dat
  else
    match g.mode with
    | 0 => ext
    | 1 => dat
    | _ => dat && ext

/-- PAD and IN (R650). -/
def padLevels (s : State) : Nat := pinBits 32 fun n => padLevel n s

/-- DIR of GPIO_READ. -/
def gpioDir (s : State) : Nat := pinBits 32 fun n => gpioIsOut n s

/-- GPIO_WRITE: DATA = (DATA AND NOT MASK) OR (VALUE AND MASK) (R649). -/
def gpioWriteBody (q : Req) (s : State) : Body :=
  let mask := f4 q.payload 0
  let data := pinBits 32 fun n => if bitOf mask n then bitOf (f4 q.payload 4) n else bitOf s.io.data n
  checks [lenIs q 8] (okResp { s with io := { s.io with data := data } }
    (enc [(4, pinBits 32 fun n => bitOf mask n && !gpioIsOut n s)]))

/-- GPIO_READ; `ext` holds the levels the outside gives the pads (R650). -/
def gpioReadBody (q : Req) (ext : BitVec 32) (s : State) : Body :=
  let s1 := { s with io := { s.io with ext := ext.toNat } }
  checks [lenIs q 0] (okResp s1 (enc [(4, s.io.data), (4, gpioDir s1), (4, padLevels s1), (4, padLevels s1),
    (4, pinBits 32 fun n => (gpioOf n s1).alt)] ++ tb10 s.tb.now ++ enc [(2, 0)]))

/-- UART0_CTS: the level of CTS, asserted low; what UART0 held is sent (R653). -/
def uart0CtsEffect (t : Nat) (asserted : Bool) (s0 : State) : State :=
  let s := advance t s0
  releaseUart0 { s with io := { s.io with ext := setBit s.io.ext 1 (!asserted) } }

/-- A channel record of ADC_CONFIG_SET at `off` is in range for channel `c` (R667). -/
def adcCfgOk (c : Nat) (p : List Byte) (off : Nat) : Bool :=
  let low := fieldInt p (off + 8) 4
  let high := fieldInt p (off + 12) 4
  let mode := f1 p off
  let th := c = 3 ∨ c = 4
  decide (th → mode ≤ 1 ∧ 2000 ≤ f2 p (off + 2) ∧ f2 p (off + 2) ≤ 5000 ∧ 1000 ≤ f4 p (off + 4) ∧ f4 p (off + 4) ≤ 100000) &&
    decide (5 ≤ c → mode ≤ 2) && decide (low ≤ high) && decide ((f4 p (off + 16) : Int) ≤ high - low)

/-- Apply a channel record; a change of MODE clears the channel's limit flags and STATUS (R667). -/
def applyAdcChan (c : Nat) (p : List Byte) (off : Nat) (s : State) : State :=
  let mode := if c ≤ 2 then 0 else f1 p off
  updAdc c (fun a =>
    let b := { a with
      mode := mode, limitEvents := bitOf (f1 p (off + 1)) 0, beta := f2 p (off + 2), r25 := f4 p (off + 4)
      low := fieldInt p (off + 8) 4, high := fieldInt p (off + 12) 4, hyst := f4 p (off + 16) }
    if mode = a.mode then b else { b with status := 0, belowLow := false, aboveHigh := false }) s

/-- Apply an ADC_CONFIG_SET payload at `off`. -/
def applyAdcCfg (p : List Byte) (off : Nat) (s : State) : State :=
  forEach (List.range 7) (fun c => applyAdcChan c p (off + 20 * c)) s

/-- ADC_CONFIG_SET (R667). -/
def adcConfigSetBody (q : Req) (s : State) : Body :=
  checks [lenIs q 140, ((List.range 7).all fun c => adcCfgOk c q.payload (20 * c), .adcParam)]
    (okEmpty (applyAdcCfg q.payload 0 s))

/-- A channel is converted: 0 to 2 always, the others in a MODE but off (R655). -/
def adcEnabled (c : Nat) (s : State) : Bool := decide (c ≤ 2) || decide ((adcOf c s).mode ≠ 0)

/-- STATUS as reported: 5 while off. -/
def adcStatus (c : Nat) (s : State) : Nat := if adcEnabled c s then (adcOf c s).status else 5

/-- FLAGS of a channel. -/
def adcFlags (c : Nat) (s : State) : Nat :=
  let a := adcOf c s
  flags [a.rangeStep, a.highRange, a.belowLow, a.aboveHigh]

/-- ADC_READ. -/
def adcReadBody (q : Req) (s : State) : Body :=
  checks [lenIs q 0] (okResp s ((List.range 7).flatMap fun c =>
    enc [(1, c), (1, adcStatus c s), (1, adcFlags c s), (1, 0)] ++ beInt 4 (adcOf c s).value ++ tb10 (adcOf c s).at0 ++
    enc [(2, 0), (4, (adcOf c s).faults.val)]))

/-- ADC_CAPTURE_SET (R661, R668). -/
def adcCaptureSetBody (q : Req) (s : State) : Body :=
  let p := q.payload
  let start := startAt p 4 s
  let period := sNs (f4 p 16)
  checks [lenIs q 20, (decide (f1 p 0 ≤ 1), .adcParam)]
    (if f1 p 0 = 1 then
      match s.io.capture with
      | none => okResp s (enc [(1, 0xFF), (3, 0)])
      | some g => okResp { setTimer g {} s with io := { s.io with capture := none } } (enc [(1, 0xFF), (3, 0)])
    else
      checks [(decide (1 ≤ f4 p 16 ∧ f4 p 16 ≤ 86400) && startOk p 4 s, .adcParam)]
        (match s.io.capture with
        | some g => okResp (takeTimer .adc g start period s) (enc [(1, g), (3, 0)])
        | none =>
          match grantTimer 0xFF s with
          | none => .error .timerBusy
          | some g =>
            let s1 := takeTimer .adc g start period s
            okResp { s1 with io := { s1.io with capture := some g } } (enc [(1, g), (3, 0)])))

/-- ADC_CAPTURE: the capture timer fires (R661). -/
def adcCaptureEffect (t : Nat) (s0 : State) : State :=
  let s := advance t s0
  match s.io.capture with
  | none => s
  | some g =>
    if timerDue .adc g s then
      raise .adcCapture 0 ((List.range 7).flatMap fun c =>
        enc [(1, adcStatus c s), (1, adcFlags c s)] ++ beInt 4 (adcOf c s).value)
        (setTimer g (firedTimer (timerOf g s) s.tb.now) s)
    else s

/-- What a conversion gives: status, value, range flags. -/
structure AdcResult where
  status : Nat
  value : Int
  rangeStep : Bool := false
  highRange : Bool := false
deriving DecidableEq, Repr

/-- Limit flags after a sample with STATUS OK (R660). (DEDUCED: log entry 245) -/
def limitFlags (a : AdcChan) (v : Int) : Bool × Bool :=
  (if v < a.low then true else if a.low + a.hyst ≤ v then false else a.belowLow,
   if a.high < v then true else if v ≤ a.high - a.hyst then false else a.aboveHigh)

/-- EV_ADC_LIMIT for `n` changed flags, at most once per channel per second (R660, R670). -/
def reportLimit (c n : Nat) (s : State) : State :=
  let a := adcOf c s
  if n = 0 ∨ !a.limitEvents then s
  else if reportDue a.lastEvent (sNs 1) s.elapsed then
    raise .adcLimit 0 (enc [(1, c), (1, adcFlags c s)] ++ beInt 4 a.value ++ be 4 (sat32 (a.changes + n)))
      (updAdc c (fun a => { a with lastEvent := some s.elapsed, changes := 0 }) s)
  else updAdc c (fun a => { a with changes := a.changes + n }) s

/-- A sample of channel `c` with the time base of its conversion's start (R655, R660), given to the monitors with STATUS OK
(R724). -/
def takeSample (c : Nat) (r : AdcResult) (at0 : Nat) (s : State) : State :=
  let a := adcOf c s
  let l := if r.status = 0 then limitFlags a r.value else (a.belowLow, a.aboveHigh)
  let s1 := updAdc c (fun a =>
    { a with
      status := r.status, value := r.value, rangeStep := r.rangeStep, highRange := r.highRange, at0 := at0
      belowLow := l.1, aboveHigh := l.2
      faults := if r.status ≠ a.status ∧ r.status ≠ 0 then a.faults.add32 1 else a.faults }) s
  let s2 := raiseIf (decide (r.status ≠ a.status)) .adcFault 0 (enc [(1, c), (1, a.status), (1, r.status)]) s1
  let s3 := reportLimit c (b2n (l.1 != a.belowLow) + b2n (l.2 != a.aboveHigh)) s2
  if r.status = 0 then evalSource 2 c r.value s3 else s3

/-- The ADC runs (R655). -/
def adcRuns (s : State) : Bool := decide (tickNs s.sup.mode ≠ 0)

/-- The result of a VIN conversion (R656): the range chosen by the previous sample, a full-scale low-range conversion
repeated in the high range. -/
def vinResult (prev : Option Nat) (low high : Nat) : AdcResult :=
  let hi := high * 16
  let hiStatus := if high = 4095 then 4 else 0
  match prev with
  | some v =>
    if v ≤ 18000 then
      if low = 4095 then ⟨hiStatus, hi, true, true⟩ else ⟨0, low * 5, false, false⟩
    else ⟨hiStatus, hi, false, true⟩
  | none => ⟨hiStatus, hi, false, true⟩

/-- VIN_CONVERSION, with the codes of both ranges (R655 to R657). (DEDUCED: log entry 246) -/
def vinConversionEffect (t : Nat) (lowCode highCode : BitVec 12) (s0 : State) : State :=
  let s := advance t s0
  if adcRuns s then
    let r := vinResult s.io.vinPrev lowCode.toNat highCode.toNat
    let mv := r.value.toNat
    let s1 := takeSample 0 r (s.tb.now / usNs 100 * usNs 100) s
    { s1 with
      io := { s1.io with vinPrev := some mv }
      sup := { s1.sup with vinMv := mv, vinMinMv := min s1.sup.vinMinMv mv } }
  else s

/-- One of the fixed-point logarithm (10^-18). -/
def lnOne : Nat := 10 ^ 18

/-- The series of 2 artanh z from term `k`, `p` being z^(2k+1). -/
def lnSeries (z2 : Nat) : Nat → Nat → Nat → Nat
  | 0, _, _ => 0
  | n + 1, k, p => 2 * p / (2 * k + 1) + lnSeries z2 n (k + 1) (p * z2 / lnOne)

/-- Halve or double until the value lies in [1, 2), counting powers of 2. -/
def lnNorm : Nat → Nat → Int → Nat × Int
  | 0, x, k => (x, k)
  | n + 1, x, k =>
    if 2 * lnOne ≤ x then lnNorm n (x / 2) (k + 1)
    else if x < lnOne then lnNorm n (x * 2) (k - 1)
    else (x, k)

/-- ln(a / b) in 10^-18. -/
def lnRatio (a b : Nat) : Int :=
  let m := lnNorm 64 (a * lnOne / b) 0
  let z := (m.1 - lnOne) * lnOne / (m.1 + lnOne)
  (lnSeries (z * z / lnOne) 24 0 z : Nat) + m.2 * 693147180559945309

/-- The temperature of a thermistor of `mohm` milliohm in 0.01 °C (R658), rounded to the nearest; none where the formula has
no positive absolute temperature. (DESIGN CHOICE: log entry 247) -/
def ntcCenti (mohm r25 beta : Nat) : Option Int :=
  let inv : Int := (20 * 10 ^ 18 : Nat) / 5963 + lnRatio mohm (1000 * r25) / (beta : Int)
  if 0 < inv then some (((100 * 10 ^ 18 : Nat) + inv / 2) / inv - 27315) else none

/-- 0x80000000, the VALUE of an OPEN or SHORT sample (R659). -/
def adcNoValue : Int := -2147483648

/-- A temperature of the range table, or a free value outside it. (DESIGN CHOICE: log entry 247) -/
def tempOrFree (v : Option Int) (n : Nat) : Int :=
  match v with
  | some x => if -5500 ≤ x ∧ x ≤ 15000 then x else Config.freeInt n
  | none => Config.freeInt n

/-- The result of a conversion of channel 1 to 6 (R658, R659): PLATE and DIE measure `value` in 0.01 °C, a thermistor `value`
in milliohm, AI0 and AI1 `value` in µV or µA. (DEDUCED: log entry 248) -/
def adcResult (c : Nat) (a : AdcChan) (openTest : Bool) (code : Nat) (value : Int) (free : Nat) : AdcResult :=
  if c ≤ 2 then { status := 0, value := value }
  else if c ≤ 4 then
    if openTest ∨ 4090 ≤ code then { status := 1, value := adcNoValue }
    else if value < 50000 then { status := 2, value := adcNoValue }
    else { status := 0, value := tempOrFree (ntcCenti value.toNat a.r25 a.beta) free }
  else if a.mode = 1 then { status := if code = 4095 then 4 else 0, value := min value 10240000 }
  else { status := if value < 3600 then 3 else if 21000 < value then 4 else 0, value := min value 25600 }

/-- The start of channel `c`'s latest conversion at time base `tb`: offset (c − 1) × 300 µs + 50 µs of a 2 ms round (R655).
(DEDUCED: log entry 246) -/
def adcStart (c tb : Nat) : Nat :=
  let off := (c - 1) * usNs 300 + usNs 50
  (tb - off) / msNs 2 * msNs 2 + off

/-- ADC_CONVERSION (R655, R658 to R660, R673). -/
def adcConversionEffect (t : Nat) (c : Fin 7) (openTest : Bool) (code : BitVec 12) (value : Int) (s0 : State) : State :=
  let s := advance t s0
  if adcRuns s ∧ c ≠ 0 ∧ adcEnabled c s then
    takeSample c (adcResult c (adcOf c s) openTest code.toNat value s.freeCtr) (adcStart c s.tb.now) (bumpFree s)
  else s

/-- A field pin as R637 holds it: its output off, its pulse given up. -/
def releasePin (p : FioPin) : FioPin :=
  { p with
    on := false, commanded := false, latched := false, retryAt := none, limitSince := none, pulse := none, test := none
    change := none }

/-- The pins are held (R637): outputs off, GPIO inputs without pull, alternate functions released; the ADC stands still
(R655), and what the outside puts on the pins stays. -/
def releasePins (s : State) : State :=
  let s1 := forEach (List.range 8) (fun n => updFio n releasePin) s
  { s1 with io :=
    { s1.io with
      released := true, gpio := [], data := 0, tout := 0, ctsHeld := [], vinPrev := none, capture := none } }

/-- The settings of a field pin are lost, as a Keystone run starts; the voltage on it stays. -/
def forgetPin (p : FioPin) : FioPin := { mv := p.mv }

/-- A Keystone run starts: the pins are held, and the settings and counters of the watch firmware are gone (R637). -/
def forgetPins (s : State) : State :=
  let s1 := forEach (List.range 8) (fun n => updFio n forgetPin) (releasePins s)
  { s1 with io := { s1.io with adc := [], rtsLeadMs := 50 } }

/-- A stage item 0x0A10 is well formed and every payload would be accepted (R669); the pulse and wake-edge tests follow. -/
def fieldItemOk (body : List Byte) (s : State) : Bool :=
  decide (body.length = 8 * 12 + 32 * 8 + 140) &&
    ((List.range 8).all fun k => fioCfgOk body (12 * k)) &&
    ((List.range 32).all fun k => gpioCfgOk body (96 + 8 * k)) &&
    ((List.range 7).all fun c => adcCfgOk c body (352 + 20 * c)) &&
    ((List.range 8).all fun k =>
      let n := f1 body (12 * k)
      !(decide (f1 body (12 * k + 1) ≠ (fioOf n s).mode) && (fioOf n s).pulse.isSome))

/-- EV_PIN_REFUSED (R652). (DEDUCED: log entry 250) -/
def pinRefused (n refused holding : Nat) (s : State) : State := raise .pinRefused 0 (enc [(1, n), (1, refused), (1, holding)]) s

/-- Apply the payload of field pin `k` of an item 0x0A10: a pulse that holds the pin keeps it (R652), and an output that
meets an enabled wake edge takes the pin from it. (DEDUCED: log entry 250) -/
def applyFieldPin (base : Bool) (body : List Byte) (k : Nat) (s : State) : State :=
  let off := 12 * k
  let n := f1 body off
  let m := f1 body (off + 1)
  if (fioOf n s).pulse.isSome ∧ m ≠ (fioOf n s).mode then pinRefused n (if m = 3 then 2 else 4) 1 s
  else if m = 3 ∧ wakeEdgeOn n s then
    pinRefused n 3 2 (applyFioCfg base body off
      { s with wake := { s.wake with riseMask := setBit s.wake.riseMask n false, fallMask := setBit s.wake.fallMask n false } })
  else applyFioCfg base body off s

/-- Apply an item 0x0A10 (R636, R669). -/
def applyFieldItem (base : Bool) (body : List Byte) (s : State) : State :=
  let s1 := forEach (List.range 8) (applyFieldPin base body) s
  let s2 := forEach (List.range 32) (fun k => applyGpioCfg base body (96 + 8 * k)) s1
  releaseUart0 (applyAdcCfg body 352 s2)

/-! ### The meanings -/

/-- FIO_CONFIG_SET. -/
def execFioConfigSet (q : Req) (s : State) : Host.Outcome State Fault Refusal :=
  .next (kmpExec .fioConfigSet q (fioConfigSetBody q) s)

/-- FIO_STATUS_GET. -/
def execFioStatusGet (q : Req) (s : State) : Host.Outcome State Fault Refusal :=
  .next (kmpExec .fioStatusGet q (fioStatusGetBody q) s)

/-- FIO_OUTPUT_SET. -/
def execFioOutputSet (q : Req) (s : State) : Host.Outcome State Fault Refusal :=
  .next (kmpExec .fioOutputSet q (fioOutputSetBody q) s)

/-- FIO_PULSE. -/
def execFioPulse (q : Req) (s : State) : Host.Outcome State Fault Refusal :=
  .next (kmpExec .fioPulse q (fioPulseBody q) s)

/-- FIO_CLEAR. -/
def execFioClear (q : Req) (s : State) : Host.Outcome State Fault Refusal :=
  .next (kmpExec .fioClear q (fioClearBody q) s)

/-- GPIO_CONFIG_SET. -/
def execGpioConfigSet (q : Req) (s : State) : Host.Outcome State Fault Refusal :=
  .next (kmpExec .gpioConfigSet q (gpioConfigSetBody q) s)

/-- GPIO_WRITE. -/
def execGpioWrite (q : Req) (s : State) : Host.Outcome State Fault Refusal :=
  .next (kmpExec .gpioWrite q (gpioWriteBody q) s)

/-- GPIO_READ. -/
def execGpioRead (q : Req) (ext : BitVec 32) (s : State) : Host.Outcome State Fault Refusal :=
  .next (kmpExec .gpioRead q (gpioReadBody q ext) s)

/-- ADC_CONFIG_SET. -/
def execAdcConfigSet (q : Req) (s : State) : Host.Outcome State Fault Refusal :=
  .next (kmpExec .adcConfigSet q (adcConfigSetBody q) s)

/-- ADC_READ. -/
def execAdcRead (q : Req) (s : State) : Host.Outcome State Fault Refusal :=
  .next (kmpExec .adcRead q (adcReadBody q) s)

/-- ADC_CAPTURE_SET. -/
def execAdcCaptureSet (q : Req) (s : State) : Host.Outcome State Fault Refusal :=
  .next (kmpExec .adcCaptureSet q (adcCaptureSetBody q) s)

/-- FIO_INPUT_CHANGE. -/
def execFioInputChange (t : Nat) (pin : Fin 8) (mv : Nat) (s : State) : Host.Outcome State Fault Refusal :=
  .next (fioInputChangeEffect t pin mv s)

/-- DEBOUNCE. -/
def execDebounce (t : Nat) (pin : Fin 8) (s : State) : Host.Outcome State Fault Refusal :=
  .next (debounceEffect t pin s)

/-- CURRENT_LIMIT. -/
def execCurrentLimit (t : Nat) (pin : Fin 8) (limited : Bool) (s : State) : Host.Outcome State Fault Refusal :=
  .next (currentLimitEffect t pin limited s)

/-- OVERCURRENT_LATCH. -/
def execOvercurrentLatch (t : Nat) (pin : Fin 8) (s : State) : Host.Outcome State Fault Refusal :=
  .next (overcurrentLatchEffect t pin s)

/-- OUTPUT_RETRY. -/
def execOutputRetry (t : Nat) (pin : Fin 8) (s : State) : Host.Outcome State Fault Refusal :=
  .next (outputRetryEffect t pin s)

/-- READBACK_CONFLICT. -/
def execReadbackConflict (t : Nat) (pin : Fin 8) (s : State) : Host.Outcome State Fault Refusal :=
  .next (readbackConflictEffect t pin s)

/-- CONFLICT_CLEAR. -/
def execConflictClear (t : Nat) (pin : Fin 8) (s : State) : Host.Outcome State Fault Refusal :=
  .next (conflictClearEffect t pin s)

/-- PULSE_START. -/
def execPulseStart (t : Nat) (pin : Fin 8) (s : State) : Host.Outcome State Fault Refusal :=
  .next (pulseStartEffect t pin s)

/-- PULSE_END. -/
def execPulseEnd (t : Nat) (pin : Fin 8) (s : State) : Host.Outcome State Fault Refusal :=
  .next (pulseEndEffect t pin s)

/-- VIN_CONVERSION. -/
def execVinConversion (t : Nat) (lowCode : BitVec 12) (highCode : BitVec 12) (s : State) : Host.Outcome State Fault Refusal :=
  .next (vinConversionEffect t lowCode highCode s)

/-- ADC_CONVERSION. -/
def execAdcConversion (t : Nat) (c : Fin 7) (openTest : Bool) (code : BitVec 12) (value : Int) (s : State) : Host.Outcome State Fault Refusal :=
  .next (adcConversionEffect t c openTest code value s)

/-- ADC_CAPTURE. -/
def execAdcCapture (t : Nat) (s : State) : Host.Outcome State Fault Refusal :=
  .next (adcCaptureEffect t s)

/-- UART0_CTS. -/
def execUart0Cts (t : Nat) (asserted : Bool) (s : State) : Host.Outcome State Fault Refusal :=
  .next (uart0CtsEffect t asserted s)

end Sys2Proof.Machine
end

