-- ==== Sys2Proof/Machine/HostOps.lean ====
section
/-! DEFINITION. Machine/HostOps.lean: the firmware's flags, the reset of the rings, and what takes the PCIe link down (R233 to R249). -/

namespace Sys2Proof.Machine

open Sys2Proof

/-- Change the host window's own state. -/
def updHost (f : HostWin → HostWin) (s : State) : State := { s with host := f s.host }

/-- The firmware writes CORE_FLAG, which sets INT_CAUSE bit CORE_FLAG where it changes (R245). -/
def writeCoreFlag (up quiesced : Bool) (s : State) : State :=
  if s.host.fwUp = up ∧ s.host.quiesced = quiesced then s
  else setCause causeCoreFlag (updHost (fun h => { h with fwUp := up, quiesced := quiesced }) s)

/-- A request of a host path waits or executes, or its response has not been written. -/
def hostBusy (s : State) : Bool :=
  requestHeld s || (s.kmp.waiting.any fun w => !w.req.remote && decide (w.req.transport = .pcie ∨ w.req.transport = .spi)) ||
    s.host.rings.waiting.any fun m => decide (m.typ = 2)

/-- QUIESCED follows QUIESCE_REQ (R249). -/
def noteQuiesced (s : State) : State :=
  writeCoreFlag s.host.fwUp (s.host.quiesceReq && (s.host.quiesced || !hostBusy s)) s

/-- RESET of the rings (R237): events stay in the hold and are sent again. -/
def ringsReset (s : State) : State :=
  noteQuiesced (updHost (fun h => { h with rings :=
    { h.rings with enable := false, fault := 0, reqTail := 0, reqHead := 0, rspHead := 0, rspTail := 0, waiting := [] } }) s)

/-- What PERST_N and a link-down reset (R242). (DEDUCED: log entries 100, 107) -/
def pcieReset (s : State) : State :=
  let s1 := updHost (fun h =>
    { h with
      intMask := 0, driverUp := false, quiesceReq := false, hostFree := 0, msiMode := 0, busMaster := false
      msixAddrLo := 0, msixAddrHi := 0, msixData := 0, msixMask := true, msixPending := false }) s
  noteQuiesced (if s.host.rings.ownerSpi then s1 else ringsReset s1)

/-- EV_HOST_LINK with the width and the rate of the link (R244). (DEDUCED: log entry 106) -/
def hostLinkEvent (up : Bool) (s : State) : State :=
  raise .hostLink 0 (enc [(1, b2n up), (1, s.host.linkWidth), (1, s.host.linkRate)]) s

/-- The PCIe link goes down (R242). (DEDUCED: log entry 106) -/
def hostLinkDown (s : State) : State :=
  if s.host.linkUp then
    updHost (fun h => { h with linkUp := false, linkWidth := 0, linkRate := 0 }) (hostLinkEvent false (pcieReset s))
  else s

end Sys2Proof.Machine
end

