-- ==== Sys2Proof/Machine/Lanes.lean ====
section
/-! DEFINITION. Machine/Lanes.lean: the lane commands and the events of a lane (R250 to R295). -/

namespace Sys2Proof.Machine

open Sys2Proof

/-! ### Codes and settings -/

/-- OWNER codes (R282 table). -/
def LaneOwner.code : LaneOwner → Nat
  | .none => 0
  | .ethernet => 1
  | .causeway => 2
  | .test => 3

/-- TX_STATE and RX_STATE codes. -/
def Half.code : Half → Nat
  | .off => 0
  | .sleep => 1
  | .active => 2

/-- CW_ALIGN codes. -/
def CwAlign.code : CwAlign → Nat
  | .idle => 0
  | .hunt => 1
  | .check => 2
  | .locked => 3

/-- The settings of a LANE_CONFIG_SET payload. -/
def laneCfgOf (p : List Byte) : LaneCfg where
  txInvert := bitOf (f1 p 1) 0
  rxInvert := bitOf (f1 p 1) 1
  ffeDefault := bitOf (f1 p 1) 2
  ctleFixed := bitOf (f1 p 1) 3
  dfeHold := bitOf (f1 p 1) 4
  ctlePeak := f1 p 2
  impairEn := f1 p 3 % 4
  ffe := [fieldInt p 4 1, fieldInt p 5 1, fieldInt p 6 1, fieldInt p 7 1]
  cmMv := f2 p 8
  burstMaxUs := f2 p 10

/-- A lane's settings in the layout of LANE_CONFIG_SET. -/
def laneCfgBytes (l : Nat) (c : LaneCfg) : List Byte :=
  enc [(1, l), (1, flags [c.txInvert, c.rxInvert, c.ffeDefault, c.ctleFixed, c.dfeHold]), (1, c.ctlePeak), (1, c.impairEn)] ++
    c.ffe.flatMap (beInt 1) ++ enc [(2, c.cmMv), (2, c.burstMaxUs), (4, 0)]

/-- Every field of a LANE_CONFIG_SET is in range (R255, R283). -/
def laneCfgOk (p : List Byte) : Bool :=
  let c := laneCfgOf p
  decide (c.ctlePeak ≤ 15) && (c.ffeDefault || ffeValid c.ffe) && decide (50 ≤ c.cmMv) && decide (c.cmMv ≤ 500) &&
    decide (1 ≤ c.burstMaxUs) && decide (c.burstMaxUs ≤ 1000)

/-- A change that restarts cold acquisition (R283). -/
def cfgRestarts (a b : LaneCfg) : Bool :=
  decide (a.rxInvert ≠ b.rxInvert ∨ a.ctleFixed ≠ b.ctleFixed ∨ a.ctlePeak ≠ b.ctlePeak)

/-- Apply lane settings (R256, R283). -/
def setLaneCfg (l : Nat) (c : LaneCfg) (s : State) : State :=
  let old := (laneOf l s).cfg
  let s1 := updLane l (fun y => { y with cfg := c }) s
  if cfgRestarts old c ∧ (laneOf l s).rx = .active then coldAcquire l s1 else s1

/-- LANE of a request is a lane (R282). -/
def laneNumOk (l : Nat) : Bool × Err := (decide (l ≤ 143), .laneNumber)

/-! ### Commands -/

/-- LANE_CONFIG_SET (R283). -/
def laneConfigSetBody (q : Req) (s : State) : Body :=
  let l := f1 q.payload 0
  checks [lenIs q 16, laneNumOk l, (laneCfgOk q.payload, .laneParam)] (okEmpty (setLaneCfg l (laneCfgOf q.payload) s))

/-- LANE_CONFIG_GET. -/
def laneConfigGetBody (q : Req) (s : State) : Body :=
  let l := f1 q.payload 0
  checks [lenIs q 4, laneNumOk l] (okResp s (laneCfgBytes l (laneOf l s).cfg))

/-- Adaptation pauses (R260). -/
def adaptPaused (x : Lane) (now : Nat) : Bool := x.cfg.dfeHold || decide (now < x.pauseUntil)

/-- FFE weights in use. -/
def ffeInUse (x : Lane) : List Int := if x.cfg.ffeDefault then ffeDefault x.rate else x.cfg.ffe

/-- LANE_STATUS_GET response (R282 table). -/
def laneStatus (l : Nat) (s : State) : List Byte :=
  let x := laneOf l s
  enc [(1, l), (1, x.owner.code), (1, x.rate), (1, x.tx.code), (1, x.rx.code),
    (1, flags [x.signal, x.cdr, x.dfeRail, x.quarantine, adaptPaused x s.elapsed]),
    (1, if x.owner = .causeway then x.align.code else 0xFF), (1, x.ctle)] ++
  (ffeInUse x).flatMap (beInt 1) ++ x.dfe.flatMap (beInt 1) ++ tb10 x.lockedSince ++ be 2 0

/-- LANE_STATUS_GET. -/
def laneStatusGetBody (q : Req) (s : State) : Body :=
  let l := f1 q.payload 0
  checks [lenIs q 4, laneNumOk l] (okResp s (laneStatus l s))

/-- TX and RX of LANE_SLEEP_SET. -/
def halfOf : Nat → Half
  | 1 => .off
  | 2 => .sleep
  | _ => .active

/-- A port whose half has left ACTIVE goes down at once with cause 6 (R326). -/
def halfLeaves (l : Nat) (s : State) : State :=
  match portOfLane l s with
  | none => s
  | some p =>
    if (portOf p s).link ∧ ((laneOf l s).tx ≠ .active ∨ (laneOf l s).rx ≠ .active) then portGoesDown p 6 s else s

/-- Apply a LANE_SLEEP_SET (R262, R291, R326). -/
def setHalves (l tx rx : Nat) (s : State) : State :=
  let s1 := if tx = 0 then s else setTx l (halfOf tx) s
  halfLeaves l (if rx = 0 then s1 else setRx l (halfOf rx) s1)

/-- LANE_SLEEP_SET (R284). (DEDUCED: log entry 118) -/
def laneSleepSetBody (q : Req) (s : State) : Body :=
  let l := f1 q.payload 0
  checks [lenIs q 4, laneNumOk l, (decide (f1 q.payload 1 ≤ 3) && decide (f1 q.payload 2 ≤ 3), .laneParam),
      (decide ((laneOf l s).owner ≠ .causeway), .laneBusy), (decide ((laneOf l s).owner ≠ .none), .laneIdle)]
    (okEmpty (setHalves l (f1 q.payload 1) (f1 q.payload 2) s))

/-- A pattern suits a RATE (R265). -/
def patternSuits (pat rate : Nat) : Bool :=
  if pat = 0 then true else if pat ≤ 5 then decide (rate ≤ 3) else decide (4 ≤ rate)

/-- Fields of a start action are in range. -/
def testFieldsOk (p : List Byte) : Bool :=
  decide (1 ≤ f1 p 2) && decide (f1 p 2 ≤ 5) && decide (f1 p 3 ≤ 7) && decide (f1 p 4 ≤ 7) && decide (f1 p 5 ≤ 2)

/-- Start or restart a test (R267, R285). -/
def startTest (l : Nat) (p : List Byte) (s : State) : State :=
  let s1 := updLane l (fun y =>
    { y with test := { gen := f1 p 3, chk := f1 p 4, loop := f1 p 5, startedAt := s.tb.now } }) s
  ownLane l .test (f1 p 2) (if (laneOf l s).owner = .test ∧ (laneOf l s).rate ≠ f1 p 2 then coldAcquire l s1 else s1)

/-- LANE_TEST_SET (R285). (DEDUCED: log entries 118, 119) -/
def laneTestSetBody (q : Req) (s : State) : Body :=
  let p := q.payload
  let l := f1 p 0
  let o := (laneOf l s).owner
  let notTaken := (decide (o ≠ .ethernet ∧ o ≠ .causeway), Err.laneBusy)
  checks [lenIs q 8, laneNumOk l, (decide (f1 p 1 ≤ 1), .laneParam)] <|
    if f1 p 1 = 1 then checks [notTaken, (decide (o = .test), .laneIdle)] (okEmpty (stopTest l 0 s))
    else
      checks [(testFieldsOk p, .laneParam), notTaken,
        (patternSuits (f1 p 3) (f1 p 2) && patternSuits (f1 p 4) (f1 p 2), .prbsPattern),
        (!(decide (f1 p 5 = 2) && decide (f1 p 3 ≠ 0)), .laneParam),
        (!(decide (s.sup.mode = .keep) && !s.clk.laneRefs.contains (laneGroup l)), .laneGroupOff)]
        (okEmpty (startTest l p s))

/-- Bit errors the checker has seen since they were last taken, of which `struck` fell inside the latest strike window
(R266, R292). -/
def takeErrors (l errs struck : Nat) (s : State) : State :=
  if (laneOf l s).test.locked then
    let n := min struck errs
    let s1 := updLane l (fun y =>
      { y with test := { y.test with errors := y.test.errors.add32 errs, struck := y.test.struck.add32 n } }) s
    match s1.cnt.tally with
    | [] => s1
    | w :: ws => { s1 with cnt := { s1.cnt with tally := { w with kinds := Tbl.upd 0 w.kinds 3 (fun c => sat32 (c + n)) } :: ws } }
  else s

/-- LANE_PRBS_GET response (R282 table). -/
def prbsResp (l : Nat) (s : State) : List Byte :=
  let x := laneOf l s
  let b := prbsBits x s.elapsed
  enc [(1, l), (1, flags [x.test.locked, x.test.inverted, x.test.errors.ovf, x.test.lockLoss.ovf, b.ovf]), (2, 0),
    (8, b.val), (4, x.test.errors.val), (4, x.test.lockLoss.val), (4, x.test.struck.val)] ++
  tb10 x.test.startedAt ++ tb10 s.tb.now

/-- LANE_PRBS_GET: one snapshot (R282, R718); `errs` and `struck` are what the checker has counted since the last one. -/
def lanePrbsGetBody (q : Req) (errs struck : Nat) (s : State) : Body :=
  let l := f1 q.payload 0
  let s1 := takeErrors l errs struck s
  checks [lenIs q 4, laneNumOk l] (okResp s1 (prbsResp l s1))

/-- LANE_EYE_START (R269, R286). (DEDUCED: log entry 118) -/
def laneEyeStartBody (q : Req) (s : State) : Body :=
  let l := f1 q.payload 0
  let w := f1 q.payload 1
  checks [lenIs q 4, laneNumOk l, (s.lanes.scan.isNone, .eyeBusy),
      (decide ((laneOf l s).rx = .active) && (laneOf l s).cdr, .laneNotLocked), (decide (6 ≤ w) && decide (w ≤ 9), .laneParam)]
    (okEmpty { s with lanes := { s.lanes with scan := some ⟨l, w, s.strike.id, strikeOpen s⟩ } })

/-- LANE_EYE_GET response. -/
def eyeResp (l : Nat) (e : EyeScan) : List Byte :=
  enc [(1, l), (1, e.eyes), (1, eyeFlags e), (1, e.dwell)] ++ tb10 e.finishedAt ++
    padTo 12 (e.values.flatMap fun v => enc [(2, v.1), (1, v.2), (1, 0)])

/-- LANE_EYE_GET. -/
def laneEyeGetBody (q : Req) (s : State) : Body :=
  let l := f1 q.payload 0
  checks [lenIs q 4, laneNumOk l] (okResp s (eyeResp l (laneOf l s).eye))

/-! ### Events of a lane -/

/-- CDR_LOCK: acquisition completes; a cold one chooses the peaking and starts the DFE from zero (R258, R264).
(DESIGN CHOICE: log entry 120) -/
def cdrLockEffect (t : Nat) (l : Fin 144) (peak : Fin 16) (s0 : State) : State :=
  let s := advance t s0
  let x := laneOf l s
  if x.rx = .active ∧ !x.cdr then
    let s1 := updLane l (fun y =>
      if y.warm then { y with cdr := true, signal := true, lockedSince := s.tb.now }
      else
        { y with
          cdr := true
          signal := true
          lockedSince := s.tb.now
          ctle := if y.cfg.ctleFixed then y.cfg.ctlePeak else peak.val
          dfe := List.replicate 12 0
          railSince := List.replicate 12 none
          dfeRail := false }) s
    startAlign l (rxLockEvent l true x.warm (updLane l (fun y => { y with warm := false }) s1))
  else s

/-- CDR_LOSS (R276). (DEDUCED: log entry 113) -/
def cdrLossEffect (t : Nat) (l : Fin 144) (signal : Bool) (s0 : State) : State :=
  let s := advance t s0
  if (laneOf l s).cdr then updLane l (fun y => { y with signal := signal }) (loseCdr l s) else s

/-- ACQUISITION_RETRY (R295). -/
def acquisitionRetryEffect (t : Nat) (l : Fin 144) (s0 : State) : State :=
  let s := advance t s0
  let x := laneOf l s
  if x.rx = .active ∧ !x.cdr ∧ x.acqAt + msNs 20 ≤ s.elapsed then updLane l (fun y => { y with acqAt := s.elapsed, warm := false }) s
  else s

/-- WARM_WAKE_TIMEOUT (R264). -/
def warmWakeTimeoutEffect (t : Nat) (l : Fin 144) (s0 : State) : State :=
  let s := advance t s0
  let x := laneOf l s
  if x.rx = .active ∧ !x.cdr ∧ x.warm ∧ x.rxActiveAt + usNs 100 ≤ s.elapsed then
    updLane l (fun y => { y with warm := false, acqAt := s.elapsed }) s
  else s

/-- Limit of DFE tap `n`, from 0 (R259). -/
def tapLimit (n : Nat) : Int := if n = 0 then 127 else if n ≤ 3 then 64 else 32

/-- A tap after one step (R259). -/
def stepTap (up : BitVec 12) (n : Nat) (v : Int) : Int :=
  max (-(tapLimit n)) (min (tapLimit n) (if up.getLsbD n then v + 1 else v - 1))

/-- Taps after one step of each. -/
def stepTaps (up : BitVec 12) (l : List Int) : List Int := (l.zip (List.range 12)).map fun e => stepTap up e.2 e.1

/-- Since when each tap stands at its limit (R261). -/
def railTimes (now : Nat) (taps : List Int) (old : List (Option Nat)) : List (Option Nat) :=
  ((taps.zip old).zip (List.range 12)).map fun e =>
    sinceWhen (decide (e.1.1 = tapLimit e.2 ∨ e.1.1 = -(tapLimit e.2))) now e.1.2

/-- DFE_ADAPT: each tap moves one step while CDR is locked and adaptation is not paused (R259, R260). (DESIGN CHOICE: log entry 120) -/
def dfeAdaptEffect (t : Nat) (l : Fin 144) (up : BitVec 12) (s0 : State) : State :=
  let s := advance t s0
  let x := laneOf l s
  if x.cdr ∧ !adaptPaused x s.elapsed then
    updLane l (fun y =>
      { y with dfe := stepTaps up y.dfe, railSince := railTimes s.elapsed (stepTaps up y.dfe) y.railSince }) s
  else s

/-- DFE_RAIL: a tap has stood at its limit for 1 ms (R261). -/
def dfeRailEffect (t : Nat) (l : Fin 144) (tap : Fin 12) (s0 : State) : State :=
  let s := advance t s0
  let x := laneOf l s
  if heldFor (x.railSince.getD tap none) (msNs 1) s.elapsed ∧ !x.dfeRail then
    raise .laneEqRail 0 (enc [(1, l), (1, tap.val + 1)]) (updLane l (fun y => { y with dfeRail := true }) s)
  else s

/-- The checker can run: test ownership, a pattern, a locked receive half (R265). -/
def checkerRuns (x : Lane) : Bool := decide (x.owner = .test) && decide (x.test.chk ≠ 0) && decide (x.rx = .active) && x.cdr

/-- PRBS_LOCK (R266). -/
def prbsLockEffect (t : Nat) (l : Fin 144) (inverted : Bool) (s0 : State) : State :=
  let s := advance t s0
  let x := laneOf l s
  if checkerRuns x ∧ !x.test.locked then
    updLane l (fun y => { y with test := { y.test with locked := true, inverted := inverted, lockedAt := s.elapsed } }) s
  else s

/-- PRBS_LOCK_LOSS: `errs` bit errors are counted before the checker seeds itself again (R266, R292). -/
def prbsLockLossEffect (t : Nat) (l : Fin 144) (errs : Nat) (s0 : State) : State :=
  let s := advance t s0
  if (laneOf l s).test.locked ∧ 512 < errs then
    let s1 := takeErrors l errs (if strikeOpen s then errs else 0) s
    updLane l (fun y => { y with test := { y.test with lockLoss := y.test.lockLoss.add32 1 } }) (prbsStop l s1)
  else s

/-- EV_LANE_EYE_DONE: the scan ends with the spans it found (R268). -/
def laneEyeDoneEffect (t : Nat) (eyes : List (Nat × Nat)) (s0 : State) : State :=
  let s := advance t s0
  endScan false (eyes.take 3) s

/-- CW_COMMA in the state of the lane's alignment (R276, R293). -/
def commaStep (l : Nat) (expected : Bool) (wrong : Nat) (s : State) : State :=
  let x := laneOf l s
  match x.align with
  | .idle => s
  | .hunt => if wrong = 0 then updLane l (fun y => { y with align := .check, count := 1, miss := 0 }) s else s
  | .check =>
    if !expected then s
    else if wrong ≤ 4 then
      if x.count + 1 = 4 then lineUp l (alignEvent l true (updLane l (fun y => { y with align := .locked, count := 0, miss := 0 }) s))
      else updLane l (fun y => { y with count := y.count + 1 }) s
    else alignTo l .hunt s
  | .locked =>
    if !expected then s
    else if wrong ≤ 4 then updLane l (fun y => { y with miss := 0 }) s
    else if x.miss < 3 then updLane l (fun y => { y with miss := y.miss + 1, commaMiss := y.commaMiss.add32 1 }) s
    else alignTo l .hunt (updLane l (fun y => { y with alignLoss := y.alignLoss.add32 1 }) s)

/-- CW_COMMA: at an expected or found comma position, with the stuff errors of the block before it (R275, R276). -/
def cwCommaEffect (t : Nat) (l : Fin 144) (expected : Bool) (wrong : Fin 41) (stuffErrs : Nat) (s0 : State) : State :=
  let s := advance t s0
  commaStep l expected wrong (updLane l (fun y => { y with stuffErr := y.stuffErr.add32 stuffErrs }) s)

/-- The detectors of a lane act (R279). -/
def detectorsAct (x : Lane) (now : Nat) : Bool :=
  decide (x.rx = .active) && decide (x.owner ≠ .none) && decide (x.rxActiveAt + msNs 1 ≤ now)

/-- A trigger of a lane at elapsed instant `at0` (R260, R279 to R281). (DEDUCED: log entry 115) -/
def laneTrigger (l at0 : Nat) (s : State) : State :=
  let x := laneOf l s
  let recent := s.elapsed :: x.triggers.filter fun a => decide (s.elapsed < a + sNs 10)
  let enters := !x.quarantine && decide (20 < recent.length)
  let s1 := updLane l (fun y =>
    { y with
      triggers := recent.take 21
      pauseUntil := s.elapsed + usNs 100
      quarantine := y.quarantine || enters }) s
  if enters then raise .laneQuarantine 0 (enc [(1, l), (1, 1)]) s1
  else if x.quarantine then s1
  else strikeTrigger 2 at0 s1

/-- COMMON_MODE_TRIGGER (R277, R279). -/
def commonModeTriggerEffect (t : Nat) (l : Fin 144) (s0 : State) : State :=
  let s := advance t s0
  let x := laneOf l s
  if detectorsAct x s.elapsed ∧ bitOf x.cfg.impairEn 0 then
    laneTrigger l s.elapsed (updLane l (fun y => { y with cmTriggers := y.cmTriggers.add32 1 }) s)
  else s

/-- BURST_TRIGGER: the signal has returned after `lossNs` of loss (R278 to R280). -/
def burstTriggerEffect (t : Nat) (l : Fin 144) (lossNs : Nat) (s0 : State) : State :=
  let s := advance t s0
  let x := laneOf l s
  if detectorsAct x s.elapsed ∧ bitOf x.cfg.impairEn 1 ∧ 10 ≤ lossNs ∧ lossNs ≤ usNs x.cfg.burstMaxUs then
    laneTrigger l (s.elapsed - lossNs) (updLane l (fun y => { y with burstTriggers := y.burstTriggers.add32 1 }) s)
  else s

/-- QUARANTINE_EXIT: 60 s without a trigger (R281). -/
def quarantineExitEffect (t : Nat) (l : Fin 144) (s0 : State) : State :=
  let s := advance t s0
  let x := laneOf l s
  if x.quarantine ∧ heldFor x.triggers.head? (sNs 60) s.elapsed then
    raise .laneQuarantine 0 (enc [(1, l), (1, 0)]) (updLane l (fun y => { y with quarantine := false }) s)
  else s

/-- EV_LANE_FAULT: a lane PLL has not locked within 2 ms, and its half stays OFF (R294). -/
def laneFaultEffect (t : Nat) (l : Fin 144) (tx : Bool) (s0 : State) : State :=
  let s := advance t s0
  let x := laneOf l s
  if tx ∧ x.tx = .off ∧ x.txGoal ≠ .off then
    raise .laneFault 0 (enc [(1, l), (1, 0)]) (refreshRef l (updLane l (fun y => { y with txGoal := .off }) s))
  else if !tx ∧ x.rx = .off ∧ x.rxGoal ≠ .off then
    raise .laneFault 0 (enc [(1, l), (1, 1)]) (refreshRef l (updLane l (fun y => { y with rxGoal := .off }) s))
  else s

/-- LANE_PLL_LOCK: the half woken from OFF reaches the state it was told (R262). (DEDUCED: log entry 112) -/
def lanePllLockEffect (t : Nat) (l : Fin 144) (tx : Bool) (s0 : State) : State :=
  let s := advance t s0
  let x := laneOf l s
  if tx ∧ x.tx = .off ∧ x.txGoal ≠ .off then updLane l (fun y => { y with tx := y.txGoal, txGoal := .off }) s
  else if !tx ∧ x.rx = .off ∧ x.rxGoal = .active then rxActivate l false s
  else if !tx ∧ x.rx = .off ∧ x.rxGoal = .sleep then updLane l (fun y => { y with rx := .sleep, rxGoal := .off }) s
  else s

/-! ### The meanings -/

/-- LANE_CONFIG_SET. -/
def execLaneConfigSet (q : Req) (s : State) : Host.Outcome State Fault Refusal :=
  .next (kmpExec .laneConfigSet q (laneConfigSetBody q) s)

/-- LANE_CONFIG_GET. -/
def execLaneConfigGet (q : Req) (s : State) : Host.Outcome State Fault Refusal :=
  .next (kmpExec .laneConfigGet q (laneConfigGetBody q) s)

/-- LANE_STATUS_GET. -/
def execLaneStatusGet (q : Req) (s : State) : Host.Outcome State Fault Refusal :=
  .next (kmpExec .laneStatusGet q (laneStatusGetBody q) s)

/-- LANE_SLEEP_SET. -/
def execLaneSleepSet (q : Req) (s : State) : Host.Outcome State Fault Refusal :=
  .next (kmpExec .laneSleepSet q (laneSleepSetBody q) s)

/-- LANE_TEST_SET. -/
def execLaneTestSet (q : Req) (s : State) : Host.Outcome State Fault Refusal :=
  .next (kmpExec .laneTestSet q (laneTestSetBody q) s)

/-- LANE_PRBS_GET. -/
def execLanePrbsGet (q : Req) (errs : Nat) (struck : Nat) (s : State) : Host.Outcome State Fault Refusal :=
  .next (kmpExec .lanePrbsGet q (lanePrbsGetBody q errs struck) s)

/-- LANE_EYE_START. -/
def execLaneEyeStart (q : Req) (s : State) : Host.Outcome State Fault Refusal :=
  .next (kmpExec .laneEyeStart q (laneEyeStartBody q) s)

/-- LANE_EYE_GET. -/
def execLaneEyeGet (q : Req) (s : State) : Host.Outcome State Fault Refusal :=
  .next (kmpExec .laneEyeGet q (laneEyeGetBody q) s)

/-- CDR_LOCK. -/
def execCdrLock (t : Nat) (l : Fin 144) (peak : Fin 16) (s : State) : Host.Outcome State Fault Refusal :=
  .next (cdrLockEffect t l peak s)

/-- CDR_LOSS. -/
def execCdrLoss (t : Nat) (l : Fin 144) (signal : Bool) (s : State) : Host.Outcome State Fault Refusal :=
  .next (cdrLossEffect t l signal s)

/-- ACQUISITION_RETRY. -/
def execAcquisitionRetry (t : Nat) (l : Fin 144) (s : State) : Host.Outcome State Fault Refusal :=
  .next (acquisitionRetryEffect t l s)

/-- WARM_WAKE_TIMEOUT. -/
def execWarmWakeTimeout (t : Nat) (l : Fin 144) (s : State) : Host.Outcome State Fault Refusal :=
  .next (warmWakeTimeoutEffect t l s)

/-- DFE_ADAPT. -/
def execDfeAdapt (t : Nat) (l : Fin 144) (up : BitVec 12) (s : State) : Host.Outcome State Fault Refusal :=
  .next (dfeAdaptEffect t l up s)

/-- DFE_RAIL. -/
def execDfeRail (t : Nat) (l : Fin 144) (tap : Fin 12) (s : State) : Host.Outcome State Fault Refusal :=
  .next (dfeRailEffect t l tap s)

/-- PRBS_LOCK. -/
def execPrbsLock (t : Nat) (l : Fin 144) (inverted : Bool) (s : State) : Host.Outcome State Fault Refusal :=
  .next (prbsLockEffect t l inverted s)

/-- PRBS_LOCK_LOSS. -/
def execPrbsLockLoss (t : Nat) (l : Fin 144) (errs : Nat) (s : State) : Host.Outcome State Fault Refusal :=
  .next (prbsLockLossEffect t l errs s)

/-- EV_LANE_EYE_DONE. -/
def execEvLaneEyeDone (t : Nat) (eyes : List (Nat × Nat)) (s : State) : Host.Outcome State Fault Refusal :=
  .next (laneEyeDoneEffect t eyes s)

/-- CW_COMMA. -/
def execCwComma (t : Nat) (l : Fin 144) (expected : Bool) (wrong : Fin 41) (stuffErrs : Nat) (s : State) : Host.Outcome State Fault Refusal :=
  .next (cwCommaEffect t l expected wrong stuffErrs s)

/-- COMMON_MODE_TRIGGER. -/
def execCommonModeTrigger (t : Nat) (l : Fin 144) (s : State) : Host.Outcome State Fault Refusal :=
  .next (commonModeTriggerEffect t l s)

/-- BURST_TRIGGER. -/
def execBurstTrigger (t : Nat) (l : Fin 144) (lossNs : Nat) (s : State) : Host.Outcome State Fault Refusal :=
  .next (burstTriggerEffect t l lossNs s)

/-- QUARANTINE_EXIT. -/
def execQuarantineExit (t : Nat) (l : Fin 144) (s : State) : Host.Outcome State Fault Refusal :=
  .next (quarantineExitEffect t l s)

/-- EV_LANE_FAULT. -/
def execEvLaneFault (t : Nat) (l : Fin 144) (tx : Bool) (s : State) : Host.Outcome State Fault Refusal :=
  .next (laneFaultEffect t l tx s)

/-- LANE_PLL_LOCK. -/
def execLanePllLock (t : Nat) (l : Fin 144) (tx : Bool) (s : State) : Host.Outcome State Fault Refusal :=
  .next (lanePllLockEffect t l tx s)

end Sys2Proof.Machine
end

