-- ==== Sys2Proof/Machine/PlaneModes.lean ====
section
/-! DEFINITION. Machine/PlaneModes.lean: what a change of mode does to clocks, ports, lanes, links, the Truss, the Decks, the
tables and DRAM (R48, R50, R77, R289, R367, R438, R489, R490, R579, R606). -/

namespace Sys2Proof.Machine

open Sys2Proof

/-! ### Decks and pipelines (R489, R490) -/

/-- The target ports of a packet on Deck `d`. -/
def deckTargets (d : Nat) (x : Packet) : List Nat := (portsIn (x.ports % 2 ^ 128)).filter fun p => decide (deckNum p = d)

/-- The packet of a head cell is lost on its way to Deck `d`: mode drops on its target ports. -/
def loseCell (d : Nat) (c : Cell) (s : State) : State :=
  match c.pkt with
  | none => s
  | some x => forEach (deckTargets d x) (fun p s => countModeDrop p s) s

/-- The packet being written from pipeline `k` to Deck `d` is lost: mode drops on the ports that admitted it. -/
def loseWriting (d k : Nat) (s : State) : State :=
  match (reseqOf d k s).writing with
  | none => s
  | some w => forEach (w.admitted ++ w.abandoned) (fun p s => countModeDrop p s) s

/-- What waits in a resequencer is lost. -/
def loseReseq (d k : Nat) (s : State) : State :=
  forEach ((reseqOf d k s).held.map fun h => h.cell) (fun c s => loseCell d c s) (loseWriting d k s)

/-- Cells on their way from pipelines to Decks that `gone` names are lost. (DEDUCED: log entry 190) -/
def losePaths (gone : Nat → Nat → Bool) (s : State) : State :=
  let queued := s.dp.pipe.flatMap fun e => (e.2.queues.filter fun q => gone e.1 q.1).flatMap fun q => q.2.map fun c => (q.1, c)
  let transit := s.dp.plane.flatMap fun e => (e.2.cells.filter fun c => gone c.pipe c.deck).map fun c => (c.deck, c.cell)
  let arriving := s.dp.deck.flatMap fun e => (e.2.arriving.filter fun a => gone a.1 e.1).map fun a => (e.1, a.2)
  let s1 := forEach (queued ++ transit ++ arriving) (fun e s => loseCell e.1 e.2 s) s
  let pipe1 := s1.dp.pipe.map fun e => (e.1,
    { e.2 with
      queues := e.2.queues.filter fun q => !gone e.1 q.1
      seqs := e.2.seqs.filter fun q => !gone e.1 q.1 })
  let plane1 := s1.dp.plane.map fun e => (e.1, { e.2 with cells := e.2.cells.filter fun c => !gone c.pipe c.deck })
  let deck1 := s1.dp.deck.map fun e => (e.1, { e.2 with arriving := e.2.arriving.filter fun a => !gone a.1 e.1 })
  { s1 with dp := { s1.dp with
      pipe := pipe1.filter fun e => decide (e.2 ≠ {})
      plane := plane1.filter fun e => decide (e.2 ≠ {})
      deck := deck1.filter fun e => decide (e.2 ≠ {}) } }

/-- The resequencers of the paths that `gone` names start afresh. -/
def clearReseqs (gone : Nat → Nat → Bool) (s : State) : State :=
  let s1 := forEach (List.range 8) (fun d s => forEach (List.range 8) (fun k s => if gone k d then loseReseq d k s else s) s) s
  let deck1 := s1.dp.deck.map fun e => (e.1, { e.2 with reseq := e.2.reseq.filter fun r => !gone r.1 e.1 })
  { s1 with dp := { s1.dp with deck := deck1.filter fun e => decide (e.2 ≠ {}) } }

/-- A Deck without contents: everything free. (DEDUCED: log entry 189) -/
def emptyDeck (y : Deck) : Deck :=
  { y with
    freeCells := 40960, freeDesc := 16384, freeEntries := 32768, slotCells := 0, slotDesc := 0, slotEntries := 0
    arriving := [], reseq := [], stored := [] }

/-- The queues of a Deck's ports lose what they hold, as mode drops (R50, R489). -/
def emptyDeckQueues (d : Nat) (s : State) : State :=
  forEach (List.range 16) (fun i s =>
    let p := 16 * d + i
    forEach (List.range 8) (fun q s => updQueue p q (fun y => { y with ready := [], reserved := 0, busy := 0 }) s)
      (dropFromPort (fun _ => true) p (endSending p s))) s

/-- Pipelines and Decks of a set stop: they lose their contents (R489). (DEDUCED: log entry 190) -/
def stopDecks (ds : List Nat) (s : State) : State :=
  let gone : Nat → Nat → Bool := fun k d => ds.contains k || ds.contains d
  let s1 := clearReseqs gone (losePaths gone s)
  let s2 := forEach ds (fun d s => updDeck d emptyDeck (emptyDeckQueues d s)) s1
  { s2 with dp := { s2.dp with
      pipe := s2.dp.pipe.filterMap fun e =>
        let y : Pipe := { e.2 with rr := [] }
        if ds.contains e.1 then (if y = {} then none else some (e.1, y)) else some e
      powered := s2.dp.powered.filter fun d => !ds.contains d } }

/-- The Decks a mode powers (R489); Freeze keeps what is powered (R490). -/
def decksOf (m : Mode) (s : State) : List Nat :=
  match m with
  | .full => List.range 8
  | .span => List.range 8
  | .keep => (List.range 8).filter fun d => s.sup.keepPorts.any fun p => decide (deckNum p = d)
  | .freeze => s.dp.powered
  | _ => []

/-- The Decks that the present mode powers run, and no others. -/
def setDecks (s : State) : State :=
  let want := decksOf s.sup.mode s
  let s1 := stopDecks (s.dp.powered.filter fun d => !want.contains d) s
  { s1 with dp := { s1.dp with powered := want } }

/-- Entry to Keep: the Decks that stay powered drop the packets of classes that are not protected (R48, R489). -/
def dropUnprotected (s : State) : State :=
  let gone : Packet → Bool := fun x => !classProtected x.cls s
  forEach s.sup.keepPorts (fun p s => dropFromPort gone p s) s

/-! ### Ports, lanes and links (R289, R367) -/

/-- The formed ports. -/
def formedPorts (s : State) : List Nat := (s.ports.port.filter fun e => decide (e.2.typ ≠ 0)).map Prod.fst

/-- The formed links. -/
def formedLinks (s : State) : List Nat := (s.cw.link.filter fun e => e.2.formed).map Prod.fst

/-- The lanes under test that `stops` names end their tests (R289). -/
def stopTests (stops : Nat → Bool) (s : State) : State :=
  forEach ((s.lanes.lane.filter fun e => decide (e.2.owner = .test) && stops e.1).map Prod.fst) (fun l s => stopTest l 1 s) s

/-- The lane groups that Keep runs: those with a lane of a keep port (R77, R128). -/
def keepGroups (s : State) : List Nat :=
  (s.sup.keepPorts.filter fun p => decide ((portOf p s).typ ≠ 0) && keepPortFit p s).map laneGroup

/-- The ports that the new mode does not run stop. -/
def stopPorts (s : State) : State :=
  forEach ((formedPorts s).filter fun p => !portRuns p s) (fun p s => stopPort p s) s

/-- Every port the present mode runs starts, and in Full every Causeway link (R128 step 7, R357). -/
def startPorts (s : State) : State :=
  let s1 := forEach ((formedPorts s).filter fun p => portRuns p s) (fun p s => startPort p s) s
  if cwRuns s1 then
    forEach ((formedLinks s1).filter fun l => decide ((linkOf l s1).state = .off)) (fun l s => startLink l s) s1
  else s1

/-- Lanes that no mode but Full runs go OFF: halves woken by LANE_SLEEP_SET among them (R289). -/
def lanesStop (stays : Nat → Bool) (s : State) : State :=
  forEach ((s.lanes.lane.filter fun e => laneRuns e.2 && !stays e.1).map Prod.fst) (fun l s => lanesOff l s) s

/-- An eye scan on a lane that stops is aborted with it. -/
def lanesLeaveFull (s : State) : State :=
  let gs := keepGroups s
  let keeps : Nat → Bool := fun l => gs.contains (laneGroup l)
  lanesStop (fun l => keeps l && decide ((laneOf l s).owner ≠ .causeway)) (stopTests (fun l => !keeps l) s)

/-- All lanes stop. -/
def lanesStopAll (s : State) : State := lanesStop (fun _ => false) (stopTests (fun _ => true) s)

/-! ### Clocks (R77) -/

/-- The clocks of a mode (R77); lane references follow their lanes, DRAM PLLs their channels. -/
def setClocks (s : State) : State :=
  let fast :=
    match s.sup.mode with
    | .off => false
    | .shelf => false
    | .watch => false
    | _ => true
  let ref :=
    match s.sup.mode with
    | .off => false
    | .shelf => false
    | _ => true
  { s with clk := { s.clk with
      reference := ref, corePll := fast, pipePll := fast, timePll := fast
      laneRefs := if fast then s.clk.laneRefs else []
      dramPlls := (List.range 4).filter fun c => chPowered c s } }

/-! ### DRAM (R576, R579, R598, R606) -/

/-- A channel is powered off: its contents are lost. -/
def chOff (x : Channel) : Channel :=
  { x with state := .off, retrain := none, repeatAt := none, retrainDue := false, postponed := 0, stopped := false,
           reissuing := false, badLines := [], rebuild := false, withdrawn := false, scrubNext := 0 }

/-- What lies on channel 0 beside routes is lost (R579, R719, R729). -/
def loseCh0 (s : State) : State :=
  { s with
    cnt := { s.cnt with snaps := [], archive := [], archNext := 0 }
    dram := { s.dram with archBad := [] } }

/-- The capture region lies in channels 1 to 3: its records are lost with them (R702). (DEDUCED: log entry 264) -/
def loseCapture (s : State) : State := { s with cap := { s.cap with recs := [], state := .none } }

/-- Channels power off. -/
def channelsOff (cs : List Nat) (s : State) : State :=
  let s1 := forEach cs (fun c s => updChan c chOff s) s
  let s2 := { s1 with dram := { s1.dram with repairs := s1.dram.repairs.filter fun r => !cs.contains r.channel } }
  let s3 := if cs.contains 1 then loseCapture s2 else s2
  if cs.contains 0 then loseCh0 s3 else s3

/-- A powered channel in Freeze: refresh goes on, retraining stops (R598). -/
def chFreeze (x : Channel) : Channel :=
  match x.state with
  | .off => x
  | .training => chOff x
  | _ => { x with state := .frozen, retrain := none, repeatAt := none }

/-- Entry to Freeze on every channel. -/
def channelsFreeze (s : State) : State :=
  let s1 := forEach (List.range 4) (fun c s => updChan c chFreeze s) s
  { s1 with dram := { s1.dram with repairs := [] } }

/-! ### Tables (R128, R438) -/

/-- The forwarding tables from the record in force: those of Keep, or the full ones over what is live (R128, R438). -/
def installTables (keepOnly : Bool) (items : List Item) (s : State) : State :=
  let base : Tables := if keepOnly then {} else s.fwd.live
  { s with fwd := { s.fwd with live := buildTables keepOnly s.fwd.labelBase (itemsFor s.span.cfg.member items) base } }

/-- The tables and what learning holds are lost with the data plane. -/
def dropTables (s : State) : State :=
  { s with fwd := { s.fwd with live := {}, pend := none, pendSlots := [], windows := [], results := [], loading := false } }

/-- Frames that the control core holds are lost with it, and the follow table. -/
def dropHeld (s : State) : State :=
  { s with cls := { s.cls with held := [], follow := [], loading := false
                               bank := (s.cls.bank.map fun b => (b.1,
                                 { b.2 with entries := [], loaded := none, reserved := false })).filter fun b => decide (b.2 ≠ {}) } }

/-! ### Steps -/

/-- A capture that a mode change ends (R701). -/
def captureStops (s : State) : State :=
  match s.cap.state with
  | .running => captureEnd 2 0 s
  | _ => s

/-- The data plane starts from Watch: egress, bandwidth windows and counters from their beginnings (R507, R520, R717, R722). -/
def startPlane (s : State) : State :=
  let decks := s.dp.deck.map fun p => (p.1, { p.2 with minCells := 40960, minDesc := 16384, minEntries := 32768 })
  restartCounters (restartBw (startEgress
    { s with dp := { s.dp with slot := 0, slotLaunched := [], slotSent := [], deck := decks.filter fun p => decide (p.2 ≠ {}) } }))

/-- The data plane enters Keep from Full (R48, R50, R367, R438, R489, R606). -/
def planeToKeep (items : List Item) (s : State) : State :=
  let s1 := forEach (formedLinks s) (fun l s => stopLink l s) (captureStops s)
  let s2 := lanesLeaveFull (stopPorts s1)
  let s3 := dropUnprotected (setDecks s2)
  setClocks (channelsOff [1, 2, 3] (installTables true items s3))

/-- The data plane stops for Watch (R48, R50). -/
def planeToWatch (s : State) : State :=
  let s1 := forEach (formedLinks s) (fun l s => stopLink l s) (captureStops s)
  let s2 := setDecks (lanesStopAll (stopPorts s1))
  setClocks (channelsOff [0, 1, 2, 3] (dropHeld (dropTables s2)))

/-- A link in HOLD keeps its hold in Freeze, its grace period stopped (R356); any other goes down. -/
def freezeLink (l : Nat) (s : State) : State :=
  if (linkOf l s).state = .hold then lanesOff l (updLink l (fun y => { y with graceAt := none, fecLock := false, lostSince := none }) s)
  else stopLink l s

/-- The data plane stops for Freeze: ports and lanes in electrical idle, Deck contents and DRAM kept (R31, R48, R490, R598).
(DEDUCED: log entry 189) -/
def planeToFreeze (s : State) : State :=
  let s1 := forEach (formedLinks s) (fun l s => freezeLink l s) (captureStops s)
  let s2 := forEach (formedPorts s1) (fun p s =>
    forEach (portLanes p s) (fun l s => lanesOff l s) (endSending p (portGoesDown p 7 s))) s1
  setClocks (channelsFreeze (lanesStopAll s2))

/-- Freeze is left: what it preserved is discarded (R48, R356, R490, R717). -/
def planeLeavesFreeze (s : State) : State :=
  let held := (formedLinks s).filter fun l => decide ((linkOf l s).state = .hold)
  let s1 := forEach held (fun l s => cwEnter l .off 6 (cwFlush l true s)) s
  restartCounters (planeToWatch s1)

end Sys2Proof.Machine
end

