-- ==== Sys2Proof/Machine/Time.lean ====
section
/-! DEFINITION. Machine/Time.lean: the time commands, the sources' events, the RTC and the general timers (R84 to R109). -/

namespace Sys2Proof.Machine

open Sys2Proof

/-! ### Commands (R97 to R102) -/

/-- FLAGS of TIME_GET. -/
def timeFlags (s : State) : Nat := flags [s.tb.tenMhz, s.tb.ppsPresent, s.tb.rtcFail, s.tb.coldStart, s.tb.ppsAmbiguous]

/-- TIME_GET. -/
def timeGetBody (q : Req) (s : State) : Body :=
  checks [lenIs q 0] (okResp s (tb10 s.tb.now ++ enc [(1, s.tb.quality.code), (1, s.tb.source.code), (1, timeFlags s), (1, 0)] ++
    beInt 4 s.tb.offsetNs ++ beInt 4 s.tb.freqPpb ++ beInt 4 s.rtc.trimPpb ++ tb10 s.tb.lastStepAt ++ be 4 s.tb.stepCount))

/-- TIME_SET: a step, then quality FREE; the sources' locks start afresh (R98). -/
def timeSetBody (q : Req) (s : State) : Body :=
  let p := q.payload
  checks [lenIs q 12, (tbFieldOk p 0, .badTime), (!isLocked s.tb.quality || bitOf (f1 p 10) 0, .timeSource)] <|
    let d : Int := (tbField p 0 : Int) - s.tb.now
    .ok (setQuality .free (resetSources (stepTime d 0 s)), .ok (beInt 8 d))

/-- Fields of TIME_SOURCE_SET in range (R97 table). -/
def sourceFieldsOk (p : List Byte) : Bool :=
  decide (f1 p 0 ≤ 2) && decide (f1 p 1 ≤ 2) && (decide (f1 p 1 = 0) || decide (f1 p 1 ≠ f1 p 0)) &&
    (decide (f1 p 2 ≤ 127) || decide (f1 p 2 = 0xFE)) && decide (f1 p 3 ≤ 127) &&
    decide (1000 ≤ f4 p 6) && decide (f4 p 6 ≤ 1000000000) && decide (1 ≤ f2 p 10) && decide (f2 p 10 ≤ 500) &&
    decide (60 ≤ f4 p 12) && decide (f4 p 12 ≤ 604800) && decide (1 ≤ f4 p 16) && decide (f4 p 16 ≤ 500000)

/-- PTP_PORT is a formed Ethernet port or M0 (R99). (DEDUCED: log entry 46) -/
def ptpPortOk (n : Nat) (s : State) : Bool := decide (n = 0xFE) || decide ((portOf n s).typ ≠ 0)

/-- Apply a TIME_SOURCE_SET payload: a source that is no longer configured as it was is lost. -/
def setTimeSources (p : List Byte) (s : State) : State :=
  let s1 := { s with tb :=
    { s.tb with
      source1 := Source.ofCode (f1 p 0)
      source2 := Source.ofCode (f1 p 1)
      ptpPort := f1 p 2
      ptpDomain := f1 p 3
      use10m := bitOf (f1 p 4) 0
      ptpL2 := bitOf (f1 p 4) 1
      ppsOutEn := bitOf (f1 p 4) 2
      rtcLearn := bitOf (f1 p 4) 3
      stepNs := f4 p 6
      slewPpm := f2 p 10
      holdoverS := f4 p 12
      ppsWidthUs := f4 p 16 } }
  let moved := decide (f1 p 2 ≠ s.tb.ptpPort ∨ f1 p 3 ≠ s.tb.ptpDomain)
  let s2 := if !(sourceOrder s1).contains .ptp || moved then loseSource .ptp s1 else s1
  let s3 := if (sourceOrder s1).contains .pps then s2 else loseSource .pps s2
  if followsTime s3 then s3 else reselect s3

/-- TIME_SOURCE_SET. -/
def timeSourceSetBody (q : Req) (s : State) : Body :=
  checks [lenIs q 20, (sourceFieldsOk q.payload, .timeParam), (ptpPortOk (f1 q.payload 2) s, .timeSource)]
    (okEmpty (setTimeSources q.payload s))

/-- RTC_ALARM_SET (R101). -/
def rtcAlarmSetBody (q : Req) (s : State) : Body :=
  let p := q.payload
  let period := f4 p 6
  checks [lenIs q 12, (decide (period = 0) || (decide (60 ≤ period) && decide (period ≤ 604800)), .timeParam),
      (decide (field p 0 6 = 0) || decide (rtcSeconds s < field p 0 6), .alarmPast)]
    (okEmpty { s with rtc := { s.rtc with alarmS := field p 0 6, periodS := period } })

/-- PERIOD_NS of a timer (R97 table). -/
def periodOk (n : Nat) : Bool := decide (n = 0) || (decide (1000 ≤ n) && decide (n ≤ 10 ^ 12))

/-- TIMER_CLAIM (R92). (DEDUCED: log entry 49) -/
def timerClaimBody (q : Req) (s : State) : Body :=
  let p := q.payload
  checks [lenIs q 22, (tbFieldOk p 4, .badTime), ((decide (f1 p 0 ≤ 7) || decide (f1 p 0 = 0xFF)) && periodOk (f8 p 14), .timeParam)] <|
    match grantTimer (f1 p 0) s with
    | some n => okResp (takeTimer .kmp n (tbField p 4) (f8 p 14) s) (enc [(1, n), (3, 0)])
    | none => .error .timerBusy

/-- TIMER_RELEASE (R102). (DEDUCED: log entry 49) -/
def timerReleaseBody (q : Req) (s : State) : Body :=
  let n := f1 q.payload 0
  let o := (timerOf n s).owner
  checks [lenIs q 1, (decide (n ≤ 7), .timeParam), (decide (o = .free ∨ o = .kmp), .timerBusy)] (okEmpty (setTimer n {} s))

/-- An entry of TIMER_STATUS_GET. (DESIGN CHOICE: log entry 47) -/
def timerBytes (x : GTimer) (open0 : Nat) : List Byte :=
  enc [(1, x.owner.code), (1, b2n x.armed)] ++ tb10 (if x.armed then x.next else Config.freeNat open0) ++ be 8 x.periodNs

/-- TIMER_STATUS_GET. (DESIGN CHOICE: log entry 47) -/
def timerStatusGetBody (q : Req) (s : State) : Body :=
  checks [lenIs q 0] (okResp (bumpTimes 8 s) ((List.range 8).flatMap fun n => timerBytes (timerOf n s) (s.freeCtr + n)))

/-! ### Sources -/

/-- The time base counts. -/
def timeRuns (s : State) : Bool := decide (tickNs s.sup.mode ≠ 0)

/-- A pulse arrived 1.1 s ago or longer (R87). -/
def ppsOverdue (s : State) : Bool := heldFor s.disc.lastPpsAt (msNs 1100) s.elapsed

/-- The offset of a pulse: the nearest second less the time base (R84). -/
def ppsOffset (now : Nat) : Int := ((now + nsPerS / 2) / nsPerS * nsPerS : Nat) - (now : Int)

/-- A pulse as a measurement (R84, R86). (DESIGN CHOICE: log entry 40) -/
def ppsPulse (s : State) : State :=
  let s1 := { s with
    tb := { s.tb with ppsPresent := true }
    disc := { s.disc with lastPpsAt := some s.elapsed } }
  let off := ppsOffset s.tb.now
  if msNs 400 < off.natAbs then
    { s1 with tb := { s1.tb with ppsAmbiguous := true }, disc := { s1.disc with ppsGood := 0 } }
  else
    let s2 := { s1 with tb := { s1.tb with ppsAmbiguous := false } }
    if (sourceOrder s2).contains .pps ∧ !followsTime s2 then measure .pps off s2 else s2

/-- PPS_EDGE: a rising edge on 1PPS in (R84, R238). -/
def ppsEdgeEffect (t : Nat) (s0 : State) : State :=
  let s := advance t s0
  if !timeRuns s then s
  else
    let s1 := if ppsOverdue s then loseSource .pps s else s
    let s2 := ppsPulse s1
    if s2.host.snap.armPps then
      takeSnap 2 { s2 with host := { s2.host with snap := { s2.host.snap with armPps := false } } }
    else s2

/-- PPS_LOSS (R87). -/
def ppsLossEffect (t : Nat) (s0 : State) : State :=
  let s := advance t s0
  if ppsOverdue s then
    loseSource .pps { s with tb := { s.tb with ppsPresent := false }, disc := { s.disc with lastPpsAt := none } }
  else s

/-- The PTP port can receive (R83, R99). -/
def ptpPortUp (s : State) : Bool :=
  if s.tb.ptpPort = 0xFE then transportServed .m0 s else portUp s.tb.ptpPort s && dataPlaneMode s.sup.mode

/-- No Sync for four Sync intervals (R87). -/
def syncOverdue (s : State) : Bool := heldFor s.disc.lastSyncAt (4 * s.disc.syncIntervalNs) s.elapsed

/-- SYNC_MESSAGE: a usable Sync of the chosen master, its interval, and the offset it gives (R83, R85, R86).
(DESIGN CHOICE: log entry 45) -/
def syncMessageEffect (t port domain intervalNs : Nat) (off : Int) (s0 : State) : State :=
  let s := advance t s0
  if timeRuns s ∧ (sourceOrder s).contains .ptp ∧ port = s.tb.ptpPort ∧ domain = s.tb.ptpDomain ∧ ptpPortUp s ∧ !followsTime s then
    let s1 := if syncOverdue s then loseSource .ptp s else s
    measure .ptp off { s1 with disc := { s1.disc with lastSyncAt := some s.elapsed, syncIntervalNs := intervalNs } }
  else s

/-- PTP_LOSS (R87). -/
def ptpLossEffect (t : Nat) (s0 : State) : State :=
  let s := advance t s0
  if syncOverdue s then loseSource .ptp s else s

/-- HOLDOVER_EXPIRY (R86). (DEDUCED: log entry 51) -/
def holdoverExpiryEffect (t : Nat) (s0 : State) : State :=
  let s := advance t s0
  if s.tb.quality = .holdover ∧ heldFor s.disc.holdoverSince (sNs s.tb.holdoverS) s.elapsed ∧ !followsTime s then setQuality .free s
  else s

/-- A quality under which the RTC is realigned (R88). -/
def aligns (q : Quality) : Bool := decide (q = .free ∨ q = .holdover) || isLocked q

/-- The time base stands at the tick of a whole second. -/
def onSecond (s : State) : Bool := timeRuns s && decide (s.tb.now % nsPerS < tickNs s.sup.mode)

/-- RTC_ALIGN: at a whole second the RTC is set to the time base (R88). -/
def rtcAlignEffect (t : Nat) (s0 : State) : State :=
  let s := advance t s0
  if onSecond s ∧ aligns s.tb.quality ∧ s.rtc.running then
    let sec := s.tb.now / nsPerS
    let s1 := setRtc (sec * 32768) s
    { s1 with rtc := { s1.rtc with alignedS := sec, valid := true } }
  else s

/-- Clock numbers of EV_CLOCK_FAIL: 0 the RTC oscillator, 1 the reference, 2 core PLL, 3 pipeline PLL, 4 time PLL, 5 to 8 the
lane references, 9 to 12 the DRAM PLLs. (DESIGN CHOICE: log entry 44) -/
def clkRtc : Nat := 0
def clkReference : Nat := 1
def clkLaneRef : Nat := 5
def clkDram : Nat := 9

/-- EV_CLOCK_FAIL with the mode reached. -/
def clockFailed (clock : Nat) (s : State) : State := raise .clockFail 0 (enc [(1, clock), (1, s.sup.mode.code)]) s

/-- RTC_FAIL: the oscillator has stopped for 1 ms (R109); its count stands still. (DEDUCED: log entry 43) -/
def rtcFailEffect (t : Nat) (s0 : State) : State :=
  let s := advance t s0
  if s.sup.mode = .off ∨ !s.rtc.running then s
  else
    clockFailed clkRtc { s with
      tb := { s.tb with rtcFail := true }
      rtc := { s.rtc with ticks := rtcTicks s, since := s.elapsed, running := false, valid := false } }

/-- Each fire of GTn inverts TOUTn (R654). -/
def flipTout (n : Nat) (s : State) : State :=
  { s with io := { s.io with tout := setBit s.io.tout n (!bitOf s.io.tout n) } }

/-- TIMER_FIRE (R93, R106). -/
def timerFireEffect (t : Nat) (g : Fin 8) (s0 : State) : State :=
  let s := advance t s0
  let x := timerOf g s
  if timerDue .kmp g s then
    raise .timerFire 0 (enc [(1, g), (4, sat32 (timerMissed x s.tb.now))])
      (flipTout g (setTimer g (firedTimer x s.tb.now) s))
  else s

/-- TEN_MHZ_PRESENT (R764). -/
def tenMhzPresentEffect (t : Nat) (present : Bool) (s0 : State) : State :=
  let s := advance t s0
  { s with tb := { s.tb with tenMhz := present } }

/-- Name code of the 1PPS output among the pins. -/
def pinPpsOut : Nat := 64

/-- 1PPS out is driven (R100). -/
def ppsDriven (s : State) : Bool := s.tb.ppsOutEn && (decide (s.tb.quality = .holdover) || isLocked s.tb.quality)

/-- PPS_OUT: the output rises at a whole second, and falls PPS_WIDTH_US later (R100). -/
def ppsOutEffect (t : Nat) (s0 : State) : State :=
  let s := advance t s0
  if onSecond s ∧ ppsDriven s then emit (.pin pinPpsOut true) { s with disc := { s.disc with ppsOutHigh := true } }
  else if s.disc.ppsOutHigh ∧ usNs s.tb.ppsWidthUs ≤ s.tb.now % nsPerS then
    emit (.pin pinPpsOut false) { s with disc := { s.disc with ppsOutHigh := false } }
  else s

/-! ### The meanings -/

/-- TIME_GET. -/
def execTimeGet (q : Req) (s : State) : Host.Outcome State Fault Refusal :=
  .next (kmpExec .timeGet q (timeGetBody q) s)

/-- TIME_SET. -/
def execTimeSet (q : Req) (s : State) : Host.Outcome State Fault Refusal :=
  .next (kmpExec .timeSet q (timeSetBody q) s)

/-- TIME_SOURCE_SET. -/
def execTimeSourceSet (q : Req) (s : State) : Host.Outcome State Fault Refusal :=
  .next (kmpExec .timeSourceSet q (timeSourceSetBody q) s)

/-- RTC_ALARM_SET. -/
def execRtcAlarmSet (q : Req) (s : State) : Host.Outcome State Fault Refusal :=
  .next (kmpExec .rtcAlarmSet q (rtcAlarmSetBody q) s)

/-- TIMER_CLAIM. -/
def execTimerClaim (q : Req) (s : State) : Host.Outcome State Fault Refusal :=
  .next (kmpExec .timerClaim q (timerClaimBody q) s)

/-- TIMER_RELEASE. -/
def execTimerRelease (q : Req) (s : State) : Host.Outcome State Fault Refusal :=
  .next (kmpExec .timerRelease q (timerReleaseBody q) s)

/-- TIMER_STATUS_GET. -/
def execTimerStatusGet (q : Req) (s : State) : Host.Outcome State Fault Refusal :=
  .next (kmpExec .timerStatusGet q (timerStatusGetBody q) s)

/-- RTC_FAIL. -/
def execRtcFail (t : Nat) (s : State) : Host.Outcome State Fault Refusal :=
  .next (rtcFailEffect t s)

/-- PPS_EDGE. -/
def execPpsEdge (t : Nat) (s : State) : Host.Outcome State Fault Refusal :=
  .next (ppsEdgeEffect t s)

/-- PPS_LOSS. -/
def execPpsLoss (t : Nat) (s : State) : Host.Outcome State Fault Refusal :=
  .next (ppsLossEffect t s)

/-- SYNC_MESSAGE. -/
def execSyncMessage (t : Nat) (port : Nat) (domain : Nat) (intervalNs : Nat) (off : Int) (s : State) : Host.Outcome State Fault Refusal :=
  .next (syncMessageEffect t port domain intervalNs off s)

/-- PTP_LOSS. -/
def execPtpLoss (t : Nat) (s : State) : Host.Outcome State Fault Refusal :=
  .next (ptpLossEffect t s)

/-- HOLDOVER_EXPIRY. -/
def execHoldoverExpiry (t : Nat) (s : State) : Host.Outcome State Fault Refusal :=
  .next (holdoverExpiryEffect t s)

/-- RTC_ALIGN. -/
def execRtcAlign (t : Nat) (s : State) : Host.Outcome State Fault Refusal :=
  .next (rtcAlignEffect t s)

/-- TIMER_FIRE. -/
def execTimerFire (t : Nat) (g : Fin 8) (s : State) : Host.Outcome State Fault Refusal :=
  .next (timerFireEffect t g s)

/-- TEN_MHZ_PRESENT. -/
def execTenMhzPresent (t : Nat) (present : Bool) (s : State) : Host.Outcome State Fault Refusal :=
  .next (tenMhzPresentEffect t present s)

/-- PPS_OUT. -/
def execPpsOut (t : Nat) (s : State) : Host.Outcome State Fault Refusal :=
  .next (ppsOutEffect t s)

end Sys2Proof.Machine
end

