-- ==== Sys2Proof/Machine/BootOps.lean ====
section
/-! DEFINITION. Machine/BootOps.lean: the boot flash, its directory, banks and configuration slots, and the start of a Keystone
run (R112 to R138, R743). -/

namespace Sys2Proof.Machine

open Sys2Proof

/-! ### Flash (R114 to R117) -/

/-- `n` bytes of the flash; erased bytes read 0xFF. -/
def flashRead (a n : Nat) (s : State) : List Byte := Mem.read 0xFF s.flash a n

/-- Program bytes. -/
def flashWrite (a : Nat) (b : List Byte) (s : State) : State := { s with flash := Mem.write 0xFF s.flash a b }

/-- Erase a range. -/
def flashErase (a n : Nat) (s : State) : State := { s with flash := Mem.erase s.flash a n }

/-- Where bank A and bank B lie (R116). -/
def bankBase (b : Bool) : Nat := if b then 0x500000 else 0x100000

/-- Size of a bank. -/
def bankSize : Nat := 0x400000

/-- Where a configuration slot lies (R116). -/
def slotBase (n : Nat) : Nat := if n = 0 then 0x1000000 else 0x3000000

/-- Size of a configuration slot. -/
def slotSize : Nat := 0x2000000

/-- Programming bytes over what the flash holds (R135): nothing to do, done, or refused. -/
inductive Prog where
  | same
  | done
  | notErased
deriving DecidableEq, Repr

/-- R135: target bytes that equal DATA already, are erased, or neither. -/
def progCheck (a : Nat) (b : List Byte) (s : State) : Prog :=
  let old := flashRead a b.length s
  if old = b then .same
  else if (List.zipWith (fun (x y : Byte) => decide (x = y) || decide (x = 0xFF)) old b).all fun r => r then .done
  else .notErased

/-! ### Directory (R117) -/

/-- MAGIC of a directory copy. -/
def dirMagic : Nat := 0x4B5A4431

/-- The directory a copy holds, where it is valid. -/
def readDir (copy : Nat) (s : State) : Option Directory :=
  let b := flashRead (copy * 0x10000) 256 s
  if f4 b 0 = dirMagic ∧ f4 b 252 = Crc.crc32 (b.take 12 ++ (b.drop 20).take 232) then
    let fl := f1 b 9
    some { sequence := f4 b 4, preferredB := decide (f1 b 8 = 1), trial := bitOf fl 0, autoConfirm := bitOf fl 1,
           badA := bitOf fl 2, badB := bitOf fl 3, trialLimit := f1 b 10, baseline := f1 b 11,
           attempts := ((slice b 12 8).filter fun x => decide (x = 0)).length, copy := copy }
  else none

/-- The valid copy with the higher SEQUENCE. -/
def findDir (s : State) : Option Directory :=
  match readDir 0 s, readDir 1 s with
  | some a, some b => if a.sequence < b.sequence then some b else some a
  | some a, none => some a
  | none, x => x

/-- What holds without a valid copy: bank A, BASELINE 1, no trial (R119, boot states table). (DEDUCED: log entry 52) -/
def noDir : Directory := ⟨0, false, false, false, false, false, 1, 1, 0, 1⟩

/-- The directory in force. -/
def dirOf (s : State) : Directory := s.boot.dir.getD noDir

/-- The 256 bytes of a copy. -/
def dirBytes (d : Directory) : List Byte :=
  let a := enc [(4, dirMagic), (4, d.sequence), (1, b2n d.preferredB),
    (1, flags [d.trial, d.autoConfirm, d.badA, d.badB, true, true, true, true]), (1, d.trialLimit), (1, d.baseline)]
  let r := List.replicate 232 (0xFF : Byte)
  a ++ List.replicate d.attempts 0 ++ List.replicate (8 - d.attempts) 0xFF ++ r ++ be 4 (Crc.crc32 (a ++ r))

/-- A directory update writes the other copy, with SEQUENCE one higher (R117). (DEDUCED: log entry 52) -/
def writeDir (d : Directory) (s : State) : State :=
  let old := dirOf s
  let new := { d with sequence := old.sequence + 1, copy := 1 - old.copy }
  let s1 := flashWrite (new.copy * 0x10000) (dirBytes new) (flashErase (new.copy * 0x10000) 0x10000 s)
  { s1 with boot := { s1.boot with dir := some new } }

/-- A bank is marked BAD. -/
def bankBad (b : Bool) (d : Directory) : Bool := if b then d.badB else d.badA

/-- Mark a bank. -/
def markBank (b v : Bool) (d : Directory) : Directory := if b then { d with badB := v } else { d with badA := v }

/-! ### Banks (R118, R119, R136) -/

/-- Header of a bank. -/
def bankHeader (b : Bool) (s : State) : List Byte := flashRead (bankBase b) 177 s

/-- MAGIC, FORMAT and both segments are as R119 asks. (DEDUCED: log entry 65) -/
def headerOk (h : List Byte) : Bool :=
  decide (f4 h 0 = 0x4B5A4231) && decide (f2 h 4 = 1) && decide (1 ≤ f4 h 20) && decide (f4 h 20 ≤ 131072) &&
    decide (f4 h 16 + f4 h 20 ≤ bankSize) && decide (1 ≤ f4 h 28) && decide (f4 h 28 ≤ 1048576) &&
    decide (f4 h 24 + f4 h 28 ≤ bankSize)

/-- MIN_REV is at or below the silicon revision. -/
def revisionOk (h : List Byte) (s : State) : Bool := decide (f1 h 12 ≤ b2n s.ident.revB)

/-- BASELINES lists a baseline. -/
def listsBaseline (h : List Byte) (n : Nat) : Bool := decide (1 ≤ n) && bitOf (f1 h 13) (n - 1)

/-- The watch segment of a bank. -/
def watchSegment (b : Bool) (h : List Byte) (s : State) : List Byte := flashRead (bankBase b + f4 h 16) (f4 h 20) s

/-- The control segment. -/
def controlSegment (b : Bool) (h : List Byte) (s : State) : List Byte := flashRead (bankBase b + f4 h 24) (f4 h 28) s

/-- A seal: HMAC-SHA-384 under key slot 0 over header bytes 0 to 31 and a segment (R118). -/
def sealTag (h seg : List Byte) (s : State) : List Byte := Sha.hmac384 (slotOf 0 s).key (h.take 32 ++ seg)

/-- The verdict of the hardware compare; after a failed self-test or without slot 0 every verdict is fail (R619, R626). -/
def verdict (a b : List Byte) (s : State) : Bool := s.dig.katOk && s.dig.slot0Ok && decide (a = b)

/-- WATCH_TAG matches. -/
def watchTagOk (b : Bool) (s : State) : Bool :=
  let h := bankHeader b s
  verdict (sealTag h (watchSegment b h s) s) (slice h 32 48) s

/-- CONTROL_TAG matches. -/
def controlTagOk (b : Bool) (s : State) : Bool :=
  let h := bankHeader b s
  verdict (sealTag h (controlSegment b h s) s) (slice h 80 48) s

/-- The reason a bank fails R119, as in EV_BOOT_FALLBACK; 0 for a pass. -/
def bankFault (b : Bool) (s : State) : Nat :=
  let h := bankHeader b s
  if !headerOk h then 1
  else if !revisionOk h s then 2
  else if !listsBaseline h s.boot.baseline then 3
  else if !watchTagOk b s then 4
  else 0

/-- Both tags hold the values a seal would write: the bank is sealed (R136, R137). -/
def bankSealed (b : Bool) (s : State) : Bool := headerOk (bankHeader b s) && watchTagOk b s && controlTagOk b s

/-- VERSION of a bank, 0xFFFFFFFF where its header is not valid. -/
def bankVersion (b : Bool) (s : State) : Nat := let h := bankHeader b s; if headerOk h then f4 h 8 else 0xFFFFFFFF

/-- BASELINES of a bank, 0 where its header is not valid. -/
def bankBaselines (b : Bool) (s : State) : Nat := let h := bankHeader b s; if headerOk h then f1 h 13 else 0

/-! ### Configuration slots (R125) -/

/-- The record of a slot as the module knows it. -/
def slotRecord (n : Nat) (s : State) : Option Record := if n = 0 then s.boot.slot0 else s.boot.slot1

/-- Set it. -/
def setSlotRecord (n : Nat) (r : Option Record) (s : State) : State :=
  if n = 0 then { s with boot := { s.boot with slot0 := r } } else { s with boot := { s.boot with slot1 := r } }

/-- MAGIC of a record. -/
def recMagic : Nat := 0x4B5A4331

/-- Lengths of a record header are within R125's limits. -/
def recHeaderOk (h : List Byte) : Bool :=
  decide (f4 h 0 = recMagic) && decide (f4 h 12 ≤ 32768) && decide (f4 h 20 ≤ 2097152) && decide (f4 h 28 ≤ 25165824)

/-- SEQUENCE of a slot's record, where its header is valid: built by the module, or written by RECORD_WRITE. -/
def slotSequence (n : Nat) (s : State) : Option Nat :=
  match slotRecord n s with
  | some r => some r.sequence
  | none =>
    let h := flashRead (slotBase n) 32 s
    if recHeaderOk h then some (f4 h 4) else none

/-- The record a slot holds, with the items its sections carry; those of a record written by RECORD_WRITE are given. -/
def slotContent (n : Nat) (items : List Item) (s : State) : Record :=
  match slotRecord n s with
  | some r => r
  | none =>
    let h := flashRead (slotBase n) 32 s
    let b := flashRead (slotBase n + f4 h 8) 32 s
    ⟨f4 h 4, f4 b 0, f4 b 4, tbField b 8, items, false⟩

/-- `a` is newer than `b`: serial arithmetic modulo 2^32 (R117 table, RFC 1982). -/
def newerSeq (a b : Nat) : Bool := decide (a ≠ b) && decide ((a + 2 ^ 32 - b % 2 ^ 32) % 2 ^ 32 < 2 ^ 31)

/-- Slots with a candidate that has not been tried in this run, the newest first (R125, R126). -/
def recordCandidates (s : State) : List Nat :=
  let open0 := fun n => if s.boot.tried.contains n then none else slotSequence n s
  match open0 0, open0 1 with
  | some a, some b => if newerSeq b a then [1, 0] else [0, 1]
  | some _, none => [0]
  | none, some _ => [1]
  | none, none => []

/-- The slot whose record is the newest. -/
def newestSlot (s : State) : Option Nat :=
  match slotSequence 0 s, slotSequence 1 s with
  | some a, some b => if newerSeq b a then some 1 else some 0
  | some _, none => some 0
  | none, some _ => some 1
  | none, none => none

/-- A record no longer counts: its MAGIC is programmed to zero (R145, R194, R213). -/
def killRecord (n : Nat) (s : State) : State :=
  let s1 := setSlotRecord n none s
  if recHeaderOk (flashRead (slotBase n) 32 s) then flashWrite (slotBase n) [0, 0, 0, 0] s1 else s1

/-- CONFIG_VALID: a committed configuration is in use (R140). -/
def configValid (s : State) : Bool := s.boot.slot.isSome

/-! ### Stages of a boot (R140) -/

/-- STAGE changes, which sets INT_CAUSE bit BOOT (R245). -/
def setStage (g : BootStage) (s : State) : State :=
  if s.boot.stage = g then s else setCause causeBoot { s with boot := { s.boot with stage := g } }

/-! ### The start of a Keystone run (R112, R131, R243, R637) -/

/-- Settings of the watch firmware return to their defaults; the base section gives them again. -/
def defaultSettings (s : State) : State :=
  let sup := s.sup
  let tb := s.tb
  { s with
    sup := { sup with target := .watch, th := {}, rideMs := 10, dwellS := 60, holdInShelf := false, m0InWatch := false, keepPorts := [] }
    wake := { s.wake with sources := 0, activeHigh := false, riseMask := 0, fallMask := 0 }
    strike := { s.strike with surgeMv := 44000, slewMv := 2000, holdMs := 500, sources := 7 }
    tb := { tb with source1 := .none, source2 := .none, ptpPort := 0, ptpDomain := 0, use10m := false, ptpL2 := false,
                    ppsOutEn := false, rtcLearn := true, stepNs := 1000000, slewPpm := 100, holdoverS := 3600, ppsWidthUs := 100000 } }

/-- Timers that Keystone does not know: those of the firmware's owners end. -/
def keepKmpTimers (s : State) : State := { s with timers := s.timers.filter fun e => decide (e.2.owner = .kmp) }

/-- Slots 1 to 15 that hold a key. -/
def keysHeld (s : State) : List Nat := (s.dig.slots.filter fun x => decide (x.1 ≠ 0 ∧ x.2.state = .loaded)).map (·.1)

/-- What lives in shared SRAM or in powered logic is lost (R112, R195, R210, R243). -/
def loseVolatile (s : State) : State :=
  { s with
    kmp := {}, host := { perst := s.host.perst }, dig := { hadKeys := keysHeld s ++ s.dig.hadKeys }, dram := {}, lanes := {}, ports := {}, cls := {}, fwd := {}, dp := {}, cw := {}, span := {}
    cap := {}
    cnt := { log := s.cnt.log, logHead := s.cnt.logHead, logWraps := s.cnt.logWraps, tally := s.cnt.tally } }

/-- Debug access at a Keystone run: it closes unless a debug reset caused the run; the cores start unhalted, and performance and
capture settings are cleared (R688, R703, R711). (DEDUCED: log entry 268) -/
def keystoneDebug (c : BootCause) (s : State) : State :=
  let s1 := { s with dbg := { s.dbg with held := [] } }
  let s2 := if c = .debugReset then s1 else closeDebug 2 0 s1
  { s2 with dbg := { s2.dbg with control := {}, watch := {}, sram := [], modeWrite := none } }

/-- A Keystone run begins: BOOT_COUNT, the cause, everything volatile at its reset value, slot 0 from the fuses (R112, R619). `ago`
is how long before this instant the control core started. -/
def beginKeystone (c : BootCause) (ago : Nat) (s : State) : State :=
  let s1 := defaultSettings (forgetPins (loseVolatile (keepKmpTimers (keystoneDebug c s))))
  let b := s1.boot
  let k := s1.clk
  fuseSlot0
    { s1 with
      clk := { k with
        reference := true, corePll := false, pipePll := false, timePll := false, laneRefs := [], dramPlls := [], refRetries := 0
        refFailedAt := none }
      boot := { b with
        bootCount := inc32 b.bootCount, cause := c, trial := false, fallback := false, recovery := false, stage := .keystone
        dir := none, dirRead := false, failed := [], loading := some false, keystoneAt := s1.elapsed - ago, forwardingReady := false, awaitConfig := true
        controlUp := false, preloaded := false, slot := none, held := none, tried := [], chosen := false, early := false
        streamedKeep := false, streamedFull := false, label := List.replicate 64 0 } }

/-- The bank R121 takes first; true for B. -/
def firstBank (d : Directory) : Bool :=
  if d.trial ∧ d.trialLimit ≤ d.attempts then !d.preferredB
  else if bankBad d.preferredB d ∧ !bankBad (!d.preferredB) d then !d.preferredB
  else d.preferredB

/-- The baseline of the run (R743). -/
def runBaseline (d : Directory) (s : State) : Nat := if d.baseline = 2 ∧ s.ident.revB then 2 else 1

/-- Keystone reads the directory (R117, R121, R743). -/
def readDirectory (s : State) : State :=
  match findDir s with
  | none =>
    raise .bootFallback 0 (enc [(1, 0), (1, 6)])
      { s with boot := { s.boot with dir := none, dirRead := true, baseline := 1, loading := some false } }
  | some d =>
    let n := runBaseline d s
    let s1 := { s with boot := { s.boot with dir := some d, dirRead := true, baseline := n, loading := some (firstBank d) } }
    let s2 := raiseIf (decide (n ≠ d.baseline)) .baselineFallback 0 (enc [(1, d.baseline), (1, supportedBaselines s)]) s1
    raiseIf (d.trial && decide (d.trialLimit ≤ d.attempts)) .trialReverted 0 (enc [(1, b2n d.preferredB)]) s2

/-- Recovery (R132, R139): MODE and TARGET show Watch. (DEDUCED: log entry 64) -/
def enterRecovery (cause : Nat) (s : State) : State :=
  let s1 := { s with boot := { s.boot with recovery := true, loading := none }, sup := { s.sup with target := .watch } }
  let s2 := if s.sup.mode = .watch then { s1 with sup := { s1.sup with transition := none } } else loadTime (enterMode .watch s.sup.lastCause s1)
  raise .bootRecovery 0 (enc [(1, cause)]) s2

/-- A restart through Keystone (R131): the module passes through Watch, every port down. -/
def restartRun (c : BootCause) (s0 : State) : State :=
  let s := hostLinkDown s0
  let s1 :=
    match s.sup.mode with
    | .freeze => planeLeavesFreeze { s with sup := { s.sup with mode := .watch } }
    | .watch => s
    | _ => planeToWatch { s with sup := { s.sup with mode := .watch } }
  let s2 := { s1 with sup := { s1.sup with
    mode := .watch, modeSince := stamp s1, deferred := none, freezeTrigger := none, dwellFrom := none
    transition := some ⟨.watch, .watch, s1.sup.lastCause, s1.elapsed, 0, 0, none⟩ } }
  reselect (resetSources (beginKeystone c 0 s2))

/-- The control segment fails CONTROL_TAG: the bank is BAD and the module restarts (R143). -/
def preloadFailed (s : State) : State :=
  let s1 := raise .bootFallback 0 (enc [(1, b2n s.boot.bankB), (1, 5)]) s
  restartRun .preloadFailure (writeDir (markBank s.boot.bankB true (dirOf s1)) s1)

end Sys2Proof.Machine
end

