-- ==== Sys2Proof/Machine/Causeway.lean ====
section
/-! DEFINITION. Machine/Causeway.lean: what a Causeway link receives, its timers, and the Causeway commands (R329 to R367). -/

namespace Sys2Proof.Machine

open Sys2Proof

/-! ### Fields of units -/

/-- The fields of an INIT unit's data field (R334). -/
def initOf (d : List Byte) : PeerInit where
  mode := f1 d 0
  resumable := bitOf (f1 d 1) 0
  incarnation := f2 d 2
  peerIncarnation := f2 d 4
  nextRx := f2 d 6
  depth := f2 d 8
  serial := f8 d 10
  lane := f1 d 18
  credits := [f2 d 20, f2 d 22, f2 d 24, f2 d 26]

/-- CTYPE of a CTRL unit (R332). -/
def unitCtype (u : List Byte) : Nat := f1 u 0 % 32

/-- Data field of a unit. -/
def unitData (u : List Byte) : List Byte := (u.drop 2).take 28

/-- The CRC of a joint unit is good under a prefix (R335). -/
def unitGood (pfx : Nat) (u : List Byte) : Bool :=
  decide (u.length = 32) && decide (f2 u 30 = Crc.crc16 0xFFFF (be 2 pfx ++ u.take 30))

/-- The link runs: it is formed and out of OFF. (DEDUCED: log entry 141) -/
def cwActive (l : Nat) (s : State) : Bool := (linkOf l s).formed && decide ((linkOf l s).state ≠ .off)

/-- The link takes what the line brings (R338, R357). -/
def cwHears (l : Nat) (s : State) : Bool := cwActive l s && decide ((linkOf l s).state ≠ .train) && lineGood l s

/-- After a change of a joint link the Span layer counts links anew (R539). -/
def cwAfter (l : Nat) (s : State) : State := if 128 ≤ l then spanRecount s else s

/-! ### Acknowledgement (R342, R343, R346) -/

/-- The partner signals STRIKE, or not (R346). -/
def peerStrikeNote (l : Nat) (b : Bool) (s : State) : State :=
  updLink l (fun y => { y with peerStrikeAt := if b then some s.elapsed else none }) s

/-- Oldest kept sequence, or the next to be numbered. -/
def oldestKept (x : CwLink) : Nat := (x.kept.head?.map fun k => k.seq).getD x.txNext

/-- Kept units before `a` are freed, where `a` lies within the kept range (R343, R344). -/
def ackTo (l a : Nat) (s : State) : State :=
  let x := linkOf l s
  let n := cwDist x a (oldestKept x)
  if n = 0 ∨ x.kept.length < n then s
  else
    let kept := x.kept.drop n
    let freedSeq := fun r => decide (cwDist x r (oldestKept x) < n)
    updLink l (fun y =>
      { y with
        kept := kept
        replayRun := 0
        nakFrom := if y.nakFrom.any freedSeq then none else y.nakFrom
        replayFrom := if y.replayFrom.any freedSeq then kept.head?.map (fun k => k.seq) else y.replayFrom }) s

/-- A NAK naming `e` (R343). (DEDUCED: log entry 142) -/
def nakTo (l e : Nat) (s : State) : State :=
  let x := linkOf l s
  if x.state = .up ∧ cwDist x e (oldestKept x) < x.kept.length ∧ x.nakFrom ≠ some e then
    startReplay l e (updLink l (fun y => { y with nakFrom := some e }) s)
  else s

/-- A CREDIT unit: FREED values after the last ones are taken (R349). (DEDUCED: log entry 143) -/
def takeCredit (l : Nat) (d : List Byte) (s : State) : State :=
  updLink l (fun y =>
    { y with peerFreed := (List.range 4).map fun v =>
        let new := f2 d (2 * v)
        let old := y.peerFreed.getD v 0
        if 1 ≤ seqDist new old ∧ seqDist new old ≤ 32767 then new else old }) s

/-! ### Bring-up and resume (R350 to R352, R357, R363) -/

/-- A fresh completion (R351, R352). (DEDUCED: log entries 137, 149) -/
def completeFresh (l : Nat) (i : PeerInit) (s : State) : State :=
  cwEnter l .up 4 (updLink l (fun y => { clearLink y with peerCredits := i.credits, peerIncarnation := i.incarnation }) s)

/-- A resumed completion (R352): kept units are replayed from NEXT_RX. (DEDUCED: log entries 137, 149) -/
def completeResumed (l : Nat) (i : PeerInit) (s : State) : State :=
  let x := linkOf l s
  let n := cwDist x i.nextRx (oldestKept x)
  if x.kept.length < n then completeFresh l i (cwFlush l false s)
  else
    let packets := flushPackets x
    let bytes := flushBytes x
    let us := (s.elapsed - x.holdAt) / 1000
    let kept := x.kept.drop n
    let s1 := updLink l (fun y =>
      { y with
        kept := kept
        replayFrom := kept.head?.map (fun k => k.seq)
        markDue := y.joint && decide (kept ≠ [])
        nakFrom := none
        replayRun := 0
        replayWait := false
        nakAt := none
        lineSeq := y.rxNext
        ctrl := []
        graceEnd := 0
        graceAt := none
        resumeFrom := none }) s
    cwHoldEvent l 1 packets bytes us (cwEnter l .up 4 (cwNarrow l 5 1 s1))

/-- The grace period has not ended (R363); in Freeze it stands (R356). -/
def graceRuns (x : CwLink) (now : Nat) : Bool :=
  match x.graceAt with
  | none => true
  | some a => decide (now < a)

/-- The partner's INIT allows a resume (R351). -/
def canResume (x : CwLink) (i : PeerInit) (now : Nat) : Bool :=
  i.resumable && decide (x.resumeFrom = some i.incarnation) && graceRuns x now

/-- An INIT waits to be sent (R351). -/
def queueInit (l : Nat) (s : State) : State := queueCtrl l 1 (initData l s) s

/-- A valid INIT in the state of the link (R351, R352, R357). (DEDUCED: log entry 140) -/
def handshake (l : Nat) (i : PeerInit) (s : State) : State :=
  let x := linkOf l s
  let heard := fun s => updLink l (fun y => { y with peerIncarnation := i.incarnation }) s
  match x.state with
  | .init => if i.peerIncarnation = x.incarnation then completeFresh l i s else heard s
  | .up =>
    if 128 ≤ l ∧ spanLane l s ∧ spanJoined s ∧ i.incarnation ≠ x.peerIncarnation then
      queueInit l (splitAuto 4 (heard (enterHold l 4 s)))
    else queueInit l (heard (enterHold l 4 s))
  | .hold =>
    if canResume x i s.elapsed then
      if i.peerIncarnation = x.incarnation then completeResumed l i s else heard s
    else heard (cwEnter l .init 4 (takeIncarnation l (cwFlush l false s)))
  | _ => s

/-- EV_CW_PEER where SERIAL or LANE differ from the last partner's (R361). -/
def notePeer (l : Nat) (i : PeerInit) (s : State) : State :=
  let x := linkOf l s
  let s1 := raiseIf (x.peerSeen && decide (x.peerSerial ≠ i.serial ∨ x.peerLane ≠ i.lane)) .cwPeer 0
    (enc [(1, l), (8, x.peerSerial), (8, i.serial), (1, i.lane)]) s
  updLink l (fun y => { y with peerSerial := i.serial, peerLane := i.lane, peerSeen := true }) s1

/-- EV_SPAN_WIRING (R539). -/
def noteWiring (l : Nat) (i : PeerInit) (s : State) : State :=
  raiseIf (spanLane l s && decide (s.span.state ≠ .off) && wiringBad l i.serial i.lane s) .spanWiring 0
    (enc [(1, l), (1, i.lane), (8, i.serial)]) s

/-- EV_CW_MISMATCH, at most once per lane per 10 s (R361). -/
def noteMismatch (l mode : Nat) (s : State) : State :=
  if reportDue (linkOf l s).lastMismatch (sNs 10) s.elapsed then
    raise .cwMismatch 0 (enc [(1, l), (1, mode)]) (updLink l (fun y => { y with lastMismatch := some s.elapsed }) s)
  else s

/-- An INIT arrives (R351, R361). (DEDUCED: log entry 139) -/
def receiveInit (l : Nat) (i : PeerInit) (s : State) : State :=
  let s1 := noteWiring l i (notePeer l i s)
  if i.mode = b2n (linkOf l s).joint then handshake l i s1 else noteMismatch l i.mode s1

/-- INIT: its data field. -/
def cwInitEffect (t : Nat) (l : Fin 144) (data : List Byte) (s0 : State) : State :=
  let s := advance t s0
  if cwHears l s then cwAfter l (receiveInit l (initOf data) s) else s

/-- INIT_SEND (R351): in INIT, and in HOLD with the line good. -/
def cwInitSendEffect (t : Nat) (l : Fin 144) (s0 : State) : State :=
  let s := advance t s0
  match (linkOf l s).state with
  | .init => queueInit l s
  | .hold => if lineGood l s then queueInit l s else s
  | _ => s

/-! ### Reception (R331 to R344) -/

/-- The receiver enters REPLAY_WAIT (R341, R342). -/
def enterWait (l : Nat) (s : State) : State :=
  let x := linkOf l s
  if x.state = .up ∧ !x.replayWait then
    let s1 := updLink l (fun y => { y with replayWait := true }) s
    if x.joint then sendNak l s1 else s1
  else s

/-- A packet of a trunk port enters the ingress pipeline as a frame with a fresh FCS (R331). (DEDUCED: log entry 153) -/
def trunkPacket (p at0 : Nat) (b : List Byte) (trie : TrieRead) (s : State) : State :=
  if b.length < 60 then updPortCtrs p (fun c => { c with runts := c.runts.add64 1 }) s
  else if 10236 < b.length then updPortCtrs p (fun c => { c with oversize := c.oversize.add64 1 }) s
  else
    let raw := b ++ fcsOf b
    let s1 := countAccepted p raw.length s
    ingress p raw (stampTo s.sup.mode at0) trie (trieSide p raw trie s1)

/-- A packet of a channel is complete; those of VC0 and VC3 belong to the Span layer. -/
def packetDone (l vc at0 : Nat) (b : List Byte) (trie : TrieRead) (s : State) : State :=
  if (vc = 1 ∨ vc = 2) ∧ l < 128 then trunkPacket l at0 b trie s else s

/-- The receiver has freed a unit of a channel (R349). -/
def freeUnit (l vc : Nat) (s : State) : State :=
  let s1 := updLink l (fun y =>
    { y with
      freed := y.freed.set vc ((y.freed.getD vc 0 + 1) % 65536)
      creditSince := some (y.creditSince.getD s.elapsed) }) s
  let x := linkOf l s1
  if (List.range 4).any fun v => decide (64 ≤ seqDist (x.freed.getD v 0) (x.freedSent.getD v 0)) then sendCredit l s1 else s1

/-- The packet in progress on a channel after a DATA unit. -/
def gather (joint : Bool) (u : List Byte) (now : Nat) (old : Option (Nat × List Byte)) : Option (Nat × List Byte) :=
  let b := (u.drop 2).take (unitValid joint u)
  if unitSop u then some (now, b) else old.map fun x => (x.1, x.2 ++ b)

/-- An accepted DATA unit (R332, R366). -/
def takeUnit (l : Nat) (trie : TrieRead) (u : List Byte) (s : State) : State :=
  let x := linkOf l s
  let v := unitVc u
  let p := gather x.joint u s.tb.now (x.partials.getD v none)
  let s1 := freeUnit l v (updLink l (fun y => { y with partials := y.partials.set v (if unitEop u then none else p) }) s)
  match p with
  | some (at0, b) => if unitEop u then packetDone l v at0 b trie s1 else s1
  | none => s1

/-- A CTRL unit that passed its check (R334). -/
def takeCtrl (l : Nat) (u : List Byte) (s : State) : State :=
  let d := unitData u
  let joint := (linkOf l s).joint
  match unitCtype u with
  | 1 => receiveInit l (initOf d) s
  | 2 => if joint then ackTo l (f2 d 0) (peerStrikeNote l (bitOf (f1 d 2) 0) s) else s
  | 3 => if joint then nakTo l (f2 d 0) s else s
  | 4 =>
    if joint then updLink l (fun y =>
      { y with lineSeq := f2 d 0, replayWait := y.replayWait && decide (f2 d 0 ≠ y.rxNext) }) s
    else s
  | 5 => takeCredit l d s
  | _ => s

/-- A unit that is no DATA unit (R333). -/
def takeOther (l : Nat) (u : List Byte) (s : State) : State :=
  match unitKind u with
  | 0 => s
  | 2 => takeCtrl l u s
  | _ => cwCrcFail l s

/-- E advances by one (R341, R342). -/
def advanceE (l : Nat) (s : State) : State :=
  cwWide l 1 1 (updLink l (fun y =>
    { y with
      rxNext := (y.rxNext + 1) % cwMod y
      replayWait := false
      nakAt := none
      ackSince := if y.joint then some (y.ackSince.getD s.elapsed) else none }) s)

/-- A duplicate (R341). -/
def duplicateUnit (l : Nat) (s : State) : State := cwNarrow l 3 1 s

/-- `a` lies before `b` in serial arithmetic. -/
def cwBefore (x : CwLink) (a b : Nat) : Bool := decide (a ≠ b) && decide (cwDist x b a ≤ cwMod x / 2)

/-- One codeword's decoding: symbols corrected, above 15 for an uncorrectable one (R337, R338). -/
def fecStep (l n : Nat) (s : State) : State :=
  if n ≤ 15 then
    let s1 := updLink l (fun y => { y with fecRun := 0 }) s
    if n = 0 then s1 else cwWide l 4 n (cwWide l 3 1 s1)
  else
    let run := (linkOf l s).fecRun + 1
    let s1 := tallyAdd 2 1 (countEvt 0x16 [(4, l)] 1 (cwNarrow l 2 1 s))
    if 16 ≤ run then lineDown l (updLink l (fun y => { y with fecRun := 0, fecLock := false }) s1)
    else updLink l (fun y => { y with fecRun := run }) s1

/-- The flow units of a replay block. -/
def splitUnits : Nat → List Byte → List (List Byte)
  | 0, _ => []
  | n + 1, b => b.take 32 :: splitUnits n (b.drop 32)

/-- The units of an accepted frame, in order. -/
def takeUnits (l : Nat) (trie : TrieRead) (us : List (List Byte)) (s : State) : State :=
  forEach us (fun u s => if unitKind u = 1 then takeUnit l trie u s else takeOther l u s) s

/-- A replay frame whose check passes (R339 to R343). (DEDUCED: log entry 151) -/
def goodFrame (l : Nat) (raw : List Byte) (trie : TrieRead) (s : State) : State :=
  let h := f4 raw 0
  let fseq := h / 2 ^ 19
  let ack := h / 2 ^ 6 % 8192
  let s1 := peerStrikeNote l (bitOf h 3) s
  let live := decide ((linkOf l s).state = .up ∨ (linkOf l s).state = .hold)
  let s2 := if live then ackTo l ack s1 else s1
  let s3 := if bitOf h 4 then nakTo l ack s2 else s2
  let us := splitUnits 64 (raw.drop 4)
  if bitOf h 5 then forEach us (fun u s => takeOther l u s) s3
  else
    let x := linkOf l s3
    if x.state ≠ .up then s3
    else if fseq = x.rxNext then takeUnits l trie us (advanceE l s3)
    else if cwBefore x fseq x.rxNext then duplicateUnit l s3
    else enterWait l s3

/-- A trunk replay frame (R337 to R341); `hit` says that it overlaps an uncorrectable codeword. -/
def trunkFrame (l : Nat) (raw : List Byte) (hit : Bool) (trie : TrieRead) (s : State) : State :=
  if hit || decide (raw.length ≠ 2056) || decide (f4 raw 2052 ≠ Crc.crc32 (raw.take 2052)) then enterWait l (cwCrcFail l s)
  else goodFrame l raw trie s

/-- A joint DATA unit whose check passes under its sequence number (R335, R341). -/
def jointData (l : Nat) (u : List Byte) (trie : TrieRead) (s : State) : State :=
  let x := linkOf l s
  let seq := x.lineSeq
  let s1 := updLink l (fun y => { y with lineSeq := (seq + 1) % 65536 }) s
  if x.state ≠ .up ∨ x.replayWait then s1
  else if seq = x.rxNext then
    let s2 := takeUnit l trie u (advanceE l s1)
    if 32 ≤ seqDist (linkOf l s2).rxNext (linkOf l s2).ackSent then sendAck l s2 else s2
  else duplicateUnit l s1

/-- A joint unit: DATA under the sequence the line has reached, any other under 0xFFFF (R335). -/
def jointUnit (l : Nat) (u : List Byte) (trie : TrieRead) (s : State) : State :=
  if unitKind u = 1 ∧ unitGood (linkOf l s).lineSeq u then jointData l u trie s
  else if unitKind u ≠ 1 ∧ unitGood 0xFFFF u then takeOther l u s
  else enterWait l (cwCrcFail l s)

/-- REPLAY_FRAME: a trunk replay frame, or a joint unit; `cws` are the codewords decoded since the last one. -/
def replayFrameEffect (t : Nat) (l : Fin 144) (raw : List Byte) (cws : List Nat) (hit : Bool) (trie : TrieRead) (s0 : State) :
    State :=
  let s := advance t s0
  if (linkOf l s).joint then (if cwHears l s then cwAfter l (jointUnit l raw trie s) else s)
  else
    let s1 := if cwActive l s ∧ lineGood l s then forEach cws (fun n s => fecStep l n s) s else s
    if cwHears l s1 then trunkFrame l raw hit trie (bumpFree s1) else s1

/-- ACK: a joint ACK unit (R342, R346). (DEDUCED: log entry 141) -/
def cwAckEffect (t : Nat) (l : Fin 144) (seq : BitVec 16) (strike : Bool) (s0 : State) : State :=
  let s := advance t s0
  if cwHears l s ∧ (linkOf l s).joint then ackTo l seq.toNat (peerStrikeNote l strike s) else s

/-- NAK: a joint NAK unit (R342, R343). (DEDUCED: log entry 141) -/
def cwNakEffect (t : Nat) (l : Fin 144) (seq : BitVec 16) (s0 : State) : State :=
  let s := advance t s0
  if cwHears l s ∧ (linkOf l s).joint then cwAfter l (nakTo l seq.toNat s) else s

/-- REPLAY_MARK (R341). -/
def replayMarkEffect (t : Nat) (l : Fin 144) (seq : BitVec 16) (s0 : State) : State :=
  let s := advance t s0
  if cwHears l s ∧ (linkOf l s).joint then takeCtrl l (ctrlUnit true 4 (be 2 seq.toNat)) s else s

/-- CREDIT: the FREED values of a CREDIT unit (R349). -/
def cwCreditEffect (t : Nat) (l : Fin 144) (data : List Byte) (s0 : State) : State :=
  let s := advance t s0
  if cwHears l s then takeCredit l data s else s

/-! ### Timers and slots -/

/-- ACK_TIMER (R342). -/
def ackTimerEffect (t : Nat) (l : Fin 144) (s0 : State) : State :=
  let s := advance t s0
  if (linkOf l s).joint ∧ (linkOf l s).state = .up ∧ heldFor (linkOf l s).ackSince 500 s.elapsed then sendAck l s else s

/-- NAK_REPEAT (R342). -/
def nakRepeatEffect (t : Nat) (l : Fin 144) (s0 : State) : State :=
  let s := advance t s0
  let x := linkOf l s
  if x.joint ∧ x.state = .up ∧ x.replayWait ∧ heldFor x.nakAt 2000 s.elapsed then sendNak l s else s

/-- CREDIT_TIMER (R349). -/
def creditTimerEffect (t : Nat) (l : Fin 144) (s0 : State) : State :=
  let s := advance t s0
  if (linkOf l s).state = .up ∧ heldFor (linkOf l s).creditSince 1000 s.elapsed then sendCredit l s else s

/-- REPLAY_TIMER: the oldest unit's timer has expired and no replay from it is under way (R344, R365). (DEDUCED: log entry 148) -/
def replayTimerEffect (t : Nat) (l : Fin 144) (s0 : State) : State :=
  let s := advance t s0
  let x := linkOf l s
  match x.kept with
  | [] => s
  | k :: _ =>
    if x.state = .up ∧ k.sentAt + k.timerNs ≤ s.elapsed ∧ x.replayFrom ≠ some k.seq then
      cwAfter l (startReplay l k.seq (updLink l (fun y => { y with nakFrom := none }) s))
    else s

/-- PEER_STRIKE_TIMEOUT (R346). -/
def peerStrikeTimeoutEffect (t : Nat) (l : Fin 144) (s0 : State) : State :=
  let s := advance t s0
  if heldFor (linkOf l s).peerStrikeAt (msNs 10) s.elapsed then updLink l (fun y => { y with peerStrikeAt := none }) s else s

/-- FEC_LOCK (R338). -/
def fecLockEffect (t : Nat) (l : Fin 144) (s0 : State) : State :=
  let s := advance t s0
  let x := linkOf l s
  if cwActive l s ∧ !x.joint ∧ (laneOf l s).align = .locked ∧ !x.fecLock then
    lineUp l (updLink l (fun y => { y with fecLock := true, fecRun := 0 }) s)
  else s

/-- LINE_LOSS: the line has been lost for DOWN_US (R357). -/
def lineLossEffect (t : Nat) (l : Fin 144) (s0 : State) : State :=
  let s := advance t s0
  let x := linkOf l s
  if heldFor x.lostSince (usNs x.downUs) s.elapsed ∧ cwActive l s then
    let cause := if (laneOf l s).align = .locked then 2 else 1
    match x.state with
    | .up => cwAfter l (enterHold l cause s)
    | .init => cwEnter l .train cause s
    | _ => s
  else s

/-- GRACE_END (R354, R357). -/
def graceEndEffect (t : Nat) (l : Fin 144) (s0 : State) : State :=
  let s := advance t s0
  let x := linkOf l s
  if x.state = .hold ∧ x.graceAt.isSome ∧ !graceRuns x s.elapsed then cwRestart l 5 (cwFlush l false s) else s

/-- FRAME_SLOT: a frame or unit slot of the transmitter (R335, R340, R343, R348). -/
def frameSlotEffect (t : Nat) (l : Fin 144) (s0 : State) : State :=
  let s := advance t s0
  if cwActive l s ∧ (laneOf l s).tx = .active then
    let s1 := if 128 ≤ l.val then dealCells s else s
    let s2 := if (linkOf l s1).state = .up then noteStalls l s1 else s1
    match replaySlot l s2 with
    | some s3 => s3
    | none => if (linkOf l s2).joint then jointSlot l s2 else trunkSlot l s2
  else s

/-! ### Commands (R358 to R360) -/

/-- A field of CW_LINK_SET, 0 for its default. -/
def orDefault (x d : Nat) : Nat := if x = 0 then d else x

/-- A link with the settings of a CW_LINK_SET payload. -/
def withCwSettings (p : List Byte) (y : CwLink) : CwLink :=
  let joint := decide (f1 p 2 = 1)
  { y with
    joint := joint
    depth := orDefault (f2 p 4) (if joint then 512 else 1024)
    replayUs := orDefault (f4 p 6) (if joint then 10 else 1000)
    limit := orDefault (f1 p 10) 8
    stretch := orDefault (f1 p 11) 4
    graceMs := orDefault (f2 p 12) 50
    downUs := f2 p 14
    quotaMiB := f2 p 16 }

/-- The settings are in range (R358 table). -/
def cwSettingsOk (y : CwLink) : Bool :=
  (if y.joint then decide (64 ≤ y.depth) && decide (y.depth ≤ 512) && decide (2 ≤ y.replayUs) && decide (y.replayUs ≤ 1000)
   else decide (256 ≤ y.depth) && decide (y.depth ≤ 2048) && decide (50 ≤ y.replayUs) && decide (y.replayUs ≤ 100000)) &&
    decide (y.limit ≤ 32) && decide (y.stretch ≤ 16) && decide (y.graceMs ≤ 10000) && decide (y.downUs ≤ 10000) &&
    decide (y.quotaMiB ≤ 512)

/-- A CW_LINK_SET payload is in range. -/
def cwFieldsOk (p : List Byte) : Bool :=
  decide (f1 p 1 = 1) || (decide (f1 p 1 = 0) && decide (f1 p 2 ≤ 1) && cwSettingsOk (withCwSettings p {}))

/-- Hold store a link takes, in bytes (R355). (DEDUCED: log entry 145) -/
def holdShare (y : CwLink) : Nat := (if y.joint then 0 else y.depth * 2056) + y.quotaMiB * 2 ^ 20

/-- R355 holds with link `l` changed to `y`. (DEDUCED: log entry 145) -/
def holdSpaceOk (l : Nat) (y : CwLink) (s : State) : Bool :=
  let others := (s.cw.link.filter fun e => e.2.formed && decide (e.1 ≠ l)).map fun e => holdShare e.2
  decide (others.sum + holdShare y ≤ 1536 * 2 ^ 20)

/-- STATE of a change: applied now, or recorded for a later mode. -/
def cwChangeState (s : State) : Nat := if cwRuns s then 0 else 1

/-- Form a link, or change the settings of one; the answer is STATE (R359). -/
def cwForm (l : Nat) (p : List Byte) (s : State) : Nat × State :=
  let x := linkOf l s
  let y := withCwSettings p x
  if !x.formed then (cwChangeState s, startLink l (updLink l (fun _ => { y with formed := true }) s))
  else if y = x then (2, s)
  else if (y.joint ≠ x.joint ∨ y.depth ≠ x.depth) ∧ x.state ≠ .off then
    let s1 := updLink l (withCwSettings p) (cwEnter l .train 0 (cwFlush l false s))
    (0, lineUp l (updLink l (fun z => { z with fecLock := z.fecLock && !z.joint, fecRun := 0 }) s1))
  else (cwChangeState s, updLink l (fun _ => y) s)

/-- Release a link. (DEDUCED: log entry 147) -/
def cwRelease (l : Nat) (s : State) : Nat × State := if (linkOf l s).formed then (0, releaseLink l s) else (2, s)

/-- CW_LINK_SET (R359). (DEDUCED: log entry 144) -/
def cwLinkSetBody (q : Req) (s : State) : Body :=
  let p := q.payload
  let l := f1 p 0
  let o := (laneOf l s).owner
  checks [lenIs q 20, (decide (l ≤ 143), .laneNumber), (decide (o ≠ .ethernet ∧ o ≠ .test), .laneBusy),
      (!(decide (s.span.state ≠ .off) && spanLane l s), .cwSpan), (cwFieldsOk p, .cwParam),
      (decide (f1 p 1 = 1) || holdSpaceOk l (withCwSettings p (linkOf l s)) s, .cwHoldSpace)] <|
    let r := if f1 p 1 = 1 then cwRelease l s else cwForm l p s
    okResp r.2 (enc [(1, r.1), (3, 0)])

/-- LANE names a Causeway link (R358). (DEDUCED: log entry 144) -/
def cwLaneChecks (q : Req) (s : State) : List (Bool × Err) :=
  let l := f1 q.payload 0
  [lenIs q 4, (decide (l ≤ 143), .laneNumber), (decide ((laneOf l s).owner = .causeway), .cwNotLink)]

/-- The next packet of a queue of a trunk port finds no room in the quota of a hold (R353). -/
def quotaFull (l : Nat) (s : State) : Bool :=
  decide ((linkOf l s).state = .hold) && decide (l < 128) &&
    (List.range 8).any fun n =>
      match headOf l n s with
      | some (_, y) => !trunkRoom l (trunkVc y.pkt.cls s) (frameBytes y.pkt l).length s
      | none => false

/-- FLAGS of CW_LINK_STATUS_GET. -/
def cwFlags (l : Nat) (s : State) : Nat :=
  let x := linkOf l s
  flags [x.fecLock, x.replayWait, x.replayFrom.isSome, stretchNow x s, peerStruck x s, quotaFull l s]

/-- CW_LINK_STATUS_GET response. -/
def cwStatus (l : Nat) (s : State) : List Byte :=
  let x := linkOf l s
  enc [(1, l), (1, x.state.code), (1, b2n x.joint), (1, cwFlags l s), (2, x.incarnation), (2, x.peerIncarnation), (8, x.peerSerial),
    (1, x.peerLane), (1, x.lastCause), (2, x.txNext), (2, oldestKept x), (2, x.rxNext), (4, heldBytes x)] ++
  tb10 x.since ++ tb10 x.graceEnd

/-- CW_LINK_STATUS_GET. -/
def cwLinkStatusGetBody (q : Req) (s : State) : Body := checks (cwLaneChecks q s) (okResp s (cwStatus (f1 q.payload 0) s))

/-- CW_COUNTERS_GET response: stalls that go on count up to the snapshot. -/
def cwCounters (l : Nat) (s : State) : List Byte :=
  let x := linkOf l s
  let w := (List.range 9).map (Tbl.get {} x.wide)
  let n := (List.range 9).map (Tbl.get {} x.narrow)
  enc [(1, l), (3, 0), (4, flags (w.map fun c => c.ovf) + flags (n.map fun c => c.ovf) * 2 ^ 16)] ++ tb10 s.tb.now ++ be 2 0 ++
    w.flatMap (fun c => be 8 c.val) ++ n.flatMap fun c => be 4 c.val

/-- A stall that goes on is counted up to now and goes on. -/
def settleStalls (l : Nat) (s : State) : State :=
  let x := linkOf l s
  let s1 := endCreditStall l (endStall l s)
  updLink l (fun y =>
    { y with
      stallSince := x.stallSince.map fun _ => s.elapsed
      creditStall := x.creditStall.map fun _ => s.elapsed }) s1

/-- CW_COUNTERS_GET: one snapshot. -/
def cwCountersGetBody (q : Req) (s : State) : Body :=
  let s1 := settleStalls (f1 q.payload 0) s
  checks (cwLaneChecks q s) (okResp s1 (cwCounters (f1 q.payload 0) s1))

/-- CW_FLUSH (R354, R357, R360). -/
def cwFlushBody (q : Req) (s : State) : Body :=
  let l := f1 q.payload 0
  checks (cwLaneChecks q s ++ [(decide ((linkOf l s).state = .up ∨ (linkOf l s).state = .hold), .cwNoHold)])
    (okEmpty (cwAfter l (cwRestart l 7 (cwFlush l false s))))

/-! ### The meanings -/

/-- CW_LINK_SET. -/
def execCwLinkSet (q : Req) (s : State) : Host.Outcome State Fault Refusal :=
  .next (kmpExec .cwLinkSet q (cwLinkSetBody q) s)

/-- CW_LINK_STATUS_GET. -/
def execCwLinkStatusGet (q : Req) (s : State) : Host.Outcome State Fault Refusal :=
  .next (kmpExec .cwLinkStatusGet q (cwLinkStatusGetBody q) s)

/-- CW_COUNTERS_GET. -/
def execCwCountersGet (q : Req) (s : State) : Host.Outcome State Fault Refusal :=
  .next (kmpExec .cwCountersGet q (cwCountersGetBody q) s)

/-- CW_FLUSH. -/
def execCwFlush (q : Req) (s : State) : Host.Outcome State Fault Refusal :=
  .next (kmpExec .cwFlush q (cwFlushBody q) s)

/-- INIT. -/
def execCwInit (t : Nat) (l : Fin 144) (data : List Byte) (s : State) : Host.Outcome State Fault Refusal :=
  .next (cwInitEffect t l data s)

/-- INIT_SEND. -/
def execCwInitSend (t : Nat) (l : Fin 144) (s : State) : Host.Outcome State Fault Refusal :=
  .next (cwInitSendEffect t l s)

/-- REPLAY_FRAME. -/
def execReplayFrame (t : Nat) (l : Fin 144) (raw : List Byte) (cws : List Nat) (hit : Bool) (trie : TrieRead) (s : State) : Host.Outcome State Fault Refusal :=
  .next (replayFrameEffect t l raw cws hit trie s)

/-- ACK. -/
def execCwAck (t : Nat) (l : Fin 144) (seq : BitVec 16) (strike : Bool) (s : State) : Host.Outcome State Fault Refusal :=
  .next (cwAckEffect t l seq strike s)

/-- NAK. -/
def execCwNak (t : Nat) (l : Fin 144) (seq : BitVec 16) (s : State) : Host.Outcome State Fault Refusal :=
  .next (cwNakEffect t l seq s)

/-- REPLAY_MARK. -/
def execReplayMark (t : Nat) (l : Fin 144) (seq : BitVec 16) (s : State) : Host.Outcome State Fault Refusal :=
  .next (replayMarkEffect t l seq s)

/-- CREDIT. -/
def execCwCredit (t : Nat) (l : Fin 144) (data : List Byte) (s : State) : Host.Outcome State Fault Refusal :=
  .next (cwCreditEffect t l data s)

/-- ACK_TIMER. -/
def execAckTimer (t : Nat) (l : Fin 144) (s : State) : Host.Outcome State Fault Refusal :=
  .next (ackTimerEffect t l s)

/-- NAK_REPEAT. -/
def execNakRepeat (t : Nat) (l : Fin 144) (s : State) : Host.Outcome State Fault Refusal :=
  .next (nakRepeatEffect t l s)

/-- CREDIT_TIMER. -/
def execCreditTimer (t : Nat) (l : Fin 144) (s : State) : Host.Outcome State Fault Refusal :=
  .next (creditTimerEffect t l s)

/-- REPLAY_TIMER. -/
def execReplayTimer (t : Nat) (l : Fin 144) (s : State) : Host.Outcome State Fault Refusal :=
  .next (replayTimerEffect t l s)

/-- PEER_STRIKE_TIMEOUT. -/
def execPeerStrikeTimeout (t : Nat) (l : Fin 144) (s : State) : Host.Outcome State Fault Refusal :=
  .next (peerStrikeTimeoutEffect t l s)

/-- FEC_LOCK. -/
def execFecLock (t : Nat) (l : Fin 144) (s : State) : Host.Outcome State Fault Refusal :=
  .next (fecLockEffect t l s)

/-- LINE_LOSS. -/
def execLineLoss (t : Nat) (l : Fin 144) (s : State) : Host.Outcome State Fault Refusal :=
  .next (lineLossEffect t l s)

/-- GRACE_END. -/
def execGraceEnd (t : Nat) (l : Fin 144) (s : State) : Host.Outcome State Fault Refusal :=
  .next (graceEndEffect t l s)

/-- FRAME_SLOT. -/
def execFrameSlot (t : Nat) (l : Fin 144) (s : State) : Host.Outcome State Fault Refusal :=
  .next (frameSlotEffect t l s)

end Sys2Proof.Machine
end

