-- ==== Sys2Proof/Machine/Counters.lean ====
section
/-! DEFINITION. Machine/Counters.lean: reading counters, snapshots, bandwidth windows, monitors, the event log (R714 to R739). -/

namespace Sys2Proof.Machine

open Sys2Proof

/-- Header of a COUNTERS_GET response. -/
def countersHead (set index epoch snapAt status : Nat) (ovf : List Bool) : List Byte :=
  enc [(1, set), (1, index), (2, 0), (4, epoch)] ++ tb10 snapAt ++ enc [(1, status), (1, 0), (8, flags ovf)]

/-- Values of counters of `w` bytes. -/
def ctrBytes (w : Nat) (l : List Ctr) : List Byte := enc (l.map fun c => (w, c.val))

/-- The 64-bit counters of set 1, in offset order. -/
def wideOf (c : PortCtrs) : List Ctr :=
  [c.rxFrames, c.rxBytes, c.txFrames, c.txBytes, c.runts, c.oversize, c.macControl, c.linkDownDrops, c.modeDrops, c.egressOversize]

/-- The body of a set, and its overflow flags. -/
def countersBody (set index : Nat) (x : StoredSnap) : List Bool × List Byte :=
  match set with
  | 1 =>
    let c := Tbl.get {} x.ports index
    let w := wideOf c
    let n := [c.fcsErrors, c.strikeFcs]
    ((w ++ n).map Ctr.ovf, ctrBytes 8 w ++ ctrBytes 4 n ++ enc [(2, c.lastStrikeId), (2, 0)])
  | 2 =>
    let c := Tbl.get {} x.transports index
    let w := [c.rxMessages, c.txMessages]
    let n := [c.framing, c.auth, c.rate, c.other]
    ((w ++ n).map Ctr.ovf, ctrBytes 8 w ++ ctrBytes 4 n)
  | _ =>
    let l := (List.range 64).map fun i => Tbl.get {} x.events i
    (l.map fun e => e.value.ovf, l.flatMap fun e => enc [(1, e.event), (1, e.scopeKind), (2, e.scopeIndex), (8, e.value.val)])

/-- The COUNTERS_GET response of a snapshot. -/
def countersResp (set index : Nat) (fromStore : Bool) (x : StoredSnap) : List Byte :=
  let b := countersBody set index x
  countersHead set index x.epoch x.snapAt (flags [x.lost, fromStore]) b.1 ++ b.2

/-- SET and INDEX are in range. -/
def setOk (set index : Nat) : Bool :=
  decide ((set = 1 ∧ index ≤ 127) ∨ (set = 2 ∧ index ≤ 4) ∨ (set = 3 ∧ index = 0))

/-- The present counters as a snapshot (R718). -/
def presentSnap (s : State) : StoredSnap :=
  ⟨0, s.tb.now, s.cnt.epoch, s.cnt.lost, s.cnt.ports, s.cnt.transports, s.cnt.events⟩

/-- COUNTERS_GET (R718, R731). (DEDUCED: log entries 272, 274) -/
def countersGetBody (q : Req) (s : State) : Body :=
  let set := f1 q.payload 0
  checks [lenIs q 4, (!(decide (s.sup.mode = .watch) && decide (set ≠ 2)), .modeNotAllowed),
      (setOk set (f1 q.payload 1), .counterParam)]
    (okResp (if set = 2 then s else { s with cnt := { s.cnt with lost := false } })
      (countersResp set (f1 q.payload 1) false (presentSnap s)))

/-- Scope kinds a datapath event accepts besides the module (R721 table). -/
def eventScopes : Nat → List Nat
  | 0x09 => [6]
  | 0x0A => [9]
  | 0x0B => [2]
  | 0x0C => [2]
  | 0x0D => [7]
  | 0x0E => [2]
  | 0x0F => [1, 3]
  | 0x10 => [1, 3]
  | 0x11 => [3]
  | 0x12 => [1]
  | 0x13 => [4]
  | 0x14 => [4]
  | 0x15 => [4]
  | 0x16 => [1, 4]
  | 0x17 => []
  | 0x18 => []
  | 0x19 => [5]
  | 0x1A => [8]
  | 0x1B => []
  | n => if 1 ≤ n ∧ n ≤ 8 then [1] else []

/-- How many indices a scope kind has (R721). -/
def scopeSize : Nat → Nat
  | 1 => 128
  | 2 => 8
  | 3 => 8
  | 4 => 144
  | 5 => 5
  | 6 => 4
  | 7 => 8
  | 8 => 4
  | _ => 16384

/-- The fields of an EVENT_COUNTER_SET payload at `off` are in range (R731). NONE counts nothing and takes no scope.
(DESIGN CHOICE: log entry 269) -/
def evtCfgOk (p : List Byte) (off : Nat) : Bool :=
  let ev := f1 p (off + 1)
  let k := f1 p (off + 2)
  decide (f1 p off ≤ 63 ∧ ev ≤ 0x1B) &&
    (decide (ev = 0) || decide (k = 0) || ((eventScopes ev).contains k && decide (f2 p (off + 4) < scopeSize k)))

/-- Apply an EVENT_COUNTER_SET payload: the counter restarts at 0 (R721), and with it a monitor's window on it. -/
def applyEvtCfg (p : List Byte) (off : Nat) (s : State) : State :=
  let n := f1 p off
  let restart (m : Monitor) : Monitor :=
    if m.kind = 1 ∧ m.index = n then { m with startValue := m.startValue.map fun _ => 0 } else m
  { s with cnt := { s.cnt with
      events := Tbl.set {} s.cnt.events n ⟨f1 p (off + 1), f1 p (off + 2), f2 p (off + 4), {}⟩
      monitors := s.cnt.monitors.map fun m => (m.1, restart m.2) } }

/-- EVENT_COUNTER_SET. -/
def eventCounterSetBody (q : Req) (s : State) : Body :=
  checks [lenIs q 8, (evtCfgOk q.payload 0, .counterParam)] (okEmpty (applyEvtCfg q.payload 0 s))

/-- SNAPSHOT_TAKE (R719). -/
def snapshotTakeBody (q : Req) (s : State) : Body :=
  checks [lenIs q 0, (ch0Powered s, .archiveOff)]
    (okResp (storeSnap s) (enc [(4, s.cnt.nextSnapId)] ++ tb10 s.tb.now ++ enc [(2, 0)]))

/-- SNAPSHOT_READ. -/
def snapshotReadBody (q : Req) (s : State) : Body :=
  let set := f1 q.payload 4
  let i := f1 q.payload 5
  checks [lenIs q 8, (setOk set i, .counterParam)]
    (match s.cnt.snaps.find? fun x => decide (x.id = f4 q.payload 0) with
    | none => .error .snapNone
    | some x => okResp s (countersResp set i true x))

/-- A SNAPSHOT_SCHEDULE_SET payload at `off` is in range. -/
def snapSchedOk (p : List Byte) (off : Nat) (s : State) : Bool :=
  decide (f1 p off = 1) ||
    (decide (f1 p off = 0 ∧ 60 ≤ f4 p (off + 16) ∧ f4 p (off + 16) ≤ 86400) && startOk p (off + 4) s)

/-- The timer a schedule runs on: the one it holds, or any free one (R668, R720). -/
def schedTimer (s : State) : Option Nat :=
  match s.cnt.sched with
  | some x => some x.timer
  | none => grantTimer 0xFF s

/-- Stop the schedule. -/
def stopSched (s : State) : State :=
  match s.cnt.sched with
  | none => s
  | some x => { setTimer x.timer {} s with cnt := { s.cnt with sched := none } }

/-- Start or replace the schedule on timer `g`. -/
def startSched (g : Nat) (p : List Byte) (off : Nat) (s : State) : State :=
  let s1 := takeTimer .snapshot g (startAt p (off + 4) s) (sNs (f4 p (off + 16))) s
  { s1 with cnt := { s1.cnt with sched := some ⟨g⟩ } }

/-- SNAPSHOT_SCHEDULE_SET (R720). (DEDUCED: log entry 274) -/
def snapshotScheduleSetBody (q : Req) (s : State) : Body :=
  let p := q.payload
  checks [lenIs q 20, (snapSchedOk p 0 s, .counterParam)]
    (if f1 p 0 = 1 then okResp (stopSched s) (enc [(1, 0xFF), (3, 0)])
    else
      match schedTimer s with
      | none => .error .timerBusy
      | some g => okResp (startSched g p 0 s) (enc [(1, g), (3, 0)]))

/-- SNAPSHOT_SCHEDULE_FIRE (R720). -/
def snapshotScheduleFireEffect (t : Nat) (s0 : State) : State :=
  let s := advance t s0
  match s.cnt.sched with
  | none => s
  | some x =>
    if timerDue .snapshot x.timer s then
      let s1 := setTimer x.timer (firedTimer (timerOf x.timer s) s.tb.now) s
      if ch0Powered s1 then storeSnap s1
      else
        let n := s1.cnt.skipped + 1
        if reportDue s1.cnt.lastSkipReport (sNs 3600) s1.elapsed then
          raise .snapshotSkipped 0 (be 4 (sat32 n))
            { s1 with cnt := { s1.cnt with skipped := 0, lastSkipReport := some s1.elapsed } }
        else { s1 with cnt := { s1.cnt with skipped := n } }
    else s

/-- BW_WINDOW_US is in range. -/
def bwOk (us : Nat) : Bool := decide (1000 ≤ us ∧ us ≤ 10000000)

/-- Set BW_WINDOW_US: the window in progress is discarded. -/
def applyBw (us : Nat) (s : State) : State := restartBw { s with cnt := { s.cnt with bwWindowUs := us } }

/-- BW_CONFIG_SET. -/
def bwConfigSetBody (q : Req) (s : State) : Body :=
  checks [lenIs q 4, (bwOk (f4 q.payload 0), .counterParam)] (okEmpty (applyBw (f4 q.payload 0) s))

/-- BW_GET. -/
def bwGetBody (q : Req) (s : State) : Body :=
  let n := f1 q.payload 0
  let y := Tbl.get {} s.cnt.bw n
  let clear := Tbl.upd {} s.cnt.bw n fun y => { y with rxPeak := 0, txPeak := 0, rxPeakAt := 0, txPeakAt := 0 }
  checks [lenIs q 4, (decide (n ≤ 127), .counterParam)]
    (okResp (if bitOf (f1 q.payload 1) 0 then { s with cnt := { s.cnt with bw := clear } } else s)
      (enc [(1, n), (1, b2n y.stepped), (2, 0), (4, s.cnt.bwWindowUs)] ++ tb10 y.lastStart ++
        enc [(2, 0), (8, y.rxLast), (8, y.txLast), (8, y.rxPeak), (8, y.txPeak)] ++ tb10 y.rxPeakAt ++ tb10 y.txPeakAt))

/-- The nominal rate of a port in Mbit/s (R504). (DESIGN CHOICE: log entry 152) -/
def nominalMbps (p : Nat) (s : State) : Nat := if isTrunk p s then 52684 else typeGbps (portOf p s).typ * 1000

/-- Wire bytes of a window in per mille of a port's nominal rate (R724). -/
def bwPerMille (bytes p : Nat) (s : State) : Nat := bytes * 8000 / (nominalMbps p s * s.cnt.bwWindowUs)

/-- The value a bandwidth monitor reads: of port `index` in RX, or in TX with bit 8 set (R724). -/
def bwValue (index : Nat) (s : State) : Nat :=
  let p := index % 256
  let y := Tbl.get {} s.cnt.bw p
  bwPerMille (if bitOf index 8 then y.txLast else y.rxLast) p s

/-- Evaluate the bandwidth monitors at the end of a window, in monitor order. -/
def evalBw (s : State) : State :=
  if monitorsRun s then
    forEach (List.range 16) (fun n s =>
      if (monOf n s).kind = 4 then evalMonitor n (bwValue (monOf n s).index s) s else s) s
  else s

/-- BW_WINDOW_END (R722, R724). -/
def bwWindowEndEffect (t : Nat) (s0 : State) : State :=
  let s := advance t s0
  let w := usNs s.cnt.bwWindowUs
  if dataPlaneMode s.sup.mode ∧ s.cnt.bwStart + w ≤ s.tb.now then
    let s1 := endBwWindow false s
    evalBw { s1 with cnt := { s1.cnt with bwStart := s.cnt.bwStart + w } }
  else s

/-- The index a source kind takes is in range (R724 table). -/
def monIndexOk (kind index : Nat) : Bool :=
  match kind with
  | 0 => true
  | 1 => decide (index ≤ 63)
  | 2 => decide (index ≤ 6)
  | 3 => decide (index ≤ 3)
  | _ => decide (index < 512 ∧ index % 256 ≤ 127)

/-- The fields of a MONITOR_SET payload at `off` are in range. -/
def monCfgOk (p : List Byte) (off : Nat) : Bool :=
  let k := f1 p (off + 1)
  let w := f4 p (off + 8)
  decide (f1 p off ≤ 15 ∧ k ≤ 4) && monIndexOk k (f2 p (off + 2)) &&
    (if k = 1 then decide (10 ≤ w ∧ w ≤ 3600000) else decide (w = 0)) &&
    (decide (k = 0) || decide (fieldInt p (off + 16) 4 < fieldInt p (off + 12) 4))

/-- Apply a MONITOR_SET payload: the monitor restarts clear, its counts at 0. -/
def applyMonCfg (p : List Byte) (off : Nat) (s : State) : State :=
  let k := f1 p (off + 1)
  let fl := f1 p (off + 4)
  let w := f4 p (off + 8)
  let m : Monitor := {
    kind := k, index := f2 p (off + 2), below := bitOf fl 0, excludeStrike := bitOf fl 1, events := bitOf fl 2
    windowMs := w, high := fieldInt p (off + 12) 4, low := fieldInt p (off + 16) 4
    windowStart := if k = 1 then nextMultiple (msNs w) s.tb.now else 0 }
  updMon (f1 p off) (fun _ => m) s

/-- MONITOR_SET. -/
def monitorSetBody (q : Req) (s : State) : Body :=
  checks [lenIs q 20, (monCfgOk q.payload 0, .counterParam)] (okEmpty (applyMonCfg q.payload 0 s))

/-- MONITOR_GET. -/
def monitorGetBody (q : Req) (s : State) : Body :=
  checks [lenIs q 0] (okResp s ((List.range 16).flatMap fun n =>
    let m := monOf n s
    enc [(1, m.kind), (1, monState m), (2, 0)] ++ beInt 8 m.value ++ tb10 m.evalAt ++
      enc [(2, 0), (4, m.trips.val), (4, m.skipped.val)]))

/-- A strike window overlaps any part of [a, b) of the time base (R725). -/
def strikeOverlaps (a b : Nat) (s : State) : Bool := s.cnt.tally.any fun w => decide (w.openedAt < b ∧ a < w.endsAt)

/-- The window of a monitor over a datapath event counter ends and the next one starts (R724, R725). (DEDUCED: log entry 271) -/
def endMonWindow (n : Nat) (s : State) : State :=
  let m := monOf n s
  let w := msNs m.windowMs
  let v := (Tbl.get {} s.cnt.events m.index).value.val
  let next (s : State) : State :=
    updMon n (fun m => { m with windowStart := s.tb.now / w * w, startValue := some v, stepped := false }) s
  match m.startValue with
  | none => if m.windowStart ≤ s.tb.now then next s else s
  | some old =>
    if m.windowStart + w ≤ s.tb.now then
      if m.stepped || (m.excludeStrike && strikeOverlaps m.windowStart (m.windowStart + w) s) then
        next (updMon n (fun m => { m with skipped := m.skipped.add32 1 }) s)
      else next (evalMonitor n ((v + 2 ^ 64 - old) % 2 ^ 64 : Nat) s)
    else s

/-- MONITOR_WINDOW_END (R724, R725). -/
def monitorWindowEndEffect (t : Nat) (n : Fin 16) (s0 : State) : State :=
  let s := advance t s0
  if monitorsRun s ∧ (monOf n s).kind = 1 then endMonWindow n s else s

/-- A log entry (R728). -/
def logBytes (e : LogEntry) : List Byte := enc [(4, e.secLo), (4, e.nsQ), (2, e.code), (2, e.seq)] ++ padTo 4 e.data

/-- An archive record (R729). -/
def archBytes (r : ArchRec) : List Byte :=
  logBytes r.entry ++ tb10 r.tb ++ enc [(4, r.bootCount), (2, r.plen + 32768 * b2n r.fromRetention)] ++ padTo 32 r.payload

/-- A record of free bytes. (DEDUCED: log entry 232) -/
def freeRecord (base : Nat) : List Byte := (List.range 64).map fun i => Config.freeByte (base + i)

/-- The archive record of number `k`; one in a line that reads bad gives free bytes (R589). -/
def archRead (k : Nat) (s : State) : List Byte :=
  let i := k % archiveSize
  match Tbl.get none s.cnt.archive i with
  | none => freeRecord (s.freeCtr + 64 * k)
  | some r => if s.dram.archBad.contains i then freeRecord (s.freeCtr + 64 * k) else archBytes r

/-- LOG_READ of `count` entries from `first` on, of a log whose next entry is `next` and which holds `size`: NEXT, the numbers
of those held, LOSS (R732). (DEDUCED: log entry 72) -/
def logRange (first count next size : Nat) : Nat × List Nat × Bool :=
  let stop := min (first + count) next
  let from0 := max first (next - size)
  (stop, (List.range (stop - from0)).map fun i => from0 + i, decide (first < next - size))

/-- The response to LOG_READ. -/
def logResp (r : Nat × List Nat × Bool) (f : Nat → List Byte) : List Byte :=
  enc [(4, r.1), (1, r.2.1.length), (1, b2n r.2.2), (2, 0)] ++ r.2.1.flatMap f

/-- LOG_READ (R731, R732). -/
def logReadBody (q : Req) (s : State) : Body :=
  let p := q.payload
  let n := f2 p 2
  let first := f4 p 4
  let next := s.cnt.logWraps * 1024 + s.cnt.logHead
  checks [lenIs q 8, (decide (f1 p 0 ≤ 1 ∧ 1 ≤ n ∧ n ≤ (if f1 p 0 = 0 then 64 else 19)), .counterParam)]
    (if f1 p 0 = 0 then
      checks [(decide (first ≤ next), .logRange)]
        (okResp s (logResp (logRange first n next 1024) fun k => logBytes (Tbl.get {} s.cnt.log (k % 1024))))
    else
      checks [(ch0Powered s, .archiveOff), (decide (first ≤ s.cnt.archNext), .logRange)]
        (okResp (bumpFree s) (logResp (logRange first n s.cnt.archNext archiveSize) fun k => archRead k s)))

/-- STRIKE_TALLY_GET. -/
def strikeTallyGetBody (q : Req) (s : State) : Body :=
  checks [lenIs q 0] (okResp s (enc [(1, s.cnt.tally.length), (3, 0)] ++ s.cnt.tally.flatMap fun w =>
    enc [(2, w.strikeId), (1, b2n w.opened), (1, 0)] ++ tb10 w.openedAt ++ tb10 w.endsAt ++
      enc ((List.range 8).map fun k => (4, Tbl.get 0 w.kinds k))))

/-- A stage item 0x0B10: every payload would be accepted (R733). -/
def counterItemOk (b : List Byte) (s : State) : Bool :=
  decide (b.length = 64 * 8 + 4 + 16 * 20 + 20) &&
    ((List.range 64).all fun k => evtCfgOk b (8 * k)) && bwOk (f4 b 512) &&
    ((List.range 16).all fun k => monCfgOk b (516 + 20 * k)) && snapSchedOk b 836 s &&
    (decide (f1 b 836 = 1) || (schedTimer s).isSome)

/-- Apply an item 0x0B10 on the tick of the switch (R733). -/
def applyCounterItem (b : List Byte) (s : State) : State :=
  let s1 := forEach (List.range 64) (fun k => applyEvtCfg b (8 * k)) s
  let s2 := forEach (List.range 16) (fun k => applyMonCfg b (516 + 20 * k)) (applyBw (f4 b 512) s1)
  if f1 b 836 = 1 then stopSched s2
  else
    match schedTimer s2 with
    | none => s2
    | some g => startSched g b 836 s2

/-! ### The meanings -/

/-- COUNTERS_GET. -/
def execCountersGet (q : Req) (s : State) : Host.Outcome State Fault Refusal :=
  .next (kmpExec .countersGet q (countersGetBody q) s)

/-- EVENT_COUNTER_SET. -/
def execEventCounterSet (q : Req) (s : State) : Host.Outcome State Fault Refusal :=
  .next (kmpExec .eventCounterSet q (eventCounterSetBody q) s)

/-- SNAPSHOT_TAKE. -/
def execSnapshotTake (q : Req) (s : State) : Host.Outcome State Fault Refusal :=
  .next (kmpExec .snapshotTake q (snapshotTakeBody q) s)

/-- SNAPSHOT_READ. -/
def execSnapshotRead (q : Req) (s : State) : Host.Outcome State Fault Refusal :=
  .next (kmpExec .snapshotRead q (snapshotReadBody q) s)

/-- SNAPSHOT_SCHEDULE_SET. -/
def execSnapshotScheduleSet (q : Req) (s : State) : Host.Outcome State Fault Refusal :=
  .next (kmpExec .snapshotScheduleSet q (snapshotScheduleSetBody q) s)

/-- BW_CONFIG_SET. -/
def execBwConfigSet (q : Req) (s : State) : Host.Outcome State Fault Refusal :=
  .next (kmpExec .bwConfigSet q (bwConfigSetBody q) s)

/-- BW_GET. -/
def execBwGet (q : Req) (s : State) : Host.Outcome State Fault Refusal :=
  .next (kmpExec .bwGet q (bwGetBody q) s)

/-- MONITOR_SET. -/
def execMonitorSet (q : Req) (s : State) : Host.Outcome State Fault Refusal :=
  .next (kmpExec .monitorSet q (monitorSetBody q) s)

/-- MONITOR_GET. -/
def execMonitorGet (q : Req) (s : State) : Host.Outcome State Fault Refusal :=
  .next (kmpExec .monitorGet q (monitorGetBody q) s)

/-- LOG_READ. -/
def execLogRead (q : Req) (s : State) : Host.Outcome State Fault Refusal :=
  .next (kmpExec .logRead q (logReadBody q) s)

/-- STRIKE_TALLY_GET. -/
def execStrikeTallyGet (q : Req) (s : State) : Host.Outcome State Fault Refusal :=
  .next (kmpExec .strikeTallyGet q (strikeTallyGetBody q) s)

/-- SNAPSHOT_SCHEDULE_FIRE. -/
def execSnapshotScheduleFire (t : Nat) (s : State) : Host.Outcome State Fault Refusal :=
  .next (snapshotScheduleFireEffect t s)

/-- BW_WINDOW_END. -/
def execBwWindowEnd (t : Nat) (s : State) : Host.Outcome State Fault Refusal :=
  .next (bwWindowEndEffect t s)

/-- MONITOR_WINDOW_END. -/
def execMonitorWindowEnd (t : Nat) (n : Fin 16) (s : State) : Host.Outcome State Fault Refusal :=
  .next (monitorWindowEndEffect t n s)

end Sys2Proof.Machine
end

