-- ==== Sys2Proof/Machine/SupplyOps.lean ====
section
/-! DEFINITION. Machine/SupplyOps.lean: mode, wake and strike settings and reports, the input switch, the thermal cut and the
supply outputs (R22 to R71, R756, R772). -/

namespace Sys2Proof.Machine

open Sys2Proof

/-- HOLD_READY: VHOLD is at least VIN − 0.5 V and the input switch is closed (R24, R71, R772). -/
def holdReady (s : State) : Bool :=
  !s.sw.ovCut && !s.sw.thermalCut && decide (s.sup.mode ≠ .off) && decide (s.sw.landMv ≤ s.sup.vholdMv + 500)

/-- ON threshold of a mode code 1, 2 or 3 (R28). -/
def onMv (n : Nat) (s : State) : Nat :=
  match n with
  | 1 => s.sup.th.watchOn
  | 2 => s.sup.th.keepOn
  | _ => s.sup.th.fullOn

/-- OFF threshold of a mode; Freeze follows Keep's (R28). -/
def offMv (m : Mode) (s : State) : Nat :=
  match m with
  | .off => 0
  | .shelf => 0
  | .watch => s.sup.th.watchOff
  | .keep => s.sup.th.keepOff
  | .freeze => s.sup.th.keepOff
  | .full => s.sup.th.fullOff
  | .span => s.sup.th.fullOff

/-- Hold floor of a mode (R28). -/
def holdFloor (m : Mode) : Nat :=
  match m with
  | .off => 0
  | .shelf => 0
  | .watch => 5200
  | .keep => 7000
  | .freeze => 6300
  | .full => 7500
  | .span => 7500

/-- RIDE_ACTIVE: VIN lies below OFF of the present mode (R52, R66). -/
def rideActive (s : State) : Bool := decide (vinEff s < offMv s.sup.mode s)

/-- FLAGS of MODE_GET. -/
def modeFlags (s : State) : Nat :=
  flags [holdReady s, strikeOpen s, s.sw.ovCut, rideActive s, s.wake.waiting, s.sup.transition.isSome]

/-- MODE_GET. (DEDUCED: log entry 24) -/
def modeGetBody (q : Req) (s : State) : Body :=
  checks [lenIs q 0] (okResp s (enc [(1, s.sup.mode.code), (1, s.sup.target.code), (1, s.sup.lastCause.code), (1, modeFlags s),
    (2, s.sw.landMv), (2, s.sup.vholdMv)] ++ tb10 s.sup.modeSince ++ be 4 s.sup.shedCount))

/-- A field of MODE_CONFIG_SET, where 0 keeps what holds (R59). -/
def orKeep (x old : Nat) : Nat := if x = 0 then old else x

/-- The thresholds after a MODE_CONFIG_SET. -/
def newThresholds (p : List Byte) (t : Thresholds) : Thresholds where
  fullOn := orKeep (f2 p 2) t.fullOn
  fullOff := orKeep (f2 p 4) t.fullOff
  keepOn := orKeep (f2 p 6) t.keepOn
  keepOff := orKeep (f2 p 8) t.keepOff
  watchOn := orKeep (f2 p 10) t.watchOn
  watchOff := orKeep (f2 p 12) t.watchOff

/-- An ON and an OFF threshold beside their defaults (R29). -/
def pairOk (on off dOn dOff : Nat) : Bool :=
  decide (dOn ≤ on) && decide (on ≤ 39000) && decide (dOff ≤ off) && decide (off + 300 ≤ on) && decide (on ≤ off + 5000)

/-- R29. -/
def thresholdsOk (t : Thresholds) : Bool :=
  pairOk t.fullOn t.fullOff 16000 15000 && pairOk t.keepOn t.keepOff 9000 8400 && pairOk t.watchOn t.watchOff 6600 6000 &&
    decide (t.keepOn < t.fullOn) && decide (t.watchOn < t.keepOn)

/-- The keep ports a MODE_CONFIG_SET names. -/
def newKeepPorts (p : List Byte) : List Nat := ((p.drop 20).take (f1 p 19)).map fun b => b.toNat

/-- A keep port as R60 asks. -/
def keepPortOk (s : State) (p : Nat) : Bool := decide (p < 128) && keepPortFit p s && !isTrunk p s

/-- The mode of a TARGET_MODE code. -/
def targetOf (n : Nat) (old : Target) : Target :=
  match n with
  | 1 => .watch
  | 2 => .keep
  | 3 => .full
  | _ => old

/-- In Keep, ports that leave the keep set stop and those that enter it start (R60, R61, R489). -/
def moveKeepPorts (old : List Nat) (s : State) : State :=
  match s.sup.mode with
  | .keep =>
    let s1 := forEach ((formedPorts s).filter fun p => old.contains p && !portRuns p s) (fun p s => stopPort p s) s
    let s2 := setClocks (setDecks (lanesLeaveFull s1))
    forEach ((formedPorts s2).filter fun p => portRuns p s2 && !old.contains p) (fun p s => startPort p s) s2
  | _ => s

/-- Apply a MODE_CONFIG_SET (R59, R61). -/
def setModeConfig (p : List Byte) (s : State) : State :=
  let fl := f1 p 18
  let s1 := { s with sup :=
    { s.sup with
      target := targetOf (f1 p 0) s.sup.target
      th := newThresholds p s.sup.th
      rideMs := orKeep (f2 p 14) s.sup.rideMs
      dwellS := orKeep (f2 p 16) s.sup.dwellS
      holdInShelf := bitOf fl 0
      m0InWatch := bitOf fl 1
      keepPorts := newKeepPorts p } }
  moveKeepPorts s.sup.keepPorts (compareVin s1)

/-- MODE_CONFIG_SET (R29, R59, R60). (DEDUCED: log entry 25) -/
def modeConfigSetBody (q : Req) (s : State) : Body :=
  let p := q.payload
  let ride := orKeep (f2 p 14) s.sup.rideMs
  let dwell := orKeep (f2 p 16) s.sup.dwellS
  checks [lenIs q 28, (decide (f1 p 0 ≤ 3 ∧ f1 p 19 ≤ 8), .badPayload),
      (thresholdsOk (newThresholds p s.sup.th) && decide (1 ≤ ride ∧ ride ≤ 1000 ∧ 1 ≤ dwell ∧ dwell ≤ 3600), .badThreshold),
      ((newKeepPorts p).all (keepPortOk s), .keepPort)]
    (okEmpty (setModeConfig p s))

/-- The present mode configuration, in the layout of MODE_CONFIG_SET. -/
def modeConfig (s : State) : List Byte :=
  let t := s.sup.th
  enc [(1, s.sup.target.code), (1, 0), (2, t.fullOn), (2, t.fullOff), (2, t.keepOn), (2, t.keepOff), (2, t.watchOn), (2, t.watchOff),
    (2, s.sup.rideMs), (2, s.sup.dwellS), (1, flags [s.sup.holdInShelf, s.sup.m0InWatch]), (1, s.sup.keepPorts.length)] ++
  ((s.sup.keepPorts.map fun n => BitVec.ofNat 8 n) ++ List.replicate 8 0xFF).take 8

/-- MODE_CONFIG_GET. -/
def modeConfigGetBody (q : Req) (s : State) : Body := checks [lenIs q 0] (okResp s (modeConfig s))

/-- A mask of field pins names an output (R62). -/
def masksOutput (m : Nat) (s : State) : Bool := (List.range 8).any fun n => bitOf m n && decide ((fioOf n s).mode = 3)

/-- Apply a WAKE_CONFIG_SET payload. -/
def setWakeConfig (p : List Byte) (s : State) : State :=
  { s with wake :=
    { s.wake with
      sources := f1 p 0 % 16
      activeHigh := decide (f1 p 1 = 1)
      riseMask := f1 p 2
      fallMask := f1 p 3 } }

/-- WAKE_CONFIG_SET (R62). (DEDUCED: log entry 25) -/
def wakeConfigSetBody (q : Req) (s : State) : Body :=
  let p := q.payload
  checks [lenIs q 4, (decide (f1 p 1 ≤ 1), .badPayload), (!masksOutput (f1 p 2) s && !masksOutput (f1 p 3) s, .pinBusy)]
    (okEmpty (setWakeConfig p s))

/-- Apply a STRIKE_CONFIG_SET payload; an open window keeps its HOLD_MS (R63). -/
def setStrikeConfig (p : List Byte) (s : State) : State :=
  { s with strike :=
    { s.strike with
      surgeMv := f2 p 0
      slewMv := f2 p 2
      holdMs := f2 p 4
      sources := f1 p 6 % 8 } }

/-- Ranges of STRIKE_CONFIG_SET. -/
def strikeFieldsOk (p : List Byte) : Bool :=
  decide (41000 ≤ f2 p 0 ∧ f2 p 0 ≤ 58000 ∧ 500 ≤ f2 p 2 ∧ f2 p 2 ≤ 20000 ∧ 10 ≤ f2 p 4 ∧ f2 p 4 ≤ 10000)

/-- STRIKE_CONFIG_SET (R63). -/
def strikeConfigSetBody (q : Req) (s : State) : Body :=
  checks [lenIs q 8, (strikeFieldsOk q.payload, .strikeParam)] (okEmpty (setStrikeConfig q.payload s))

/-- STRIKE_STATUS_GET (R52). -/
def strikeStatusGetBody (q : Req) (s : State) : Body :=
  let w := s.strike
  checks [lenIs q 0] (okResp s (enc [(2, w.id), (1, b2n (strikeOpen s)), (1, w.seen)] ++ tb10 w.openedAt ++ tb10 w.endsAt ++
    enc [(2, w.peakMv), (2, w.triggers), (4, w.windows)]))

/-! ### The input switch and the thermal cut (R23, R71, R772) -/

/-- The input switch opens or closes under R23. -/
def switchUnder (cut : Bool) (vin : Nat) (s : State) : State :=
  let s1 := setVin vin s
  if s1.sw.ovCut = cut then s1
  else raise .overvoltage 0 (enc [(1, b2n cut), (2, vin)]) (compareVin { s1 with sw := { s1.sw with ovCut := cut } })

/-- INPUT_SWITCH_OPEN: VIN exceeds 60.0 V (R23). (DESIGN CHOICE: log entry 23; DEDUCED: log entry 22) -/
def inputSwitchOpenEffect (t vin : Nat) (s0 : State) : State :=
  let s := advance t s0
  if abutmentOn s then (if 60000 < vin then switchUnder true vin s else setVin vin s) else s

/-- OVERVOLTAGE_TIMEOUT: VIN has stayed above 41.0 V for 400 ms (R23). (DEDUCED: log entry 22) -/
def overvoltageTimeoutEffect (t vin : Nat) (s0 : State) : State :=
  let s := advance t s0
  if abutmentOn s then (if 41000 < vin then switchUnder true vin s else setVin vin s) else s

/-- INPUT_SWITCH_CLOSE: VIN has stayed below 40.0 V for 1 ms (R23). (DESIGN CHOICE: log entry 23) -/
def inputSwitchCloseEffect (t vin : Nat) (s0 : State) : State :=
  let s := advance t s0
  if abutmentOn s then (if vin < 40000 then switchUnder false vin s else setVin vin s) else s

/-- The thermal cut holds or releases (R772). -/
def thermalSet (cut : Bool) (die : Int) (s : State) : State :=
  if s.sw.thermalCut = cut then s
  else raise .thermalCut 0 ([BitVec.ofNat 8 (b2n cut)] ++ beInt 4 die) (compareVin { s with sw := { s.sw with thermalCut := cut } })

/-- THERMAL_CUT: the die has exceeded 130 °C for 1 ms; its temperature in 0.01 °C. (DESIGN CHOICE: log entry 23; DEDUCED: log entry 22) -/
def thermalCutEffect (t : Nat) (die : Int) (s0 : State) : State :=
  let s := advance t s0
  if abutmentOn s ∧ 13000 < die then thermalSet true die s else s

/-- THERMAL_RELEASE: the die has stayed below 110 °C for 10 s. -/
def thermalReleaseEffect (t : Nat) (die : Int) (s0 : State) : State :=
  let s := advance t s0
  if abutmentOn s ∧ die < 11000 then thermalSet false die s else s

/-! ### Supply outputs (R755, R756) -/

/-- The supply outputs are on: from the start of a Keystone run, and in every mode above Shelf. -/
def vioPowered (s : State) : Bool :=
  match s.sup.mode with
  | .off => false
  | .shelf => s.clk.reference
  | _ => true

/-- EV_VIO_FAULT. -/
def vioEvent (n : Nat) (recovered : Bool) (s : State) : State := raise .vioFault 0 (enc [(1, n), (1, b2n recovered)]) s

/-- A supply output. -/
def vioOf (n : Nat) (s : State) : Vio := Tbl.get {} s.vio n

/-- Set it. -/
def setVio (n : Nat) (x : Vio) (s : State) : State := { s with vio := Tbl.set {} s.vio n x }

/-- VIO_FAULT: an output has stayed in its limit for 10 ms. (DEDUCED: log entry 22) -/
def vioFaultEffect (t : Nat) (n : Fin 3) (s0 : State) : State :=
  let s := advance t s0
  if vioPowered s ∧ (vioOf n s).offAt = none then vioEvent n false (setVio n ⟨some s.elapsed⟩ s) else s

/-- VIO_RETRY: the retry 1 s after the output turned off has held for 10 ms out of limit, or has failed. -/
def vioRetryEffect (t : Nat) (n : Fin 3) (holds : Bool) (s0 : State) : State :=
  let s := advance t s0
  if vioPowered s ∧ heldFor (vioOf n s).offAt nsPerS s.elapsed then
    vioEvent n holds (setVio n ⟨if holds then none else some s.elapsed⟩ s)
  else s

/-! ### The meanings -/

/-- MODE_GET. -/
def execModeGet (q : Req) (s : State) : Host.Outcome State Fault Refusal :=
  .next (kmpExec .modeGet q (modeGetBody q) s)

/-- MODE_CONFIG_SET. -/
def execModeConfigSet (q : Req) (s : State) : Host.Outcome State Fault Refusal :=
  .next (kmpExec .modeConfigSet q (modeConfigSetBody q) s)

/-- MODE_CONFIG_GET. -/
def execModeConfigGet (q : Req) (s : State) : Host.Outcome State Fault Refusal :=
  .next (kmpExec .modeConfigGet q (modeConfigGetBody q) s)

/-- WAKE_CONFIG_SET. -/
def execWakeConfigSet (q : Req) (s : State) : Host.Outcome State Fault Refusal :=
  .next (kmpExec .wakeConfigSet q (wakeConfigSetBody q) s)

/-- STRIKE_CONFIG_SET. -/
def execStrikeConfigSet (q : Req) (s : State) : Host.Outcome State Fault Refusal :=
  .next (kmpExec .strikeConfigSet q (strikeConfigSetBody q) s)

/-- STRIKE_STATUS_GET. -/
def execStrikeStatusGet (q : Req) (s : State) : Host.Outcome State Fault Refusal :=
  .next (kmpExec .strikeStatusGet q (strikeStatusGetBody q) s)

/-- INPUT_SWITCH_OPEN. -/
def execInputSwitchOpen (t : Nat) (vin : Nat) (s : State) : Host.Outcome State Fault Refusal :=
  .next (inputSwitchOpenEffect t vin s)

/-- OVERVOLTAGE_TIMEOUT. -/
def execOvervoltageTimeout (t : Nat) (vin : Nat) (s : State) : Host.Outcome State Fault Refusal :=
  .next (overvoltageTimeoutEffect t vin s)

/-- INPUT_SWITCH_CLOSE. -/
def execInputSwitchClose (t : Nat) (vin : Nat) (s : State) : Host.Outcome State Fault Refusal :=
  .next (inputSwitchCloseEffect t vin s)

/-- THERMAL_CUT. -/
def execThermalCut (t : Nat) (die : Int) (s : State) : Host.Outcome State Fault Refusal :=
  .next (thermalCutEffect t die s)

/-- THERMAL_RELEASE. -/
def execThermalRelease (t : Nat) (die : Int) (s : State) : Host.Outcome State Fault Refusal :=
  .next (thermalReleaseEffect t die s)

/-- VIO_FAULT. -/
def execVioFault (t : Nat) (n : Fin 3) (s : State) : Host.Outcome State Fault Refusal :=
  .next (vioFaultEffect t n s)

/-- VIO_RETRY. -/
def execVioRetry (t : Nat) (n : Fin 3) (holds : Bool) (s : State) : Host.Outcome State Fault Refusal :=
  .next (vioRetryEffect t n holds s)

end Sys2Proof.Machine
end

