-- ==== Sys2Proof/Machine/Stage.lean ====
section
/-! DEFINITION. Machine/Stage.lean: stages, their checks, commits and what a record's items apply (R186 to R195, R203, R204, R395 to
R398, R454, R455, R553, R554). -/

namespace Sys2Proof.Machine

open Sys2Proof

/-! ### Items (R395) -/

/-- An item type of R203: the types that the chapters define. -/
def itemTypeOk (t : Nat) : Bool :=
  [0x0410, 0x0411, 0x0510, 0x0511, 0x0512, 0x0610, 0x0611, 0x0612, 0x0701, 0x0810, 0x0910, 0x0A10, 0x0B10].contains t

/-- Sections of a record: 0 base, 1 keep, 2 full (R124 to R126 and the items' own rules). A setting command's payload belongs to the
base section. -/
def itemSection (t : Nat) : Nat :=
  if [0x0610, 0x0611, 0x0612, 0x0810, 0x0B10].contains t then 1
  else if [0x0410, 0x0411, 0x0510, 0x0511, 0x0512].contains t then 2
  else 0

/-- The body of an item's bytes: what lies between the 16-byte header and the 32-byte tag. -/
def itemBody (b : List Byte) : List Byte := (b.drop 16).take (f4 b 4)

/-- Header fields of an item's bytes: TYPE, FORMAT and BODY_LEN. -/
def itemHeaderOk (t : Nat) (b : List Byte) : Bool :=
  decide (f2 b 0 = t) && decide (f1 b 2 = 1) && decide (b.length = 48 + f4 b 4)

/-- The tag of an item under a key: HMAC-SHA-256 over header and body. (DEDUCED: log entry 76) -/
def itemTagOk (key b : List Byte) : Bool :=
  decide (Sha.hmac256 key (b.take (16 + f4 b 4)) = slice b (16 + f4 b 4) 32)

/-- The payloads of `n` equal parts of `len` bytes from an offset. -/
def parts (b : List Byte) (off len n : Nat) : List (List Byte) := (List.range n).map fun i => slice b (off + len * i) len

/-! ### Settings items -/

/-- Body of an item 0x0411: VLAN count. -/
def fwdVlans (b : List Byte) : Nat := f2 b 144

/-- Offset of the PORT_LEARN_SET payloads. -/
def fwdPortsAt (b : List Byte) : Nat := 148 + 36 * fwdVlans b

/-- An item 0x0411 is well formed (R453, R457, R458). -/
def fwdItemOk (b : List Byte) : Bool :=
  decide (b.length = fwdPortsAt b + 512) && fwdFieldsOk b && ((parts b 148 36 (fwdVlans b)).all vlanOk) &&
    (List.range 128).all fun i => decide (f1 b (fwdPortsAt b + 4 * i) = i)

/-- Apply it. -/
def applyFwdItem (b : List Byte) (s : State) : State :=
  let s1 := forEach (parts b 148 36 (fwdVlans b)) setVlan (setFwd (b.take 144) s)
  forEach (parts b (fwdPortsAt b) 4 128) setPortLearn s1

/-- An item 0x0511 is well formed (R410 to R416). -/
def classItemOk (b : List Byte) : Bool :=
  decide (b.length = 140 + 128 * 48 + 68) && parseCfgOk (parseCfgOf b) && puntOk (b.drop 6284) &&
    (List.range 128).all fun i => decide (f1 b (140 + 48 * i) = i) && portClassOk (slice b (140 + 48 * i) 48)

/-- Apply it. -/
def applyClassItem (b : List Byte) (s : State) : State :=
  let s1 := { s with cls := { s.cls with parse := parseCfgOf b } }
  setPunt (b.drop 6284) (forEach (parts b 140 48 128) setPortClass s1)

/-- An item 0x0512 is well formed (R415). -/
def meterItemOk (b : List Byte) : Bool :=
  decide (b.length = 4 + 20 * f2 b 0) &&
    (parts b 4 20 (f2 b 0)).all fun p => decide (f2 p 0 ≤ 16383) && meterCfgOk (meterCfgOf p)

/-- Apply it. -/
def applyMeterItem (b : List Byte) (s : State) : State :=
  forEach (parts b 4 20 (f2 b 0)) (fun p s => updMeter (f2 p 0) (setMeter (meterCfgOf p)) s) s

/-- An item 0x0610 is well formed (R494). -/
def deckItemOk (b : List Byte) : Bool :=
  decide (b.length = 4 + 8 * f2 b 0) && (parts b 4 8 (f2 b 0)).all fun p => decide (f1 p 0 ≤ 127) && deckQueueOk p

/-- Apply it. -/
def applyDeckItem (b : List Byte) (s : State) : State := forEach (parts b 4 8 (f2 b 0)) setDeckQueue s

/-! ### Search images (R396, R397) -/

/-- Descriptor of a bank in a search image: PROFILE, LIST, RANK, LOAD. -/
def bankDesc (b : List Byte) (k : Nat) : List Byte := slice b (4 * k) 4

/-- The banks that a search image loads. -/
def loadBanks (b : List Byte) : List Nat := (List.range 32).filter fun k => decide (f1 (bankDesc b k) 3 = 1)

/-- The entries of one bank's contents. -/
def imageEntries (units : Nat) (b : List Byte) (off n : Nat) : List (Nat × SEntry) :=
  let w := 10 * units
  (parts b off (4 + 2 * w) n).map fun p =>
    (f2 p 0, { value := field p 4 w, mask := field p (4 + w) w, action := f2 p 2 })

/-- The bank contents of a search image from an offset; none where they do not fill the body. -/
def bankLoads (b : List Byte) : List Nat → Nat → Option (List (Nat × List (Nat × SEntry)))
  | [], off => if off = b.length then some [] else none
  | k :: ks, off =>
    let units := profileUnits (f1 (bankDesc b k) 0)
    let n := f2 b (off + 2)
    let next := off + 4 + n * (4 + 20 * units)
    if b.length < off + 4 ∨ b.length < next ∨ f1 b off ≠ k then none
    else (bankLoads b ks next).map fun l => (k, imageEntries units b (off + 4) n) :: l

/-- The bank contents of a search image. -/
def imageLoads (b : List Byte) : Option (List (Nat × List (Nat × SEntry))) := bankLoads b (loadBanks b) 128

/-- The contents of a loaded bank as a table. (DESIGN CHOICE: log entry 86) -/
def entryTable (l : List (Nat × SEntry)) : Tbl SEntry := l.foldl (fun t e => Tbl.set {} t e.1 e.2) []

/-- The descriptor of a bank is in range. -/
def descOk (d : List Byte) : Bool :=
  decide (f1 d 0 ≤ 4) && decide (f1 d 1 ≤ 3 ∨ f1 d 1 = 0xFF) && decide (f1 d 2 ≤ 31) && decide (f1 d 3 ≤ 1) &&
    (decide (f1 d 1 = 0xFF) || decide (f1 d 0 ≠ 0))

/-- RANK is unique within each list. -/
def ranksUnique (b : List Byte) : Bool :=
  ((((List.range 32).map (bankDesc b)).filter fun d => decide (f1 d 1 ≠ 0xFF)).map fun d => (f1 d 1, f1 d 2)).Nodup

/-- A search image passes R396. -/
def searchImageOk (b : List Byte) (s : State) : Bool :=
  ((List.range 32).all fun k => descOk (bankDesc b k)) && ranksUnique b &&
    ((loadBanks b).all fun k => decide ((bankOf k s).list = 0xFF)) &&
    match imageLoads b with
    | none => false
    | some l => l.all fun x => x.2.all fun e => decide (e.1 < bankEntries (f1 (bankDesc b x.1) 0)) && actionOk e.2.action

/-- Loading begins: the banks are reserved until the switch (R397). -/
def armSearch (b : List Byte) (s : State) : State :=
  forEach ((imageLoads b).getD []) (fun x s =>
    updBank x.1 (fun y => { y with reserved := true, loaded := some (f1 (bankDesc b x.1) 0, entryTable x.2) }) s) s

/-- The lists, ranks, profiles and loaded contents of a search image take over (R398); a change of PROFILE clears a bank. -/
def applySearch (b : List Byte) (s : State) : State :=
  let loads := (imageLoads b).getD []
  forEach (List.range 32) (fun k s =>
    let d := bankDesc b k
    updBank k (fun y =>
      { y with
        profile := f1 d 0
        list := f1 d 1
        rank := f1 d 2
        reserved := false
        loaded := none
        entries :=
          match loads.find? fun x => x.1 == k with
          | some x => entryTable x.2
          | none => if y.profile = f1 d 0 then y.entries else [] }) s) s

/-- A commit is cancelled: the banks it loaded return to profile off (R397). -/
def releaseBanks (s : State) : State :=
  { s with cls := { s.cls with
      loading := false
      bank := (s.cls.bank.map fun b => (b.1, if b.2.reserved then ({} : Bank) else b.2)).filter fun b => decide (b.2 ≠ {}) } }

/-! ### Setting commands in a record -/

/-- A request that carries a payload of a record. -/
def recordReq (p : List Byte) : Req := ⟨0, .uart1, 0, 0, 0, 0, 0, 0, false, p, false⟩

/-- What a command's own definition leaves. -/
def afterBody (b : Body) (s : State) : State :=
  match b with
  | .ok (s1, _) => s1
  | .error _ => s

/-- Item type of the payload of setting command `c` in a base section, which R395 gives no item type: the model's own number.
(DESIGN CHOICE: log entry 82) -/
def settingType (c : Cmd) : Nat := 65536 + c.row.code

/-- Apply the payload of a setting command (R61, R126, R202, R566, R749). (DESIGN CHOICE: log entry 82) -/
def applySetting (t : Nat) (p : List Byte) (s : State) : State :=
  let q := recordReq p
  if t = settingType .modeConfigSet then setModeConfig p s
  else if t = settingType .wakeConfigSet then setWakeConfig p s
  else if t = settingType .strikeConfigSet then setStrikeConfig p s
  else if t = settingType .timeSourceSet then setTimeSources p s
  else if t = settingType .transportConfigSet then setTransports p s
  else if t = settingType .laneConfigSet then afterBody (laneConfigSetBody q s) s
  else if t = settingType .portForm then afterBody (portFormBody q s) s
  else if t = settingType .m0ConfigSet then afterBody (m0ConfigSetBody q s) s
  else if t = settingType .opticsMapSet then afterBody (opticsMapSetBody q s) s
  else if t = settingType .cwLinkSet then afterBody (cwLinkSetBody q s) s
  else if t = settingType .spanConfigSet then afterBody (spanConfigSetBody q s) s
  else if t = settingType .siteLabelSet then { s with boot := { s.boot with label := padTo 64 p } }
  else s

/-- How items come to be applied: at a commit's switch, late or not by so many ns; or as a section is loaded (R126, R128). -/
structure Applying where
  load : Bool
  late : Bool
  lateNs : Nat
deriving DecidableEq, Repr

/-- Apply one item; table images and search images apply with the data plane's tables. (DEDUCED: log entry 80) -/
def applyItem (a : Applying) (i : Item) (s : State) : State :=
  let b := i.data
  if i.typ = 0x0411 then applyFwdItem b s
  else if i.typ = 0x0511 then applyClassItem b s
  else if i.typ = 0x0512 then applyMeterItem b s
  else if i.typ = 0x0610 then applyDeckItem b s
  else if i.typ = 0x0611 then applySchedItem b s
  else if i.typ = 0x0612 then applyGateItem b a.late a.lateNs s
  else if i.typ = 0x0810 then setDramPolicy b s
  else if i.typ = 0x0910 then (if a.load then s else applyKeySet b s)
  else if i.typ = 0x0A10 then applyFieldItem a.load b s
  else if i.typ = 0x0B10 then applyCounterItem b s
  else applySetting i.typ b s

/-- The items of one section that apply to this member. -/
def sectionItems (sec : Nat) (l : List Item) (s : State) : List Item :=
  (itemsFor s.span.cfg.member l).filter fun i => decide (itemSection i.typ = sec)

/-- Apply a section of a record as it is loaded; its key sets restore the slots once (R623). (DEDUCED: log entry 83) -/
def applySection (sec : Nat) (l : List Item) (s : State) : State :=
  let items := sectionItems sec l s
  restoreSlots ((items.filter fun i => decide (i.typ = 0x0910)).map fun i => i.data) (forEach items (applyItem ⟨true, false, 0⟩) s)

/-- The search images of a record, in order. -/
def searchItems (l : List Item) (s : State) : List (List Byte) :=
  ((itemsFor s.span.cfg.member l).filter fun i => decide (i.typ = 0x0510)).map fun i => i.data

/-- Install the search banks of the record in force (R128 step 6). -/
def installSearch (l : List Item) (s : State) : State := forEach (searchItems l s) applySearch s

/-! ### The checks of R189 -/

/-- The record with the stage applied: its items in order. -/
def itemsAfter (new : List Item) (s : State) : List Item := ((recordInForce s).map fun r => r.items).getD [] ++ new

/-- LABEL_BASE after the stage is applied. -/
def labelBaseAfter (l : List Item) (s : State) : Nat :=
  match (itemsFor s.span.cfg.member l).reverse.find? fun i => decide (i.typ = 0x0411) with
  | some i => f4 i.data 4
  | none => s.fwd.labelBase

/-- The key set bodies of the record in force. -/
def baseKeySets (s : State) : List (List Byte) :=
  ((sectionItems 0 (((recordInForce s).map fun r => r.items).getD []) s).filter fun i => decide (i.typ = 0x0910)).map fun i => i.data

/-- The mirrored part of a member's forwarding settings (R550, R553). -/
def fwdPart (member : Nat) (l : List Item) : Option (List Byte) :=
  ((itemsFor member l).reverse.find? fun i => decide (i.typ = 0x0411)).map fun i => i.data.take 144

/-- An item's body passes the checks of its chapter, for this member; `l` is the record with the stage applied. -/
def bodyOk (t : Nat) (b : List Byte) (l : List Item) (s : State) : Bool :=
  if t = 0x0410 then tableImageOk (labelBaseAfter l s) b (itemsFor s.span.cfg.member l) s.fwd.live
  else if t = 0x0411 then fwdItemOk b
  else if t = 0x0510 then searchImageOk b s
  else if t = 0x0511 then classItemOk b
  else if t = 0x0512 then meterItemOk b
  else if t = 0x0610 then deckItemOk b
  else if t = 0x0611 then schedItemOk b
  else if t = 0x0612 then gateItemOk b s
  else if t = 0x0810 then decide (b.length = 16) && dramPolicyOk b
  else if t = 0x0910 then keySetOk b (generationOf (baseKeySets s)) s
  else if t = 0x0A10 then fieldItemOk b s
  else if t = 0x0B10 then counterItemOk b s
  else false

/-- A wrapped item passes (R553, R625): it is of a per-member type; one for this member has a good tag and passes its own checks, and
that of the partner is checked there. (DEDUCED: log entry 79) -/
def memberOk (b : List Byte) (l : List Item) (s : State) : Bool :=
  let w := b.drop 4
  let t := f2 w 0
  let perMember := decide (t ≠ 0x0701) && itemTypeOk t && (decide (t ≠ 0x0410) || decide (f1 (itemBody w) 0 = 7))
  decide (f1 b 0 ≤ 1) && itemHeaderOk t w && perMember &&
    (decide (f1 b 0 ≠ s.span.cfg.member) ||
      ((slotKey (f1 w 3) 1 s).any fun k => itemTagOk k w) && (decide (t ≠ 0x0910) || decide (f1 w 3 = 0)) && bodyOk t (itemBody w) l s)

/-- A stage item passes the checks of its chapter (R189); BASE_SEQUENCE is the stage's. -/
def stageItemOk (base : Nat) (x : StageItem) (l : List Item) (s : State) : Bool :=
  let b := itemBody x.data
  decide (f4 x.data 8 = base) &&
    if x.typ = 0x0701 then memberOk b l s && decide (fwdPart 0 l = fwdPart 1 l)
    else if x.typ = 0x0910 then decide (f1 x.data 3 = 0) && !spanJoined s && bodyOk x.typ b l s
    else bodyOk x.typ b l s

/-- The items of a stage, bodies alone. -/
def stageItems (g : Stage) : List Item := g.items.map fun x => ⟨x.typ, itemBody x.data⟩

/-- The state STAGE_VERIFY reports for an item: its own, or check failed. (DEDUCED: log entry 77) -/
def itemReport (whole : Bool) (g : Stage) (s : State) (x : StageItem) : ItemState :=
  match x.state with
  | .verified => if !whole || stageItemOk g.base x (itemsAfter (stageItems g) s) s then .verified else .checkFailed
  | y => y

/-- The reports of all items; the checks run once every item is verified. -/
def stageReports (g : Stage) (s : State) : List ItemState :=
  g.items.map (itemReport (g.items.all fun x => decide (x.state = .verified)) g s)

/-! ### Commands -/

/-- The open stage of a number. -/
def stageOf (id : Nat) (s : State) : Option Stage := s.kmp.stage.filter fun g => decide (g.id = id)

/-- Set the stage. -/
def setStageState (g : Option Stage) (s : State) : State := { s with kmp := { s.kmp with stage := g } }

/-- STAGE_OPEN (R186, R197, R203). -/
def stageOpenBody (q : Req) (s : State) : Body :=
  let p := q.payload
  let n := f1 p 8
  let l := parts p 12 8 n
  checks [(decide (12 ≤ p.length ∧ p.length = 12 + 8 * n ∧ 1 ≤ n ∧ n ≤ 32 ∧ f4 p 0 ≠ 0), .badPayload),
      (s.kmp.stage.isNone, .stageOpen), (l.all fun x => itemTypeOk (f2 x 0), .stageItem),
      (decide ((l.map fun x => f4 x 4).sum ≤ 524288), .stageSize)]
    (okEmpty (setStageState (some ⟨f4 p 0, f4 p 4, l.map fun x => ⟨f2 x 0, f4 x 4, [], .incomplete, none⟩, .opened⟩) s))

/-- An item after more of its bytes: the key of its KEY_SLOT is taken as that byte arrives (R632), and the last byte brings the
verdict (R188). (DEDUCED: log entry 76) -/
def writeItem (d : List Byte) (s : State) (x : StageItem) : StageItem :=
  let key := if x.data.length < 4 ∧ 4 ≤ d.length then slotKey (f1 d 3) 1 s else x.key
  let state :=
    if d.length < x.length then .incomplete
    else if itemHeaderOk x.typ d && key.any fun k => itemTagOk k d then .verified
    else .failed
  { x with data := d, key := key, state := state }

/-- The bytes of an item after a chunk (R187): none where the chunk is refused. (DEDUCED: log entry 78) -/
def chunkInto (off : Nat) (d : List Byte) (x : StageItem) : Option (List Byte) :=
  if off = 0 ∧ x.state = .failed then some d
  else if off + d.length ≤ x.data.length ∧ slice x.data off d.length = d then some x.data
  else if off = x.data.length then some (x.data ++ d)
  else none

/-- An accepted chunk: the stage is no longer verified (R190), and an item that it completes is reported (R188). -/
def stageWritten (g : Stage) (n reqId : Nat) (x : StageItem) (d : List Byte) (s : State) : State :=
  let y := if d = x.data ∧ x.state ≠ .failed then x else writeItem d s { x with data := if d.length < x.data.length then [] else x.data }
  let s1 := setStageState (some { g with items := g.items.set n y, phase := .opened }) s
  if y.state = .incomplete ∨ y = x then s1
  else
    raise .stageItem reqId (enc [(4, g.id), (1, n), (1, y.state.code)]) (if y.key.isSome then countCompare (decide (y.state = .verified)) s1 else s1)

/-- STAGE_WRITE (R187, R188). (DEDUCED: log entry 78) -/
def stageWriteBody (q : Req) (s : State) : Body :=
  let p := q.payload
  let len := f2 p 6
  let d := p.drop 12
  checks [(decide (p.length = 12 + len ∧ 1 ≤ len ∧ len ≤ 1268), .badPayload), ((stageOf (f4 p 0) s).isSome, .stageNone)] <|
    match stageOf (f4 p 0) s with
    | none => .error .stageNone
    | some g =>
      match g.items[f1 p 4]? with
      | none => .error .badPayload
      | some x =>
        checks [(decide (g.phase ≠ .building), .commitPending), (decide (f4 p 8 + len ≤ x.length), .badPayload)] <|
          match chunkInto (f4 p 8) d x with
          | none => .error .stageOffset
          | some y => okEmpty (stageWritten g (f1 p 4) q.requestId x y s)

/-- RESULT of STAGE_VERIFY by the report of the first item that does not pass. (DEDUCED: log entry 77) -/
def verifyResult : Option ItemState → Nat
  | none => 0
  | some .incomplete => 1
  | some .failed => 2
  | some .checkFailed => 3
  | some .verified => 0

/-- STAGE_VERIFY (R189). (DEDUCED: log entry 77) -/
def stageVerifyBody (q : Req) (s : State) : Body :=
  checks [lenIs q 4, ((stageOf (f4 q.payload 0) s).isSome, .stageNone)] <|
    match stageOf (f4 q.payload 0) s with
    | none => .error .stageNone
    | some g =>
      let l := stageReports g s
      let bad := l.findIdx? fun x => decide (x ≠ .verified)
      let phase := if g.phase = .building then g.phase else if bad.isNone then .verified else .opened
      okResp (setStageState (some { g with phase := phase }) s)
        (enc [(1, verifyResult (bad.bind fun i => l[i]?)), (1, bad.getD 0xFF), (2, 0)] ++
          (l.map (fun (x : ItemState) => (BitVec.ofNat 8 x.code : Byte)) ++ List.replicate 32 0xFF).take 32)

/-- The slot a commit writes: the one that does not hold the record in force (R191). (DEDUCED: log entries 81, 87) -/
def targetSlot (s : State) : Nat :=
  match s.boot.slot with
  | some 0 => 1
  | _ => 0

/-- A commit begins: the record is built in its slot (R191, R208); in Span the partner builds its own (R554). (DEDUCED: log entry 81) -/
def beginCommit (g : Stage) (reqId epoch : Nat) (s : State) : State :=
  let n := targetSlot s
  let c : Commit :=
    { stageId := g.id, requestId := reqId, sequence := inc32 (sequenceInForce s), epoch := epoch, slot := n, items := stageItems g,
      order := s.kmp.acceptCount }
  let s1 := setSlotRecord n none (flashErase (slotBase n) slotSize s)
  let s2 := { s1 with kmp :=
    { s1.kmp with
      building := some c
      built := false
      partnerBuilt := false
      acceptCount := s.kmp.acceptCount + 1
      stage := some { g with phase := .building } } }
  if spanLeads s2 then relayMsg (.stage g.id reqId epoch (c.items.map fun i => (i.typ, i.data))) s2 else s2

/-- STAGE_COMMIT (R190). -/
def stageCommitBody (q : Req) (s : State) : Body :=
  let p := q.payload
  let epoch := tbField p 4
  checks [lenIs q 16, ((stageOf (f4 p 0) s).isSome, .stageNone), (tbFieldOk p 4, .badPayload)] <|
    match stageOf (f4 p 0) s with
    | none => .error .stageNone
    | some g =>
      checks [(decide (g.phase ≠ .opened), .stageUnverified), (decide (g.base = sequenceInForce s), .stageBase),
          (s.kmp.building.isNone && s.kmp.committed.isNone, .commitPending),
          (decide (epoch = 0 ∨ s.tb.now < epoch), .epochPast)]
        (okResp (beginCommit g q.requestId epoch s) (enc [(4, inc32 (sequenceInForce s)), (4, 0)]))

/-- The epoch has been reached (R95). (DEDUCED: log entry 85) -/
def epochReached (e : Nat) (s : State) : Bool :=
  decide (s.tb.quality ≠ .unset) && decide (tickNs s.sup.mode ≠ 0) && decide (e ≤ s.tb.now)

/-- The commit is to take effect: on completion with EPOCH 0, else when its epoch is reached (R192). (DEDUCED: log entry 84) -/
def commitDue (c : Commit) (s : State) : Bool :=
  if c.onCompletion then decide (tickNs s.sup.mode ≠ 0) else epochReached c.epoch s

/-- A commit is pending no more without its switch. -/
def dropPending (s : State) : State :=
  let s1 := disarmGates (releaseBanks s)
  { s1 with
    kmp := { s1.kmp with committed := none }
    fwd := { s1.fwd with pend := none, pendSlots := [], loading := false } }

/-- The leader tells its partner that a Span-wide commit has come to nothing (R553, R554). (DEDUCED: log entry 225) -/
def tellPartner (s : State) : State := if spanLeads s then relayMsg (.stageDone false) s else s

/-- COMMIT_CANCEL (R194, R553). -/
def commitCancelBody (q : Req) (s : State) : Body :=
  checks [lenIs q 4] <|
    match s.kmp.committed with
    | none => .error .commitNone
    | some c =>
      checks [(decide (c.stageId = f4 q.payload 0) && !commitDue c s, .commitNone)]
        (okEmpty (raise .commitCancelled q.requestId (enc [(4, c.stageId), (4, c.sequence)])
          (tellPartner (dropPending (killRecord c.slot { s with boot := { s.boot with held := none } })))))

/-- STAGE_CANCEL (R204). -/
def stageCancelBody (q : Req) (s : State) : Body :=
  checks [lenIs q 4, ((stageOf (f4 q.payload 0) s).isSome, .stageNone),
      (!((stageOf (f4 q.payload 0) s).any fun g => decide (g.phase = .building)), .commitPending)]
    (okEmpty (setStageState none s))

/-! ### Commits (R191, R192, R398, R454, R455) -/

/-- Items of a commit that apply to this member. (DEDUCED: log entry 80) -/
def commitItems (c : Commit) (s : State) : List Item := itemsFor s.span.cfg.member c.items

/-- The commit has table images. -/
def hasTables (c : Commit) (s : State) : Bool := (commitItems c s).any fun i => decide (i.typ = 0x0410)

/-- The commit loads search banks. -/
def hasLoads (c : Commit) (s : State) : Bool := (commitItems c s).any fun i => decide (i.typ = 0x0510) && !(loadBanks i.data).isEmpty

/-- The items of the record a commit has built. -/
def recordItems (c : Commit) (s : State) : List Item := ((slotRecord c.slot s).map fun r => r.items).getD []

/-- Tables of the record a commit has built, beside the live ones: those of Keep in Keep (R466). (DESIGN CHOICE: log entry 86) -/
def tablesAfter (c : Commit) (s : State) : Tables :=
  buildTables (decide (s.sup.mode = .keep)) (labelBaseAfter (recordItems c s) s) (itemsFor s.span.cfg.member (recordItems c s)) s.fwd.live

/-- Loading starts as a commit is armed, while the data plane runs (R397, R454). -/
def startLoads (c : Commit) (s : State) : State :=
  if dataPlaneMode s.sup.mode then
    let s1 := forEach (searchItems c.items s) armSearch { s with cls := { s.cls with loading := hasLoads c s } }
    if hasTables c s then
      { s1 with fwd :=
        { s1.fwd with
          pend := some (tablesAfter c s)
          pendSlots := pendingSlots (itemsFor s.span.cfg.member (recordItems c s)) s.fwd.live
          loading := true } }
    else s1
  else s

/-- Gate lists of a commit are pending on their ports until the switch (R516). -/
def armGates (c : Commit) (s : State) : State :=
  forEach ((commitItems c s).filter fun i => decide (i.typ = 0x0612)) (fun i s => armGateItem i.data c.epoch s) s

/-- Tables of the switch (R455): the live generation of every table changes. -/
def switchTables (c : Commit) (s : State) : State :=
  let s1 :=
    if dataPlaneMode s.sup.mode ∧ hasTables c s then
      { s with fwd := { s.fwd with live := tablesAfter c s, gen := !s.fwd.gen } }
    else s
  { s1 with fwd := { s1.fwd with pend := none, pendSlots := [], loading := false } }

/-- What a commit changes: in Watch and Freeze its base section alone; the rest waits until the data plane starts (R192). -/
def switchedItems (c : Commit) (s : State) : List Item :=
  (commitItems c s).filter fun i => dataPlaneMode s.sup.mode || decide (itemSection i.typ = 0)

/-- The leader restarts a sync from its new record (R571). -/
def resyncAfter (s : State) : State :=
  if s.span.state = .sync ∧ s.span.role = .leader then sendVc0 (.sync (syncItems (fwdBytes s) s)) s else s

/-- EV_COMMIT_DONE: FLAGS bit 0 LATE, 1 EARLY; ns late. (DEDUCED: log entry 85) -/
def commitDone (c : Commit) (late early : Bool) (lateNs : Nat) (s : State) : State :=
  raise .commitDone c.requestId (enc [(4, c.stageId), (4, c.sequence), (1, flags [late, early]), (8, lateNs)]) s

/-- A pending commit takes effect (R192, R398, R455): one tick for everything. (DEDUCED: log entries 84, 88) -/
def switchCommit (c : Commit) (late : Bool) (lateNs : Nat) (s : State) : State :=
  let r0 := setSlotRecord c.slot ((slotRecord c.slot s).map fun r => { r with effective := true }) s
  let s1 := { r0 with
    boot := { r0.boot with slot := some c.slot, held := none }
    kmp := { s.kmp with committed := none }
    span := { s.span with spanPorts := s.span.spanPorts && spanJoined s }
    cls := { s.cls with loading := false } }
  let searches := if dataPlaneMode s.sup.mode then searchItems c.items s1 else []
  let s2 := forEach searches applySearch (switchTables c s1)
  let s3 := forEach (switchedItems c s1) (applyItem ⟨false, late, lateNs⟩) s2
  resyncAfter (commitDone c late false lateNs (if dataPlaneMode s.sup.mode then s3 else disarmGates s3))

/-- The loads of the pending commit have ended. -/
def loadsDone (s : State) : Bool := !s.cls.loading && !s.fwd.loading

/-- The switch of the pending commit, where its epoch is reached, its loads have ended and the core that serves KMP arms it (R192, R398,
R692, R693). `tick` says that this is the tick on which the epoch is reached. (DEDUCED: log entry 88) -/
def trySwitch (tick : Bool) (s : State) : State :=
  match s.kmp.committed with
  | none => s
  | some c =>
    let duty := !kmpHalted s && !kmpHaltPends s
    if commitDue c s ∧ loadsDone s ∧ duty then
      let late := !c.onCompletion && (!tick || decide (c.epoch + tickNs s.sup.mode ≤ s.tb.now))
      switchCommit c late (if late then s.tb.now - c.epoch else 0) s
    else s

/-- The first whole millisecond at least 10 ms from now: the epoch of a Span commit with EPOCH 0 (R554). -/
def spanEpoch (s : State) : Nat := nextMultiple (msNs 1) (s.tb.now + msNs 10)

/-- The record is complete in its slot and the commit is pending (R191); EPOCH 0 takes effect on completion. `shown` is the
EFFECTIVE_EPOCH. -/
def armCommit (c : Commit) (shown : Nat) (s : State) : State :=
  let c1 := { c with epoch := if shown = 0 then s.tb.now else shown, onCompletion := decide (shown = 0) }
  let r : Record := ⟨c.sequence, c.stageId, c.requestId, shown, itemsAfter c.items s, false⟩
  let s1 := setSlotRecord c.slot (some r) s
  let s2 := { s1 with kmp := { s1.kmp with building := none, built := false, partnerBuilt := false, committed := some c1, stage := none } }
  let s3 := raiseIf (!spanFollows s) .commitArmed c.requestId (enc [(4, c.stageId), (4, c.sequence)] ++ tb10 shown) s2
  trySwitch (decide (shown = 0)) (armGates c1 (startLoads c1 s3))

/-- Both members' records are complete: the leader arms the commit on both (R554). -/
def armBoth (c : Commit) (s : State) : State :=
  let e := if c.epoch = 0 then spanEpoch s else c.epoch
  armCommit c e (relayMsg (.stage c.stageId c.requestId e []) s)

/-- A build fails in flash (R212, R554): the record in force stays, the stage is verified again. -/
def commitFailed (c : Commit) (s : State) : State :=
  let s1 := { s with kmp :=
    { s.kmp with
      building := none, built := false, partnerBuilt := false
      stage := s.kmp.stage.map fun g => { g with phase := .verified } } }
  if spanFollows s then relayMsg (.stageDone false) { s1 with kmp := { s1.kmp with stage := none } }
  else raise .commitFailed c.requestId (enc [(4, c.stageId), (1, 0)]) (tellPartner s1)

/-- The module's own build is complete (R191, R554). -/
def buildDone (c : Commit) (s : State) : State :=
  let s1 := { s with kmp := { s.kmp with built := true } }
  if spanFollows s then relayMsg (.stageDone true) s1
  else if spanLeads s then (if s.kmp.partnerBuilt then armBoth c s1 else s1)
  else armCommit c c.epoch s1

/-- COMMIT_ARMED: the build of the record ends, well or not; it is the work of the core that serves KMP (R191, R212, R679). -/
def commitArmedEffect (t : Nat) (good : Bool) (s0 : State) : State :=
  let s := advance t s0
  match s.kmp.building with
  | none => s
  | some c =>
    if kmpHalted s then s
    else if good then buildDone c s
    else commitFailed c s

/-- EPOCH_REACHED: the pending commit's epoch is reached (R95, R192); a section that fails its tag as it is loaded for the switch
keeps the record in force (R213). -/
def epochReachedEffect (t : Nat) (tagsGood : Bool) (s0 : State) : State :=
  let s := advance t s0
  match s.kmp.committed with
  | none => s
  | some c =>
    if tagsGood then trySwitch true s
    else if commitDue c s then
      raise .commitFailed c.requestId (enc [(4, c.stageId), (1, 1)])
        (dropPending (killRecord c.slot { s with boot := { s.boot with held := none } }))
    else s

/-- SEARCH_LOADED (R397). -/
def searchLoadedEffect (t : Nat) (s0 : State) : State :=
  let s := advance t s0
  match s.kmp.committed with
  | none => s
  | some c =>
    if s.cls.loading then
      let banks := (searchItems c.items s).flatMap loadBanks
      trySwitch false
        (raise .searchLoaded 0 (enc [(4, c.stageId), (4, flags ((List.range 32).map fun k => banks.contains k))])
          { s with cls := { s.cls with loading := false } })
    else s

/-- EV_TABLE_LOADED (R454): the map has bit TABLE − 1 for each table. -/
def tableLoadedEffect (t : Nat) (s0 : State) : State :=
  let s := advance t s0
  match s.kmp.committed with
  | none => s
  | some c =>
    if s.fwd.loading then
      let tables := ((commitItems c s).filter fun i => decide (i.typ = 0x0410)).map fun i => f1 i.data 0
      trySwitch false
        (raise .tableLoaded 0 (enc [(4, c.stageId), (1, flags ((List.range 8).map fun k => tables.contains (k + 1)))])
          { s with fwd := { s.fwd with loading := false } })
    else s

/-! ### The meanings -/

/-- STAGE_OPEN. -/
def execStageOpen (q : Req) (s : State) : Host.Outcome State Fault Refusal :=
  .next (kmpExec .stageOpen q (stageOpenBody q) s)

/-- STAGE_WRITE. -/
def execStageWrite (q : Req) (s : State) : Host.Outcome State Fault Refusal :=
  .next (kmpExec .stageWrite q (stageWriteBody q) s)

/-- STAGE_VERIFY. -/
def execStageVerify (q : Req) (s : State) : Host.Outcome State Fault Refusal :=
  .next (kmpExec .stageVerify q (stageVerifyBody q) s)

/-- STAGE_COMMIT. -/
def execStageCommit (q : Req) (s : State) : Host.Outcome State Fault Refusal :=
  .next (kmpExec .stageCommit q (stageCommitBody q) s)

/-- COMMIT_CANCEL. -/
def execCommitCancel (q : Req) (s : State) : Host.Outcome State Fault Refusal :=
  .next (kmpExec .commitCancel q (commitCancelBody q) s)

/-- STAGE_CANCEL. -/
def execStageCancel (q : Req) (s : State) : Host.Outcome State Fault Refusal :=
  .next (kmpExec .stageCancel q (stageCancelBody q) s)

/-- COMMIT_ARMED. -/
def execCommitArmed (t : Nat) (good : Bool) (s : State) : Host.Outcome State Fault Refusal :=
  .next (commitArmedEffect t good s)

/-- EPOCH_REACHED. -/
def execEpochReached (t : Nat) (tagsGood : Bool) (s : State) : Host.Outcome State Fault Refusal :=
  .next (epochReachedEffect t tagsGood s)

/-- SEARCH_LOADED. -/
def execSearchLoaded (t : Nat) (s : State) : Host.Outcome State Fault Refusal :=
  .next (searchLoadedEffect t s)

/-- EV_TABLE_LOADED. -/
def execEvTableLoaded (t : Nat) (s : State) : Host.Outcome State Fault Refusal :=
  .next (tableLoadedEffect t s)

end Sys2Proof.Machine
end

