-- ==== Sys2Proof/Machine/Modes.lean ====
section
/-! DEFINITION. Machine/Modes.lean: the steps of a mode change down and up, and what completes them (R33 to R51, R53 to R58, R66 to
R70, R128 to R130, R142, R144, R145, R604). -/

namespace Sys2Proof.Machine

open Sys2Proof

/-! ### Order of the modes -/

/-- Place of a mode in the order of shedding: Span counts as Full (R58). -/
def rank : Mode → Nat
  | .off => 0
  | .shelf => 0
  | .watch => 1
  | .keep => 2
  | .full => 3
  | .span => 3
  | .freeze => 2

/-- The mode of a MODE_SET code 0 to 3. -/
def modeOfCode (n : Nat) : Mode :=
  match n with
  | 0 => .shelf
  | 1 => .watch
  | 2 => .keep
  | _ => .full

/-- The mode one step down (R48). -/
def downOf : Mode → Mode
  | .span => .full
  | .full => .keep
  | .keep => .watch
  | .freeze => .watch
  | .watch => .shelf
  | .shelf => .shelf
  | .off => .off

/-- A climb (R128). -/
def isClimb (x : Transition) : Bool :=
  (decide (x.dst = .keep) && decide (x.src = .watch)) || (decide (x.dst = .full) && decide (x.src = .watch ∨ x.src = .keep))

/-- The climb under way. -/
def climbOf (s : State) : Option Transition := s.sup.transition.filter isClimb

/-- A Keystone run, or the load of the base section after it, is in progress: nothing else of a mode goes on. -/
def bootRuns (s : State) : Bool := s.boot.awaitConfig || decide (s.sup.mode = .shelf)

/-- The items of the record in force. -/
def itemsInForce (s : State) : List Item := ((recordInForce s).map fun r => r.items).getD []

/-- Change the transition. -/
def setTransition (x : Option Transition) (s : State) : State := { s with sup := { s.sup with transition := x } }

/-- EV_MODE_REFUSED (R64). -/
def modeRefused (m : Mode) (reqId : Nat) (s : State) : State :=
  raise .modeRefused reqId (enc [(1, m.code), (2, s.sw.landMv)]) s

/-! ### Steps down -/

/-- A shedding step is counted, starts the dwell time and is reported (R35, R37, R64). -/
def shedDone (old new : Mode) (c : Cause) (s : State) : State :=
  raise .modeShed 0 (enc [(1, old.code), (1, new.code), (1, c.code), (2, s.sw.landMv), (2, s.sup.vholdMv)])
    { s with sup := { s.sup with shedCount := inc32 s.sup.shedCount, dwellFrom := some s.elapsed } }

/-- A step down is reported: by command, or as a shed. -/
def stepReported (old new : Mode) (c : Cause) (reqId : Nat) (s : State) : State :=
  match c with
  | .command => modeChanged old new c reqId s
  | _ => shedDone old new c s

/-- The join is left for a lower mode (R58, R563). (DEDUCED: log entry 216) -/
def leaveSpan (c : Cause) (reqId : Nat) (s : State) : State :=
  let s1 := leaveJoin 0 false s
  stepReported .span .full c reqId { s1 with sup := { s1.sup with lastCause := c } }

/-- A step down begins; that from Span to Full is at once complete (R33, R49). -/
def startDown (c : Cause) (reqId : Nat) (s : State) : State :=
  match s.sup.mode with
  | .span => leaveSpan c reqId s
  | .full => startTransition .keep c reqId (leaveJoin 0 false s)
  | .keep => startTransition .watch c reqId s
  | .freeze => startTransition .watch c reqId s
  | .watch => startTransition .shelf c reqId s
  | .shelf => s
  | .off => s

/-- The pending generation is written anew for the tables of the new mode (R454, R466). -/
def reloadPending (s : State) : State :=
  match s.kmp.committed with
  | none => s
  | some c => startLoads c s

/-- Shelf: the time base stops, the pins are released, what lived in the powered logic is lost, and the Abutment keeps what R74 lists
(R25, R74, R80, R195, R770). (DEDUCED: log entry 26) -/
def enterShelf (c : Cause) (s : State) : State :=
  let q := s.tb.quality.code
  let s1 := closeDebug 2 0 { s with dbg := { s.dbg with held := [] } }
  let s2 := enterMode .shelf c (loseVolatile (releasePins (stopTimeBase s1)))
  let b := s2.boot
  setClocks { s2 with
    vio := []
    dbg := {}
    wake := { s2.wake with waiting := false, modeBefore := .watch, byShed := decide (c ≠ .command), qualityAtShelf := q }
    boot := { b with
      awaitConfig := false, controlUp := false, preloaded := false, loading := none, slot := none, stage := .keystone
      recovery := false, held := none }
    sup := { s2.sup with deferred := none, freezeTrigger := none } }

/-- The control core stops and the PCIe link goes to electrical idle: the module is in Watch (R242, R679). -/
def controlStops (s : State) : State :=
  setStage .watch (writeCoreFlag false s.host.quiesced (hostLinkDown { s with boot := { s.boot with controlUp := false } }))

/-- A step down is complete: MODE shows the new mode (R48, R51). -/
def completeDown (x : Transition) (s : State) : State :=
  match x.dst with
  | .keep =>
    let s1 := reloadPending (planeToKeep (itemsInForce s) (enterMode .keep x.cause s))
    stepReported x.src .keep x.cause x.reqId s1
  | .watch =>
    if x.src = .freeze then
      let s1 := controlStops (planeLeavesFreeze (enterMode .watch x.cause s))
      let s2 := raiseIf (decide (x.cause ≠ .command)) .freezeLost 0 (enc [(1, x.cause.code)]) s1
      stepReported .freeze .watch x.cause x.reqId s2
    else
      stepReported x.src .watch x.cause x.reqId (controlStops (planeToWatch (enterMode .watch x.cause s)))
  | _ => enterShelf x.cause (stepReported .watch .shelf x.cause x.reqId s)

/-- Freeze is entered (R48). -/
def completeFreeze (x : Transition) (s : State) : State :=
  modeChanged x.src .freeze x.cause x.reqId (planeToFreeze (enterMode .freeze x.cause s))

/-! ### Steps up (R128 to R130) -/

/-- The DRAM channels that a climb trains (R128 steps 1 and 4). -/
def climbChannels (x : Transition) : List Nat :=
  if x.dst = .keep then [0] else if x.src = .keep then [1, 2, 3] else [0, 1, 2, 3]

/-- A climb ends without its mode: what it started stops again (R39, R144). -/
def undoClimb (x : Transition) (s : State) : State :=
  let s1 := setTransition none { s with
    sup := { s.sup with deferred := none }
    boot := { s.boot with streamedKeep := false, streamedFull := false } }
  if x.src = .watch then setClocks (channelsOff [0, 1, 2, 3] (controlStops s1))
  else setStage .running (setClocks (channelsOff [1, 2, 3] s1))

/-- A climb is abandoned (R39). -/
def abandonClimb (x : Transition) (s : State) : State := modeRefused x.dst x.reqId (undoClimb x s)

/-- A climb that is under way is abandoned. -/
def endClimb (s : State) : State :=
  match climbOf s with
  | none => s
  | some x => abandonClimb x s

/-- A climb begins (R37, R128). -/
def startClimb (dst : Mode) (c : Cause) (reqId : Nat) (s : State) : State :=
  setStage .clocks (startTransition dst c reqId { s with boot := { s.boot with streamedKeep := false, streamedFull := false } })

/-- The next step of a climb begins. -/
def climbTo (n : Nat) (g : BootStage) (s : State) : State :=
  setStage g { s with sup := { s.sup with transition := s.sup.transition.map fun x => { x with climbStep := n } } }

/-- A channel of the climb has been trained, or failed. -/
def trainedAll (x : Transition) (s : State) : Bool :=
  (climbChannels x).all fun c => decide ((chan c s).state ≠ .off ∧ (chan c s).state ≠ .training)

/-- Sections that the climb needs have been streamed; without a record in force there are none. (DEDUCED: log entry 36) -/
def streamedAll (x : Transition) (s : State) : Bool :=
  s.boot.slot.isNone ||
    ((s.boot.streamedKeep || decide (x.src = .keep)) && (s.boot.streamedFull || decide (x.dst = .keep)))

/-- The climb goes on to what its next step is. -/
def climbOn (s : State) : State :=
  match climbOf s with
  | none => s
  | some x =>
    let s1 := if x.climbStep = 1 ∧ trainedAll x s then climbTo 2 .streaming s else s
    match climbOf s1 with
    | none => s1
    | some y => if y.climbStep = 2 ∧ streamedAll y s1 then climbTo 3 .installing s1 else s1

/-- A channel fails its training, or shows an error it must not in steps 4 to 6 (R144, R604). -/
def trainingFailed (c : Nat) (x : Transition) (s : State) : State :=
  let s1 := updChan c chOff s
  let s2 := { s1 with sup := { s1.sup with dwellFrom := some s.elapsed } }
  if c = 0 then abandonClimb x s2
  else
    if x.src = .watch ∧ s.sup.th.keepOn ≤ vinEff s then
      climbOn (modeRefused .full x.reqId (channelsOff [1, 2, 3] (setTransition (some { x with dst := .keep }) s2)))
    else abandonClimb x s2

/-- The control core starts in a climb from Watch (R128 step 3). -/
def controlStarts (s : State) : State :=
  if s.boot.controlUp then s
  else
    writeCoreFlag true s.host.quiesced { s with
      boot := { s.boot with controlUp := true }
      host := { s.host with fwStarts := s.host.fwStarts + 1 } }

/-- The clocks of a climb run and the control core starts (R77, R128 steps 1 to 3). -/
def clocksRun (x : Transition) (s : State) : State :=
  let k := s.clk
  climbTo 1 .training (controlStarts { s with
    clk :=
      { k with
        corePll := true
        pipePll := true
        timePll := true
        dramPlls := climbChannels x ++ k.dramPlls.filter fun c => !(climbChannels x).contains c }
    boot := { s.boot with preloaded := true } })

/-- CLOCKS_LOCKED: the clocks of a climb are locked. Before the control core starts from Watch, the engine digests the copy of its
segment in shared SRAM again, with `copyOk` its verdict; a copy that fails or was not loaded yet is loaded afresh and checked, and a
segment that fails restarts the module (R120, R127, R128, R143). -/
def clocksLockedEffect (t : Nat) (copyOk : Bool) (s0 : State) : State :=
  let s := advance t s0
  match climbOf s with
  | none => s
  | some x =>
    if x.climbStep ≠ 0 ∨ (x.src = .watch ∧ s.dbg.watch.halted) then s
    else if x.src = .keep then clocksRun x s
    else
      let s1 := if s.boot.preloaded then countCompare copyOk s else s
      if s.boot.preloaded ∧ copyOk then clocksRun x s1
      else if controlTagOk s.boot.bankB s then clocksRun x (countCompare true s1)
      else preloadFailed (countCompare false s1)

/-- The copy of the retention log that the archive receives as channel 0 powers up, oldest entry first (R730). -/
def archiveLog (s : State) : State :=
  let n := s.cnt.logHead
  let order := if s.cnt.logWraps = 0 then List.range n else (List.range 1024).map fun i => (n + i) % 1024
  let upper := s.tb.now / nsPerS / 2 ^ 32
  let recs := order.map fun i =>
    let e := Tbl.get {} s.cnt.log i
    (⟨e, (upper * 2 ^ 32 + e.secLo) * nsPerS + e.nsQ % 2 ^ 30, s.boot.bootCount, 4, true, e.data⟩ : ArchRec)
  { s with cnt := recs.foldl (fun c r => archPut r c) { s.cnt with archive := [], archNext := 0 } }

/-- DRAM_TRAINING: a channel's sweep of the climb ends, and passes or fails (R592 to R594, R144). -/
def dramTrainingEffect (t : Nat) (c : Fin 4) (sweep : List LaneSweep) (s0 : State) : State :=
  let s := advance t s0
  match climbOf s with
  | none => s
  | some x =>
    if x.climbStep = 1 ∧ (climbChannels x).contains c.val ∧ !chPowered c s then
      let s1 := trainChannel c sweep s
      if chPowered c s1 then climbOn (if c.val = 0 then archiveLog s1 else s1) else trainingFailed c x s1
    else s

/-- Seen on a channel: an uncorrectable line or a failed command. -/
def dramFaults (c : Nat) (s : State) : Nat := (chan c s).uncorrectable.val + (chan c s).caFailed.val

/-- An uncorrectable line or failed command on a channel that a climb has trained and not yet taken into use counts as a failure of
its training, whatever the policy (R604). (DEDUCED: log entry 37) -/
def climbFault (c : Nat) (f : State → State) (s : State) : State :=
  match climbOf s with
  | none => f s
  | some x =>
    let s1 := f s
    if (climbChannels x).contains c ∧ dramFaults c s1 ≠ dramFaults c s then trainingFailed c x (setTransition (some x) s1) else s1

/-- CA_ALERT (R585, R604). (DEDUCED: log entry 37) -/
def caAlertEffect (t : Nat) (c : Fin 4) (region : Nat) (again : Bool) (s0 : State) : State :=
  climbFault c (alertOn c region again) (advance t s0)

/-- DRAM_SCRUB (R586, R604). (DEDUCED: log entry 37) -/
def dramScrubEffect (t : Nat) (c : Fin 4) (line : BitVec 26) (status : Fin 3) (beats : BitVec 16) (s0 : State) : State :=
  climbFault c (scrubRead c line status beats) (advance t s0)

/-- TEMP_READ: every 10 ms the temperature of each channel (R583). -/
def tempReadEffect (t : Nat) (temps : List Int) (s0 : State) : State :=
  let s := advance t s0
  forEach ((List.range 4).zip temps) (fun e s => if chPowered e.1 s then evalSource 3 e.1 e.2 (readTemp e.1 e.2 s) else s) s

/-- EV_CONFIG_LOADED (R139). -/
def configLoaded (sec : Nat) (s : State) : State :=
  raise .configLoaded 0 (enc [(1, s.boot.slot.getD 0xFF), (4, sequenceInForce s), (1, sec)]) s

/-- Apply the base section of the record in force. -/
def applyBase (s : State) : State := configLoaded 0 (applySection 0 (itemsInForce s) s)

/-- A section fails its tag in a climb (R145): the record is abandoned for the other one, or the climb ends with it. -/
def sectionFailed (sec : Nat) (x : Transition) (items : List Item) (s : State) : State :=
  match s.boot.slot with
  | none => s
  | some n =>
    let other := 1 - n
    let s1 := raise .configFallback 0 (enc [(1, n), (1, sec)]) (killRecord n s)
    match slotSequence other s1 with
    | some _ =>
      let s2 := setSlotRecord other (some (slotContent other items s1)) s1
      applyBase { s2 with boot := { s2.boot with slot := some other, streamedKeep := false, streamedFull := false } }
    | none =>
      abandonClimb x { s1 with boot := { s1.boot with slot := none }, sup := { s1.sup with target := .watch } }

/-- SECTION_STREAMED: the keep (false) or full (true) section has been streamed, and passes or fails its tag (R128, R145); `items` are
those of the other record, where RECORD_WRITE wrote it. -/
def sectionStreamedEffect (t : Nat) (full good : Bool) (items : List (Nat × List Byte)) (s0 : State) : State :=
  let s := advance t s0
  match climbOf s with
  | none => s
  | some x =>
    let sec := if full then 2 else 1
    let due := if full then !s.boot.streamedFull && decide (x.dst = .full) && (s.boot.streamedKeep || decide (x.src = .keep))
      else !s.boot.streamedKeep && decide (x.src = .watch)
    if x.climbStep = 2 ∧ due ∧ s.boot.slot.isSome ∧ !ctlHalted s then
      let s1 := countCompare good s
      if good then
        let s2 := configLoaded sec (applySection sec (itemsInForce s1) s1)
        climbOn { s2 with boot :=
          { s2.boot with
            streamedKeep := s2.boot.streamedKeep || !full
            streamedFull := s2.boot.streamedFull || full } }
      else sectionFailed sec x (items.map fun e => ⟨e.1, e.2⟩) s1
    else s

/-- TABLES_INSTALLED: the on-die tables and the search banks are installed; the ports form next (R128 steps 6 and 7). -/
def tablesInstalledEffect (t : Nat) (s0 : State) : State :=
  let s := advance t s0
  match climbOf s with
  | none => s
  | some x => if x.climbStep = 3 ∧ !ctlHalted s then climbTo 4 .forming s else s

/-- EV_FORWARDING_READY, once in a Keystone run (R130): microseconds since the Keystone start. -/
def forwardingReady (m : Mode) (s : State) : State :=
  if s.boot.forwardingReady then s
  else
    raise .forwardingReady 0 (enc [(1, m.code), (4, (s.elapsed - s.boot.keystoneAt) / 1000)])
      { s with boot := { s.boot with forwardingReady := true } }

/-- Ports that run in the new mode and did not in the old one start, and in Full the Causeway links (R128 step 7). -/
def formNew (old : List Nat) (s : State) : State :=
  let s1 := forEach ((formedPorts s).filter fun p => portRuns p s && !old.contains p) (fun p s => startPort p s) s
  if cwRuns s1 then
    forEach ((formedLinks s1).filter fun l => decide ((linkOf l s1).state = .off)) (fun l s => startLink l s) s1
  else s1

/-- A climb is complete (R48, R51, R128): automatic, or by command. -/
def completeClimb (x : Transition) (s : State) : State :=
  let old := (formedPorts s).filter fun p => portRuns p s
  let items := itemsInForce s
  let s1 := setClocks (setDecks (enterMode x.dst x.cause s))
  let s2 := installSearch items (installTables (decide (x.dst = .keep)) items s1)
  let s3 := formNew old (if x.src = .watch then startPlane s2 else s2)
  let s4 := reloadPending (setStage .running s3)
  let s5 := if x.dst = .full then autoJoin s4 else s4
  let s6 := forwardingReady x.dst s5
  match x.cause with
  | .command => modeChanged x.src x.dst .command x.reqId s6
  | _ => raise .modeClimb 0 (enc [(1, x.src.code), (1, x.dst.code)]) s6

/-! ### What follows a step -/

/-- A Freeze trigger that waited for the end of a step (R69). -/
def storedFreeze (s : State) : State :=
  match s.sup.freezeTrigger with
  | none => s
  | some c =>
    let s1 := { s with sup := { s.sup with freezeTrigger := none } }
    if dataPlaneMode s.sup.mode then freezeTrigger c 0 s1 else raise .freezeLost 0 (enc [(1, c.code)]) s1

/-- VHOLD is below the floor of the present mode: EV_HOLD_LOW, and the next step at once (R33, R68). -/
def holdLow (s : State) : State :=
  startDown .holdFloor 0 (raise .holdLow 0 (enc [(1, s.sup.mode.code), (2, s.sup.vholdMv)]) s)

/-- VHOLD lies below the hold floor. -/
def belowFloor (s : State) : Bool := decide (s.sup.vholdMv < holdFloor s.sup.mode)

/-- A commanded climb begins, or waits for the strike window or for HOLD_READY (R38, R53, R54, R70). -/
def commandUp (d : Deferred) (s : State) : State :=
  let wait (b : Bool) : State := { s with sup := { s.sup with deferred := some { d with forStrike := b } } }
  if s.strike.opened then wait true
  else if holdReady s then startClimb (d.mode) .command d.reqId { s with sup := { s.sup with deferred := none } }
  else wait false

/-- What a MODE_SET still asks for after a step (R49, R57). -/
def commandOn (s : State) : State :=
  match s.sup.deferred with
  | none => s
  | some d =>
    let none1 := { s with sup := { s.sup with deferred := none } }
    if d.forStrike ∨ s.sup.transition.isSome then s
    else if s.sup.mode = .shelf ∨ rank d.mode = rank s.sup.mode ∧ s.sup.mode ≠ .freeze then none1
    else if rank d.mode < rank s.sup.mode then startDown .command d.reqId s
    else if s.sup.mode = .freeze ∨ vinEff s < onMv (rank d.mode) s then modeRefused (d.mode) d.reqId none1
    else commandUp d s

/-- After a step: the hold floor of the new mode, a Freeze trigger that waited, and the rest of a MODE_SET. -/
def afterStep (s : State) : State :=
  if s.sup.mode = .shelf ∨ s.sup.transition.isSome then s
  else if belowFloor s then holdLow s
  else commandOn (storedFreeze s)

/-- The join is left at once: what follows a step follows. -/
def downAndOn (c : Cause) (reqId : Nat) (s : State) : State :=
  let s1 := startDown c reqId s
  if s1.sup.transition.isNone then afterStep s1 else s1

/-! ### Shedding (R33 to R39, R67, R68, R142) -/

/-- VIN has been below OFF of a mode for RIDE_MS, and still is. (DEDUCED: log entry 34) -/
def shedDue (m : Mode) (s : State) : Bool := heldFor (belowSince m s) (msNs s.sup.rideMs) s.elapsed

/-- VHOLD is measured. -/
def setVhold (mv : Nat) (s : State) : State := { s with sup := { s.sup with vholdMv := mv } }

/-- A shed condition during a Keystone run stops the run and returns the module to Shelf (R142). -/
def stopRun (c : Cause) (s : State) : State :=
  setTransition (some ⟨.watch, .shelf, c, s.elapsed, 0, 0, none⟩)
    (setCause causeMode { s with boot := { s.boot with loading := none, awaitConfig := false, chosen := false } })

/-- A Keystone run is in progress, recovery included. -/
def runInProgress (s : State) : Bool := s.clk.reference && s.boot.awaitConfig

/-- VIN_BELOW_OFF: VIN falls below an OFF threshold (R33, R34). -/
def vinBelowOffEffect (t vin : Nat) (s0 : State) : State :=
  let s := advance t s0
  if abutmentOn s then setVin vin s else s

/-- RIDE_THROUGH: VIN is back at OFF of the present mode; the dip is reported (R36, R67), also where another change of VIN has
ended it at this instant. (DEDUCED: log entry 21) -/
def rideThroughEffect (t vin lowVhold : Nat) (s0 : State) : State :=
  let s := advance t s0
  if abutmentOn s then
    let s1 := setVin vin s
    match s1.sup.dip with
    | none => s1
    | some (a, b) =>
      if shedUnderWay s then s1
      else raise .rideThrough 0 (enc [(4, (b - a) / 1000), (2, lowVhold)]) { s1 with sup := { s1.sup with dip := none } }
  else s

/-- SHEDDING_STEP: VIN is still below OFF at RIDE_MS (R33, R34); a climb under way is abandoned first, and a step under way goes on. -/
def sheddingStepEffect (t vin vhold : Nat) (s0 : State) : State :=
  let s := advance t s0
  if abutmentOn s then
    let s1 := setVhold vhold (setVin vin s)
    if runInProgress s1 then (if shedDue .watch s1 then stopRun .vinLow s1 else s1)
    else if bootRuns s1 ∨ !shedDue s1.sup.mode s1 then s1
    else
      match s1.sup.transition with
      | none => downAndOn .vinLow 0 s1
      | some x => if isClimb x then downAndOn .vinLow 0 (abandonClimb x s1) else s1
  else s

/-- HOLD_FLOOR_CROSSING: VHOLD falls below the hold floor (R33, R68); during a step the next one follows at its end. -/
def holdFloorCrossingEffect (t vhold : Nat) (s0 : State) : State :=
  let s := advance t s0
  let s1 := setVhold vhold s
  if runInProgress s1 then (if vhold < holdFloor .watch then stopRun .holdFloor s1 else s1)
  else if bootRuns s1 ∨ !belowFloor s1 then (if abutmentOn s then s1 else s)
  else
    match s1.sup.transition with
    | none => (let s2 := holdLow s1; if s2.sup.transition.isNone then afterStep s2 else s2)
    | some x =>
      if isClimb x then (let s2 := holdLow (abandonClimb x s1); if s2.sup.transition.isNone then afterStep s2 else s2) else s1

/-- CLIMB_ABANDONED: VIN is still below OFF of the mode being entered at RIDE_MS (R39). -/
def climbAbandonedEffect (t vin : Nat) (s0 : State) : State :=
  let s := advance t s0
  if abutmentOn s then
    let s1 := setVin vin s
    match climbOf s1 with
    | none => s1
    | some x => if shedDue x.dst s1 then abandonClimb x s1 else s1
  else s

/-! ### Climbing (R37, R38) -/

/-- Since when VIN has met ON of a mode code 1 to 3. -/
def onSince (n : Nat) (s : State) : Option Nat :=
  match n with
  | 1 => s.sup.onWatch
  | 2 => s.sup.onKeep
  | _ => s.sup.onFull

/-- VIN has met ON of mode code `n` for the dwell time: DWELL_S after a shedding step, else zero (R37). (DEDUCED: log entry 26) -/
def dwellMet (n : Nat) (s : State) : Bool :=
  match onSince n s, s.sup.dwellFrom with
  | none, _ => false
  | some _, none => true
  | some a, some d => decide (max a d + sNs s.sup.dwellS ≤ s.elapsed)

/-- The highest mode code up to TARGET_MODE, above the present mode, whose ON threshold has been met (R37). -/
def climbTarget (s : State) : Option Nat :=
  [3, 2].find? fun n => decide (n ≤ s.sup.target.code) && decide (rank s.sup.mode < n) && dwellMet n s

/-- A climb may begin: nothing else goes on, HOLD_READY is set, no strike window is open (R37, R38), and the core that runs its first
steps in Watch is not halted (R679, R694). -/
def mayClimb (s : State) : Bool :=
  decide (s.sup.mode = .watch ∨ s.sup.mode = .keep) && s.sup.transition.isNone && !s.boot.awaitConfig && !s.boot.recovery &&
    holdReady s && !s.strike.opened && !(decide (s.sup.mode = .watch) && s.dbg.watch.halted)

/-- CLIMB: the condition of a climb is met (R37); a MODE_SET that waits for HOLD_READY goes first. -/
def climbEffect (t vin vhold : Nat) (s0 : State) : State :=
  let s := advance t s0
  if abutmentOn s then
    let s1 := setVhold vhold (setVin vin s)
    if mayClimb s1 then
      match s1.sup.deferred with
      | some d => if d.forStrike ∨ vinEff s1 < onMv (rank d.mode) s1 then s1 else commandOn s1
      | none =>
        match climbTarget s1 with
        | some n => startClimb (modeOfCode n) .climb 0 s1
        | none => s1
    else s1
  else s

/-- EV_STRIKE_CLOSE: the window reaches its end (R47); a MODE_SET it held back runs if R54 still holds (R70). -/
def strikeCloseEffect (t : Nat) (s0 : State) : State :=
  let s := advance t s0
  if strikeOverdue s then
    let s1 := closeStrike s
    match s1.sup.deferred with
    | none => s1
    | some d =>
      if d.forStrike then commandOn { s1 with sup := { s1.sup with deferred := some { d with forStrike := false } } } else s1
  else s

/-! ### MODE_SET (R53 to R58) -/

/-- The mode that a MODE_SET starts from: that to which a step down or a Freeze under way leads. -/
def effMode (s : State) : Mode :=
  match s.sup.transition with
  | none => s.sup.mode
  | some x => if isClimb x then s.sup.mode else x.dst

/-- TARGET_MODE after a MODE_SET; a MODE_SET to Shelf leaves it (R53); the dwell time is zero from then (R37). -/
def withTarget (n : Nat) (s : State) : State :=
  { s with sup := { s.sup with target := targetOf n s.sup.target, dwellFrom := none, deferred := none } }

/-- A MODE_SET with no step under way: STATE, and what it starts. -/
def modeSetIdle (n reqId : Nat) (s : State) : State × Nat :=
  let d : Deferred := ⟨modeOfCode n, reqId, false⟩
  let later := { s with sup := { s.sup with deferred := some d } }
  if n < rank s.sup.mode ∨ s.sup.mode = .freeze then (commandOn later, 0)
  else if n = rank s.sup.mode then (s, 1)
  else if s.strike.opened then (commandUp d s, 2)
  else if holdReady s then (commandUp d s, 0)
  else (commandUp d s, 3)

/-- A MODE_SET in any situation: a newer one replaces what one in progress asks for (R57). -/
def modeSetGo (n reqId : Nat) (s0 : State) : State × Nat :=
  let s := withTarget n s0
  match s.sup.transition with
  | none => modeSetIdle n reqId s
  | some x =>
    if isClimb x then
      if n = rank x.dst then (setTransition (some { x with cause := .command, reqId := reqId }) s, 0)
      else modeSetIdle n reqId (undoClimb x s)
    else ({ s with sup := { s.sup with deferred := some ⟨modeOfCode n, reqId, false⟩ } }, 0)

/-- MODE_SET (R53 to R58). (DEDUCED: log entry 25) -/
def modeSetBody (q : Req) (s : State) : Body :=
  let n := f1 q.payload 0
  let m := effMode s
  let r := modeSetGo n q.requestId s
  checks [lenIs q 4, (decide (n ≤ 5), .badPayload), (decide (n ≤ 3), .modeTarget),
      (!(decide (m = .freeze) && decide (2 ≤ n)), .modeFrozen), (decide (n ≠ 0) || decide (s.wake.sources ≠ 0), .noWake),
      (decide (n ≤ rank m) || decide (onMv n s ≤ vinEff s), .modeVin)]
    (okResp r.1 (enc [(1, r.2), (3, 0)]))

/-- DEBUG_FREEZE (R703): Freeze is entered with LAST_CAUSE 6. -/
def debugFreezeBody (q : Req) (s : State) : Body :=
  checks [lenIs q 0] (okEmpty (freezeTrigger .debugFreeze q.requestId s))

/-! ### The meanings -/

/-- MODE_SET. -/
def execModeSet (q : Req) (s : State) : Host.Outcome State Fault Refusal :=
  .next (kmpExec .modeSet q (modeSetBody q) s)

/-- DEBUG_FREEZE. -/
def execDebugFreeze (q : Req) (s : State) : Host.Outcome State Fault Refusal :=
  .next (kmpExec .debugFreeze q (debugFreezeBody q) s)

/-- VIN_BELOW_OFF. -/
def execVinBelowOff (t : Nat) (vin : Nat) (s : State) : Host.Outcome State Fault Refusal :=
  .next (vinBelowOffEffect t vin s)

/-- RIDE_THROUGH. -/
def execRideThrough (t : Nat) (vin : Nat) (lowVhold : Nat) (s : State) : Host.Outcome State Fault Refusal :=
  .next (rideThroughEffect t vin lowVhold s)

/-- SHEDDING_STEP. -/
def execSheddingStep (t : Nat) (vin : Nat) (vhold : Nat) (s : State) : Host.Outcome State Fault Refusal :=
  .next (sheddingStepEffect t vin vhold s)

/-- HOLD_FLOOR_CROSSING. -/
def execHoldFloorCrossing (t : Nat) (vhold : Nat) (s : State) : Host.Outcome State Fault Refusal :=
  .next (holdFloorCrossingEffect t vhold s)

/-- CLIMB. -/
def execClimb (t : Nat) (vin : Nat) (vhold : Nat) (s : State) : Host.Outcome State Fault Refusal :=
  .next (climbEffect t vin vhold s)

/-- CLIMB_ABANDONED. -/
def execClimbAbandoned (t : Nat) (vin : Nat) (s : State) : Host.Outcome State Fault Refusal :=
  .next (climbAbandonedEffect t vin s)

/-- EV_STRIKE_CLOSE. -/
def execEvStrikeClose (t : Nat) (s : State) : Host.Outcome State Fault Refusal :=
  .next (strikeCloseEffect t s)

/-- DRAM_TRAINING. -/
def execDramTraining (t : Nat) (c : Fin 4) (sweep : List (List (BitVec 128) × List (BitVec 128))) (s : State) : Host.Outcome State Fault Refusal :=
  .next (dramTrainingEffect t c sweep s)

/-- SECTION_STREAMED. -/
def execSectionStreamed (t : Nat) (full : Bool) (good : Bool) (items : List (Nat × List Byte)) (s : State) : Host.Outcome State Fault Refusal :=
  .next (sectionStreamedEffect t full good items s)

/-- TEMP_READ. -/
def execTempRead (t : Nat) (temps : List Int) (s : State) : Host.Outcome State Fault Refusal :=
  .next (tempReadEffect t temps s)

/-- DRAM_SCRUB. -/
def execDramScrub (t : Nat) (c : Fin 4) (line : BitVec 26) (status : Fin 3) (beats : BitVec 16) (s : State) : Host.Outcome State Fault Refusal :=
  .next (dramScrubEffect t c line status beats s)

/-- CA_ALERT. -/
def execCaAlert (t : Nat) (c : Fin 4) (region : Nat) (again : Bool) (s : State) : Host.Outcome State Fault Refusal :=
  .next (caAlertEffect t c region again s)

/-- CLOCKS_LOCKED. -/
def execClocksLocked (t : Nat) (copyOk : Bool) (s : State) : Host.Outcome State Fault Refusal :=
  .next (clocksLockedEffect t copyOk s)

/-- TABLES_INSTALLED. -/
def execTablesInstalled (t : Nat) (s : State) : Host.Outcome State Fault Refusal :=
  .next (tablesInstalledEffect t s)

end Sys2Proof.Machine
end

