-- ==== Sys2Proof/Machine/Boot.lean ====
section
/-! DEFINITION. Machine/Boot.lean: the Abutment, wake, the run of Keystone, entry to Watch, and the commands over the boot flash
(R40 to R44, R72 to R75, R91, R110 to R147, R193, R641, R743 to R752). -/

namespace Sys2Proof.Machine

open Sys2Proof

/-! ### Wake (R40 to R42, R141) -/

/-- Keystone is not running and the reference stands still: the module rests in Shelf. -/
def atRest (s : State) : Bool := decide (s.sup.mode = .shelf) && !s.clk.reference

/-- The way to Watch begins: the reference starts (R48). -/
def startWake (c : Cause) (src : Option Nat) (s : State) : State :=
  let s1 := startTransition .watch c 0
    { s with
      wake := { s.wake with waiting := false }
      clk := { s.clk with refRetries := 0, refFailedAt := none } }
  setTransition (s1.sup.transition.map fun x => { x with wakeSource := src }) s1

/-- The reference has been told to start and has neither started nor failed. -/
def waking (s : State) : Bool := atRest s && s.sup.transition.isSome && s.clk.refFailedAt.isNone

/-- An enabled wake source: 0 WAKE pin, 1 field input, 2 RTC alarm, 3 VIN restore. While Keystone runs it is only logged (R141).
(DEDUCED: log entries 27, 28) -/
def wakeBy (src : Nat) (s : State) : State :=
  if atRest s then
    if waking s then s
    else if s.sup.th.watchOn ≤ vinEff s then startWake .wake (some src) s
    else
      raise .wakeDeferred 0 (enc [(1, src), (2, s.sw.landMv)])
        { s with wake := { s.wake with waiting := true, waitingSource := src } }
  else if bootRuns s then logEvent Ev.wake.code s.kmp.eventSeq [BitVec.ofNat 8 src] s
  else s

/-- The wake source is enabled (R41). -/
def wakeEnabled (src : Nat) (s : State) : Bool := bitOf s.wake.sources src || (decide (src = 3) && s.wake.byShed)

/-- WAKE_PIN: a level has lasted 100 µs (R40); VIN is measured. -/
def wakePinEffect (t : Nat) (level : Bool) (mv : Nat) (s0 : State) : State :=
  let s := advance t s0
  if abutmentOn s then
    let s1 := setVin mv s
    if wakeEnabled 0 s1 ∧ level = s1.wake.activeHigh then wakeBy 0 s1 else s1
  else s

/-- The edge of a field pin is enabled. (DEDUCED: log entry 29) -/
def edgeEnabled (n : Nat) (rising : Bool) (s : State) : Bool := bitOf (if rising then s.wake.riseMask else s.wake.fallMask) n

/-- FIELD_INPUT_EDGE_WAKE: an edge on a voltage input has been stable for 1 ms (R40, R641). (DEDUCED: log entry 30) -/
def fieldInputEdgeWakeEffect (t : Nat) (pin : Fin 8) (rising : Bool) (mv : Nat) (s0 : State) : State :=
  let s := advance t s0
  if abutmentOn s then
    let s1 := setVin mv s
    if wakeEnabled 1 s1 ∧ edgeEnabled pin rising s1 ∧ (fioOf pin s1).mode = 1 then wakeBy 1 s1 else s1
  else s

/-- WETTING_SAMPLE: the level of a wetted input in Shelf at the end of its pulse; one that differs from the last pulse's is an edge
(R641). (DEDUCED: log entry 30) -/
def wettingSampleEffect (t : Nat) (pin : Fin 8) (mv : Nat) (s0 : State) : State :=
  let s := advance t s0
  let p := fioOf pin s
  if atRest s ∧ p.mode = 2 then
    let level := senseLevel p mv
    let s1 := updFio pin (fun p => { p with mv := mv, raw := level, wetLevel := some level }) s
    match p.wetLevel with
    | none => s1
    | some old => if old ≠ level ∧ wakeEnabled 1 s1 ∧ edgeEnabled pin level s1 then wakeBy 1 s1 else s1
  else s

/-- VIN_REACHES_WATCH_ON: VIN is at ON(Watch) with a start to make: power-on, a wake that was deferred, or a Shelf entered by
shedding (R42, R43, R48). -/
def vinReachesWatchOnEffect (t vin : Nat) (s0 : State) : State :=
  let s := advance t s0
  if abutmentOn s then
    let s1 := setVin vin s
    if atRest s1 ∧ !waking s1 ∧ s1.sup.th.watchOn ≤ vinEff s1 then
      if s1.wake.modeBefore = .off then startWake .powerOn none s1
      else if s1.wake.waiting then startWake .wake (some s1.wake.waitingSource) s1
      else if s1.wake.byShed then startWake .wake (some 3) s1
      else s1
    else s1
  else s

/-- VIN_RESTORE: VIN returns after a Shelf (R41). (DEDUCED: log entry 28) -/
def vinRestoreEffect (t vin : Nat) (s0 : State) : State :=
  let s := advance t s0
  if abutmentOn s then
    let s1 := setVin vin s
    if wakeEnabled 3 s1 ∧ s1.wake.modeBefore ≠ .off then wakeBy 3 s1 else s1
  else s

/-- The next ALARM_S of a periodic alarm after it has fired; a single one clears (R91). -/
def alarmAfter (now : Nat) (x : Rtc) : Nat :=
  if x.periodS = 0 then 0 else x.alarmS + ((now - x.alarmS) / x.periodS + 1) * x.periodS

/-- RTC_ALARM: the RTC has reached the alarm (R91). -/
def rtcAlarmEffect (t : Nat) (s0 : State) : State :=
  let s := advance t s0
  let now := rtcSeconds s
  if abutmentOn s ∧ s.rtc.alarmS ≠ 0 ∧ s.rtc.alarmS ≤ now then
    let s1 := { s with rtc := { s.rtc with alarmS := alarmAfter now s.rtc } }
    if s.sup.mode = .shelf then (if wakeEnabled 2 s1 then wakeBy 2 s1 else s1)
    else raise .rtcAlarm 0 (be 6 s.rtc.alarmS) s1
  else s

/-! ### The Abutment (R43, R72 to R75, R94, R760) -/

/-- A cold start: nothing was kept (R75). (DEDUCED: log entry 33) -/
def coldStart (s : State) : State :=
  raise .abutmentCold 0 []
    { s with
      cnt := { s.cnt with log := [], logHead := 0, logWraps := 0 }
      boot := { s.boot with bootCount := 0 }
      rtc := { running := true, since := s.elapsed, trimPpb := s.ident.factoryTrim, blockGood := true }
      wake := { s.wake with qualityAtShelf := 0 }
      tb := { s.tb with coldStart := true } }

/-- ABUTMENT_START: VIN rises to 4.5 V (R72); the straps are sampled, and the start is warm or cold. (DEDUCED: log entry 32) -/
def abutmentStartEffect (t mv : Nat) (bankA33 bankB33 : Bool) (prtad : Fin 4) (s0 : State) : State :=
  let s := advance t s0
  if !abutmentOn s ∧ 4500 ≤ mv then
    let s1 := { s with
      sup := { s.sup with mode := .shelf, lastCause := .powerOn }
      io := { s.io with bankA33 := bankA33, bankB33 := bankB33, prtad := prtad.val }
      wake := { s.wake with modeBefore := .off, waiting := false, byShed := false } }
    let s2 := if s.rtc.blockGood then s1 else coldStart s1
    setVin mv { s2 with sup := { s2.sup with modeSince := stamp s2 } }
  else s

/-- What an Abutment reset leaves: the retention SRAM and the RTC, flash, and what lies outside the powered logic (R73, R74). -/
def abutmentReset (mv : Nat) (s : State) : State :=
  { State.reset with
    pending := s.pending
    elapsed := s.elapsed
    ident := s.ident
    sw := { landMv := mv }
    wake := { qualityAtShelf := s.wake.qualityAtShelf }
    rtc := s.rtc
    tb := { tenMhz := s.tb.tenMhz }
    boot := { bootCount := s.boot.bootCount, slot0 := s.boot.slot0, slot1 := s.boot.slot1 }
    flash := s.flash
    host := { perst := s.host.perst }
    cnt := { log := s.cnt.log, logHead := s.cnt.logHead, logWraps := s.cnt.logWraps }
    out := s.out
    freeCtr := s.freeCtr }

/-- ABUTMENT_RESET: VIN falls below 4.2 V in Shelf (R43, R48). (DEDUCED: log entry 31) -/
def abutmentResetEffect (t mv : Nat) (s0 : State) : State :=
  let s := advance t s0
  if s.sup.mode = .shelf ∧ mv < 4200 then abutmentReset mv s else s

/-- RETENTION_LOST: VIN falls below 2.8 V (R73): the oscillator stops and the control block no longer holds what was written. -/
def retentionLostEffect (t mv : Nat) (s0 : State) : State :=
  let s := advance t s0
  if !abutmentOn s ∧ mv < 2800 then
    { s with
      sw := { s.sw with landMv := mv }
      rtc := {}
      boot := { s.boot with bootCount := 0 }
      cnt := { s.cnt with log := [], logHead := 0, logWraps := 0 } }
  else s

/-! ### Clock failures (R110, R111) -/

/-- REFERENCE_START_FAIL: the reference has not started within 8 ms; after three retries the module waits for a wake source (R110). -/
def referenceStartFailEffect (t : Nat) (s0 : State) : State :=
  let s := advance t s0
  if waking s then
    let s1 := clockFailed clkReference s
    if s.clk.refRetries < 3 then { s1 with clk := { s1.clk with refFailedAt := some s.elapsed } }
    else setCause causeMode (setTransition none { s1 with clk := { s1.clk with refRetries := 0 } })
  else s

/-- REFERENCE_RETRY: 1 s after a failure the reference is started again (R110). -/
def referenceRetryEffect (t : Nat) (s0 : State) : State :=
  let s := advance t s0
  if atRest s ∧ heldFor s.clk.refFailedAt (sNs 1) s.elapsed then
    { s with clk := { s.clk with refFailedAt := none, refRetries := s.clk.refRetries + 1 } }
  else s

/-- The lanes of a group go OFF with their reference (R111). (DEDUCED: log entry 66) -/
def groupOff (g : Nat) (s : State) : State :=
  let s1 := lanesStop (fun l => decide (laneGroup l ≠ g)) s
  { s1 with clk := { s1.clk with laneRefs := s1.clk.laneRefs.filter fun x => decide (x ≠ g) } }

/-- A clock that the first step of the climb under way waits for (R78, R128). -/
def climbNeeds (n : Nat) (s : State) : Bool :=
  match climbOf s with
  | none => false
  | some x =>
    decide (x.climbStep = 0) &&
      ((decide (2 ≤ n) && decide (n ≤ 4)) || (decide (clkDram ≤ n) && (climbChannels x).contains (n - clkDram)))

/-- EV_CLOCK_FAIL: a clock fails to lock or stops (R111); those of the oscillator and of the start of the reference have rows of
their own. (DESIGN CHOICE: log entry 44; DEDUCED: log entries 66, 67) -/
def clockFailEffect (t : Nat) (n : Fin 13) (s0 : State) : State :=
  let s := advance t s0
  if timeRuns s then
    let s1 := clockFailed n.val s
    if climbNeeds n.val s then endClimb s1
    else if clkLaneRef ≤ n.val ∧ n.val < clkDram then groupOff (n.val - clkLaneRef) s1
    else s1
  else s

/-! ### Keystone (R112 to R123, R132, R743) -/

/-- A run that a wake has asked for begins once the reference runs (R78, R112). -/
def beginRun (ago : Nat) (s : State) : State :=
  if waking s then
    match s.sup.transition with
    | some x => beginKeystone (if x.wakeSource.isSome then .wake else .powerOn) ago s
    | none => s
  else s

/-- The next ATTEMPTS byte is programmed during an unfinished trial (R122). -/
def noteAttempt (b : Bool) (s : State) : State :=
  let d := dirOf s
  if d.trial ∧ d.preferredB = b ∧ d.attempts < d.trialLimit then
    let s1 := flashWrite (d.copy * 0x10000 + 12 + d.attempts) [0] s
    { s1 with boot := { s1.boot with dir := some { d with attempts := d.attempts + 1 } } }
  else s

/-- The record of a slot has not taken effect: its epoch lies ahead, or was reached while nothing could switch (R193, R211).
(DEDUCED: log entries 62, 63) -/
def pendingRecord (n : Nat) (s : State) : Bool :=
  match slotRecord n s with
  | some r => decide (r.epoch ≠ 0) && !r.effective
  | none =>
    let e := (slotContent n [] s).epoch
    let past := if s.sup.mode = .shelf then s.rtc.valid && !s.tb.rtcFail && decide (e ≤ rtcNs s) else epochReached e s
    decide (e ≠ 0) && !past

/-- The watch firmware starts: it will look for a record (R126, R193). -/
def startFirmware (s : State) : State :=
  let held := (newestSlot s).filter fun n => pendingRecord n s
  let s1 := { s with boot := { s.boot with loading := none, held := held } }
  if (newestSlot s).isNone then raise .configNone 0 [] { s1 with boot := { s1.boot with chosen := true } } else s1

/-- A bank passes R119 (R122, R123, R139); EV_BOOT comes with FALLBACK (R147). (DEDUCED: log entry 55) -/
def bankPasses (b : Bool) (s : State) : State :=
  let d := dirOf s
  let trial := d.trial && decide (d.preferredB = b)
  let s1 := noteAttempt b s
  let s2 := { s1 with boot :=
    { s1.boot with bankB := b, trial := trial, fallback := !s.boot.failed.isEmpty, version := bankVersion b s } }
  startFirmware (raise .boot 0 (enc [(1, b2n b), (4, s.boot.bootCount), (1, s.boot.cause.code), (4, bankVersion b s),
    (1, if trial then (dirOf s1).attempts else 0), (1, b2n s2.boot.fallback)]) s2)

/-- A bank fails R119: the other one, or recovery (R123). -/
def bankFails (b : Bool) (reason : Nat) (s : State) : State :=
  let s1 := raise .bootFallback 0 (enc [(1, b2n b), (1, reason)]) { s with boot := { s.boot with failed := s.boot.failed ++ [b] } }
  if s.boot.failed.contains (!b) then enterRecovery 0 s1 else { s1 with boot := { s1.boot with loading := some (!b) } }

/-- Keystone judges the bank it has loaded. -/
def judgeBank (s : State) : State :=
  match s.boot.loading with
  | none => s
  | some b =>
    let f := bankFault b s
    let s1 := if f = 0 ∨ f = 4 then countCompare (decide (f = 0)) s else s
    if f = 0 then bankPasses b s1 else bankFails b f s1

/-- The self-test and the directory, once in a run (R117, R619). -/
def readOnce (kat : Bool) (s : State) : State := if s.boot.dirRead then s else readDirectory (selfTest kat s)

/-- BANK_VERDICT: Keystone, started `agoNs` before, has loaded the watch segment of a bank (R112, R117, R119 to R123); `kat` is the
verdict of the engine's self-test. -/
def bankVerdictEffect (t agoNs : Nat) (kat : Bool) (s0 : State) : State :=
  let s := beginRun agoNs (advance t s0)
  if s.clk.reference ∧ s.boot.loading.isSome then judgeBank (readOnce kat s) else s

/-- FLASH_NOT_ANSWERING: three reads bring no SFDP answer (R132, boot states table). -/
def flashNotAnsweringEffect (t agoNs : Nat) (s0 : State) : State :=
  let s := beginRun agoNs (advance t s0)
  if s.clk.reference ∧ s.boot.loading.isSome ∧ !s.boot.dirRead then enterRecovery 1 s else s

/-! ### The committed configuration (R125, R126, R193) -/

/-- Records still to try, one that is pending last (R193). -/
def configOrder (s : State) : List Nat :=
  let l := recordCandidates s
  match s.boot.held with
  | none => l
  | some n => (l.filter fun x => decide (x ≠ n)) ++ l.filter fun x => decide (x = n)

/-- A base section passes: its record will be applied. -/
def configChosen (n : Nat) (items : List Item) (s : State) : State :=
  let s1 := setSlotRecord n (some (slotContent n items s)) s
  let early := decide (s.boot.held = some n)
  { s1 with boot :=
    { s1.boot with slot := some n, chosen := true, early := early, held := if early then none else s1.boot.held } }

/-- A base section fails: the other record is next, or there is none. (DEDUCED: log entry 56) -/
def configFails (n : Nat) (s : State) : State :=
  let s1 := raiseIf (decide (newestSlot s = some n)) .configFallback 0 (enc [(1, n), (1, 0)])
    { s with boot := { s.boot with tried := s.boot.tried ++ [n], held := if s.boot.held = some n then none else s.boot.held } }
  if (configOrder s1).isEmpty then raise .configNone 0 [] { s1 with boot := { s1.boot with chosen := true } } else s1

/-- CONFIG_LOAD: the base section of the next record has been loaded and passes or fails its tag; `items` are what it carries where
RECORD_WRITE wrote the record (R125, R126). -/
def configLoadEffect (t : Nat) (good : Bool) (items : List (Nat × List Byte)) (s0 : State) : State :=
  let s := advance t s0
  if s.clk.reference ∧ s.boot.awaitConfig ∧ s.boot.loading.isNone ∧ !s.boot.chosen ∧ !s.boot.recovery ∧ !s.dbg.watch.halted then
    match configOrder s with
    | [] => s
    | n :: _ =>
      let pass := good && s.dig.katOk && s.dig.slot0Ok
      let s1 := countCompare pass s
      if pass then configChosen n (items.map fun e => ⟨e.1, e.2⟩) s1 else configFails n s1
  else s

/-! ### Entry to Watch (R124, R126, R193) -/

/-- The pending commit that a record in flash stands for (R193, R195). (DEDUCED: log entry 62) -/
def heldCommit (n : Nat) (s : State) : Option Commit :=
  (slotRecord n s).map fun r =>
    { stageId := r.stageId, requestId := r.requestId, sequence := r.sequence, epoch := r.epoch, slot := n
      items := r.items.drop (itemsInForce s).length, order := s.kmp.acceptCount }

/-- A pending record waits for its epoch; one that had to be applied at once has taken effect EARLY (R193). (DEDUCED: log entry 62) -/
def heldOrEarly (s : State) : State :=
  match s.boot.held with
  | some n =>
    let s1 := setSlotRecord n (some (slotContent n [] s)) s
    { s1 with kmp := { s1.kmp with committed := heldCommit n s1 } }
  | none =>
    match s.boot.slot.bind fun n => heldCommit n s with
    | none => s
    | some c =>
      let s1 := setSlotRecord c.slot ((slotRecord c.slot s).map fun r => { r with effective := true }) s
      if s.boot.early then commitDone c false true 0 { s1 with boot := { s1.boot with early := false } } else s1

/-- The directory after a boot (R124); it is written only where that changes it. (DEDUCED: log entry 53) -/
def bootDirectory (s : State) : State :=
  let d := dirOf s
  let bad := s.boot.failed.foldl (fun d b => markBank b true d) d
  let new := { bad with preferredB := s.boot.bankB, trial := d.trial && decide (d.preferredB = s.boot.bankB) }
  if s.boot.dir = some new then s else writeDir new s

/-- Watch is reached from Shelf or by a restart (R48, R51, R88, R124, R126, R637). -/
def enterWatch (x : Transition) (s : State) : State :=
  let s1 := enterMode .watch x.cause s
  let s2 := if x.src = .shelf then loadTime s1 else s1
  let s3 := setStage .watch (setClocks { s2 with
    boot := { s2.boot with awaitConfig := false, watchAt := s2.elapsed }
    wake := { s2.wake with waiting := false }
    sup := { s2.sup with dwellFrom := if s2.wake.byShed then s2.sup.dwellFrom else none }
    io := { s2.io with released := false } })
  let s4 := bootDirectory (heldOrEarly (restoreEnds (if s3.boot.slot.isSome then applyBase s3 else s3)))
  match x.wakeSource with
  | none => s4
  | some n => raise .wake 0 [BitVec.ofNat 8 n] s4

/-- The firmware is ready to enter Watch: a record has been chosen, or none is left. -/
def watchReady (s : State) : Bool := s.boot.awaitConfig && s.boot.chosen && !s.boot.recovery && s.boot.loading.isNone

/-- TRANSITION_COMPLETE: the transition under way completes (R48, R51). -/
def transitionCompleteEffect (t : Nat) (s0 : State) : State :=
  let s := advance t s0
  match s.sup.transition with
  | none => s
  | some x =>
    if isClimb x then (if x.climbStep = 4 then afterStep (completeClimb x s) else s)
    else if x.dst = .freeze then afterStep (completeFreeze x s)
    else if x.dst = .watch ∧ (x.src = .shelf ∨ x.src = .watch) then (if watchReady s then enterWatch x s else s)
    else afterStep (completeDown x s)

/-! ### After Watch is reached (R124, R127, R131, R143) -/

/-- CONTROL_PRELOAD: the control segment has been loaded, and passes CONTROL_TAG or does not (R127, R143). -/
def controlPreloadEffect (t : Nat) (s0 : State) : State :=
  let s := advance t s0
  if s.sup.mode = .watch ∧ !s.boot.awaitConfig ∧ !s.boot.recovery ∧ !s.boot.preloaded ∧ !s.dbg.watch.halted then
    if controlTagOk s.boot.bankB s then countCompare true { s with boot := { s.boot with preloaded := true } }
    else preloadFailed (countCompare false s)
  else s

/-- A trial ends as confirmed (R124). -/
def confirmBank (auto : Bool) (reqId : Nat) (s : State) : State :=
  let s1 := writeDir { dirOf s with trial := false } s
  raise .bankConfirmed reqId (enc [(1, b2n s.boot.bankB), (1, b2n auto)]) { s1 with boot := { s1.boot with trial := false } }

/-- The bank that booted is the bank on trial. -/
def onTrial (s : State) : Bool := (dirOf s).trial && decide ((dirOf s).preferredB = s.boot.bankB) && s.boot.trial

/-- AUTO_CONFIRM: 900 s in Watch or above without a restart (R124). -/
def autoConfirmEffect (t : Nat) (s0 : State) : State :=
  let s := advance t s0
  if timeRuns s ∧ !bootRuns s ∧ onTrial s ∧ (dirOf s).autoConfirm ∧ s.boot.watchAt + sNs 900 ≤ s.elapsed then
    confirmBank true 0 s
  else s

/-- WATCHDOG: a core's watchdog expires (R131); that of a core that is off, stopped or halted is paused (R681). -/
def watchdogEffect (t : Nat) (control : Bool) (s0 : State) : State :=
  let s := advance t s0
  if coreUp (!control) s ∧ !(coreDbg (!control) s).halted ∧ timeRuns s then
    restartRun (if control then .controlWatchdog else .watchWatchdog) s
  else s

/-! ### Commands over the flash (R133 to R138) -/

/-- BANK_SELECT, BANK_ERASE and the rest name a bank by 0 or 1. -/
def bankNum (q : Req) : Bool := decide (f1 q.payload 0 = 1)

/-- BANK or SLOT is 0 or 1. -/
def bankNumOk (q : Req) : Bool × Err := (decide (f1 q.payload 0 ≤ 1), .badPayload)

/-- The bank is not the one that booted (R134); in recovery none has. -/
def notActive (q : Req) (s : State) : Bool × Err := (s.boot.recovery || decide (s.boot.bankB ≠ bankNum q), .bankActive)

/-- What a range of flash holds after an erase or a program that does not verify is open. (DESIGN CHOICE: log entry 60) -/
def flashSpoilt (a n : Nat) (s : State) : State :=
  { (flashWrite a ((List.range n).map fun i => Config.freeByte (s.freeCtr + i)) s) with freeCtr := s.freeCtr + n }

/-- Flash work that verifies, or is refused with E_FLASH_FAIL. (DESIGN CHOICE: log entry 60) -/
def flashWork (verifies : Bool) (a n : Nat) (done s : State) : Body :=
  if verifies then okEmpty done else .ok (flashSpoilt a n s, .err .flashFail [])

/-- A directory update that verifies, or leaves the older copy in force (R117). (DEDUCED: log entry 61) -/
def dirWork (verifies : Bool) (done s : State) : Body := flashWork verifies ((1 - (dirOf s).copy) * 0x10000) 256 done s

/-- BOOT_STATUS_GET. (DEDUCED: log entry 54) -/
def bootStatusGetBody (q : Req) (s : State) : Body :=
  let d := dirOf s
  let b := s.boot
  checks [lenIs q 0] (okResp s (enc [(4, b.bootCount), (1, b.cause.code), (1, b2n b.bankB),
    (1, flags [b.trial, b.fallback, b.recovery, d.autoConfirm, d.badA, d.badB]), (1, d.attempts), (4, bankVersion false s),
    (4, bankVersion true s), (1, b.slot.getD 0xFF), (3, 0), (4, sequenceInForce s), (4, d.sequence)]))

/-- BANK_ERASE (R134). -/
def bankEraseBody (q : Req) (verifies : Bool) (s : State) : Body :=
  let a := bankBase (bankNum q)
  checks [lenIs q 4, bankNumOk q, notActive q s] (flashWork verifies a bankSize (flashErase a bankSize s) s)

/-- Layout of BANK_WRITE and RECORD_WRITE. -/
def writeLenOk (q : Req) : Bool × Err :=
  (decide (q.payload.length = 8 + f2 q.payload 2 ∧ 1 ≤ f2 q.payload 2 ∧ f2 q.payload 2 ≤ 1024), .badPayload)

/-- Program DATA at an address of the flash (R135). -/
def programBody (a : Nat) (b : List Byte) (verifies : Bool) (s : State) : Body :=
  match progCheck a b s with
  | .same => okEmpty s
  | .notErased => .error .flashNotErased
  | .done => flashWork verifies a b.length (flashWrite a b s) s

/-- BANK_WRITE (R134, R135). -/
def bankWriteBody (q : Req) (verifies : Bool) (s : State) : Body :=
  let p := q.payload
  checks [writeLenOk q, bankNumOk q, notActive q s, (decide (f4 p 4 + f2 p 2 ≤ bankSize), .bankRange)]
    (programBody (bankBase (bankNum q) + f4 p 4) (p.drop 8) verifies s)

/-- TRANSFER_TAG of a bank under its TRANSFER_SLOT (R118 table, R136, R618); recovery takes slot 0 alone (R132). -/
def transferOk (b : Bool) (s : State) : Bool :=
  let h := bankHeader b s
  let n := f1 h 176
  (decide (n = 0) || !s.boot.recovery) &&
    (slotKey n 2 s).any fun k =>
      verdict (Sha.hmac384 k (h.take 32 ++ watchSegment b h s ++ controlSegment b h s)) (slice h 128 48) s

/-- WATCH_TAG and CONTROL_TAG of a bank, as its seal programs them (R118). -/
def sealTags (b : Bool) (s : State) : List Byte :=
  let h := bankHeader b s
  sealTag h (watchSegment b h s) s ++ sealTag h (controlSegment b h s) s

/-- The seals of a bank are programmed, where they are not there yet, and its BAD flag is cleared (R136). (DEDUCED: log entry 57) -/
def sealBody (b verifies : Bool) (s : State) : Body :=
  let tags := sealTags b s
  let d := dirOf s
  let clear (s : State) : State := if bankBad b d then writeDir (markBank b false d) s else s
  match progCheck (bankBase b + 32) tags s with
  | .same => okEmpty (clear s)
  | .notErased => .error .flashNotErased
  | .done => flashWork verifies (bankBase b + 32) 96 (clear (flashWrite (bankBase b + 32) tags s)) s

/-- BANK_SEAL (R134, R136): the compare of TRANSFER_TAG is counted. (DEDUCED: log entry 59) -/
def bankSealBody (q : Req) (verifies : Bool) (s : State) : Body :=
  let b := bankNum q
  let h := bankHeader b s
  checks [lenIs q 4, bankNumOk q, notActive q s, (headerOk h && revisionOk h s, .bankInvalid)] <|
    if transferOk b s then sealBody b verifies (countCompare true s) else .ok (countCompare false s, .err .sealAuth [])

/-- The directory that BANK_SELECT writes (R137). (DEDUCED: log entry 58) -/
def selectDir (b : Bool) (limit : Nat) (auto : Bool) (d : Directory) : Directory :=
  { d with preferredB := b, trial := decide (limit ≠ 0), autoConfirm := auto
           trialLimit := if limit = 0 then d.trialLimit else limit, attempts := 0 }

/-- BANK_SELECT (R137, R751). (DEDUCED: log entry 58) -/
def bankSelectBody (q : Req) (verifies : Bool) (s : State) : Body :=
  let b := bankNum q
  let limit := f1 q.payload 1
  let d := dirOf s
  let base := if d.baseline = 2 then 2 else 1
  let ok := bankSealed b s && !bankBad b d && listsBaseline (bankHeader b s) base
  checks [lenIs q 4, bankNumOk q, (decide (limit ≤ 8), .badPayload), (ok, .bankInvalid)] <|
    if limit = 0 ∧ !s.boot.recovery ∧ s.boot.bankB = b then okEmpty s
    else dirWork verifies (writeDir (selectDir b limit (bitOf (f1 q.payload 2) 0) d) s) s

/-- BANK_CONFIRM (R124, R137). -/
def bankConfirmBody (q : Req) (verifies : Bool) (s : State) : Body :=
  checks [lenIs q 0, (onTrial s, .notTrial)] (dirWork verifies (confirmBank false q.requestId s) s)

/-- RESTART (R138): the response is sent, then the module restarts. -/
def restartBody (q : Req) (s : State) : Body :=
  checks [lenIs q 4, (decide (f4 q.payload 0 = s.boot.bootCount), .stale)]
    (.ok (restartRun .restart (finish Cmd.restart.row.code q (findSession q.session s) true 0 [] s), .later))

/-! ### Baselines, records and the site label (R747 to R752) -/

/-- BASELINE_GET. -/
def baselineGetBody (q : Req) (s : State) : Body :=
  checks [lenIs q 0] (okResp s (enc [(1, s.boot.baseline), (1, supportedBaselines s), (1, (dirOf s).baseline), (1, 0),
    (1, bankBaselines false s), (1, bankBaselines true s), (2, 0)]))

/-- Every sealed bank that is not BAD lists the baseline (R748). -/
def bundlesList (n : Nat) (s : State) : Bool :=
  [false, true].all fun b => bankBad b (dirOf s) || !bankSealed b s || listsBaseline (bankHeader b s) n

/-- BASELINE_SET (R747, R748). (DEDUCED: log entry 276) -/
def baselineSetBody (q : Req) (verifies : Bool) (s : State) : Body :=
  let n := f1 q.payload 0
  let d := dirOf s
  checks [lenIs q 4, (underSlot0 q s, .keyAuth), (decide (1 ≤ n) && bitOf (supportedBaselines s) (n - 1), .baselineUnsupported),
      (bundlesList n s, .baselineBundle)]
    (dirWork verifies (raise .baselineChanged q.requestId (enc [(1, d.baseline), (1, n)]) (writeDir { d with baseline := n } s)) s)

/-- RECORD_ERASE and RECORD_WRITE may act (R747, R749). -/
def recordFree (q : Req) (s : State) : List (Bool × Err) :=
  [bankNumOk q, (underSlot0 q s, .keyAuth), (!configValid s && s.kmp.stage.isNone, .recordActive)]

/-- RECORD_ERASE (R749). -/
def recordEraseBody (q : Req) (verifies : Bool) (s : State) : Body :=
  let n := f1 q.payload 0
  checks (lenIs q 4 :: recordFree q s)
    (flashWork verifies (slotBase n) slotSize (setSlotRecord n none (flashErase (slotBase n) slotSize s)) (setSlotRecord n none s))

/-- RECORD_WRITE (R135, R749); a slot that still holds a record of the module's own building is not erased. -/
def recordWriteBody (q : Req) (verifies : Bool) (s : State) : Body :=
  let p := q.payload
  let n := f1 p 0
  checks ([writeLenOk q] ++ recordFree q s ++
      [(decide (f4 p 4 + f2 p 2 ≤ slotSize), .recordRange), ((slotRecord n s).isNone, .flashNotErased)])
    (programBody (slotBase n + f4 p 4) (p.drop 8) verifies s)

/-- SITE_LABEL_SET (R749): the whole payload is the label. -/
def siteLabelSetBody (q : Req) (s : State) : Body :=
  checks [lenIs q 64] (okEmpty { s with boot := { s.boot with label := q.payload } })

/-- SITE_LABEL_GET. -/
def siteLabelGetBody (q : Req) (s : State) : Body := checks [lenIs q 0] (okResp s s.boot.label)

/-! ### The meanings -/

/-- BOOT_STATUS_GET. -/
def execBootStatusGet (q : Req) (s : State) : Host.Outcome State Fault Refusal :=
  .next (kmpExec .bootStatusGet q (bootStatusGetBody q) s)

/-- BANK_ERASE. -/
def execBankErase (q : Req) (verifies : Bool) (s : State) : Host.Outcome State Fault Refusal :=
  .next (kmpExec .bankErase q (bankEraseBody q verifies) s)

/-- BANK_WRITE. -/
def execBankWrite (q : Req) (verifies : Bool) (s : State) : Host.Outcome State Fault Refusal :=
  .next (kmpExec .bankWrite q (bankWriteBody q verifies) s)

/-- BANK_SEAL. -/
def execBankSeal (q : Req) (verifies : Bool) (s : State) : Host.Outcome State Fault Refusal :=
  .next (kmpExec .bankSeal q (bankSealBody q verifies) s)

/-- BANK_SELECT. -/
def execBankSelect (q : Req) (verifies : Bool) (s : State) : Host.Outcome State Fault Refusal :=
  .next (kmpExec .bankSelect q (bankSelectBody q verifies) s)

/-- BANK_CONFIRM. -/
def execBankConfirm (q : Req) (verifies : Bool) (s : State) : Host.Outcome State Fault Refusal :=
  .next (kmpExec .bankConfirm q (bankConfirmBody q verifies) s)

/-- RESTART. -/
def execRestart (q : Req) (s : State) : Host.Outcome State Fault Refusal :=
  .next (kmpExec .restart q (restartBody q) s)

/-- BASELINE_GET. -/
def execBaselineGet (q : Req) (s : State) : Host.Outcome State Fault Refusal :=
  .next (kmpExec .baselineGet q (baselineGetBody q) s)

/-- BASELINE_SET. -/
def execBaselineSet (q : Req) (verifies : Bool) (s : State) : Host.Outcome State Fault Refusal :=
  .next (kmpExec .baselineSet q (baselineSetBody q verifies) s)

/-- RECORD_ERASE. -/
def execRecordErase (q : Req) (verifies : Bool) (s : State) : Host.Outcome State Fault Refusal :=
  .next (kmpExec .recordErase q (recordEraseBody q verifies) s)

/-- RECORD_WRITE. -/
def execRecordWrite (q : Req) (verifies : Bool) (s : State) : Host.Outcome State Fault Refusal :=
  .next (kmpExec .recordWrite q (recordWriteBody q verifies) s)

/-- SITE_LABEL_SET. -/
def execSiteLabelSet (q : Req) (s : State) : Host.Outcome State Fault Refusal :=
  .next (kmpExec .siteLabelSet q (siteLabelSetBody q) s)

/-- SITE_LABEL_GET. -/
def execSiteLabelGet (q : Req) (s : State) : Host.Outcome State Fault Refusal :=
  .next (kmpExec .siteLabelGet q (siteLabelGetBody q) s)

/-- ABUTMENT_START. -/
def execAbutmentStart (t : Nat) (mv : Nat) (bankA33 : Bool) (bankB33 : Bool) (prtad : Fin 4) (s : State) : Host.Outcome State Fault Refusal :=
  .next (abutmentStartEffect t mv bankA33 bankB33 prtad s)

/-- ABUTMENT_RESET. -/
def execAbutmentReset (t : Nat) (mv : Nat) (s : State) : Host.Outcome State Fault Refusal :=
  .next (abutmentResetEffect t mv s)

/-- RETENTION_LOST. -/
def execRetentionLost (t : Nat) (mv : Nat) (s : State) : Host.Outcome State Fault Refusal :=
  .next (retentionLostEffect t mv s)

/-- VIN_REACHES_WATCH_ON. -/
def execVinReachesWatchOn (t : Nat) (vin : Nat) (s : State) : Host.Outcome State Fault Refusal :=
  .next (vinReachesWatchOnEffect t vin s)

/-- WAKE_PIN. -/
def execWakePin (t : Nat) (level : Bool) (mv : Nat) (s : State) : Host.Outcome State Fault Refusal :=
  .next (wakePinEffect t level mv s)

/-- FIELD_INPUT_EDGE_WAKE. -/
def execFieldInputEdgeWake (t : Nat) (pin : Fin 8) (rising : Bool) (mv : Nat) (s : State) : Host.Outcome State Fault Refusal :=
  .next (fieldInputEdgeWakeEffect t pin rising mv s)

/-- VIN_RESTORE. -/
def execVinRestore (t : Nat) (vin : Nat) (s : State) : Host.Outcome State Fault Refusal :=
  .next (vinRestoreEffect t vin s)

/-- RTC_ALARM. -/
def execRtcAlarm (t : Nat) (s : State) : Host.Outcome State Fault Refusal :=
  .next (rtcAlarmEffect t s)

/-- TRANSITION_COMPLETE. -/
def execTransitionComplete (t : Nat) (s : State) : Host.Outcome State Fault Refusal :=
  .next (transitionCompleteEffect t s)

/-- REFERENCE_START_FAIL. -/
def execReferenceStartFail (t : Nat) (s : State) : Host.Outcome State Fault Refusal :=
  .next (referenceStartFailEffect t s)

/-- REFERENCE_RETRY. -/
def execReferenceRetry (t : Nat) (s : State) : Host.Outcome State Fault Refusal :=
  .next (referenceRetryEffect t s)

/-- EV_CLOCK_FAIL. -/
def execEvClockFail (t : Nat) (n : Fin 13) (s : State) : Host.Outcome State Fault Refusal :=
  .next (clockFailEffect t n s)

/-- BANK_VERDICT. -/
def execBankVerdict (t : Nat) (agoNs : Nat) (kat : Bool) (s : State) : Host.Outcome State Fault Refusal :=
  .next (bankVerdictEffect t agoNs kat s)

/-- FLASH_NOT_ANSWERING. -/
def execFlashNotAnswering (t : Nat) (agoNs : Nat) (s : State) : Host.Outcome State Fault Refusal :=
  .next (flashNotAnsweringEffect t agoNs s)

/-- CONFIG_LOAD. -/
def execConfigLoad (t : Nat) (good : Bool) (items : List (Nat × List Byte)) (s : State) : Host.Outcome State Fault Refusal :=
  .next (configLoadEffect t good items s)

/-- CONTROL_PRELOAD. -/
def execControlPreload (t : Nat) (s : State) : Host.Outcome State Fault Refusal :=
  .next (controlPreloadEffect t s)

/-- AUTO_CONFIRM. -/
def execAutoConfirm (t : Nat) (s : State) : Host.Outcome State Fault Refusal :=
  .next (autoConfirmEffect t s)

/-- WATCHDOG. -/
def execWatchdog (t : Nat) (control : Bool) (s : State) : Host.Outcome State Fault Refusal :=
  .next (watchdogEffect t control s)

/-- WETTING_SAMPLE. -/
def execWettingSample (t : Nat) (pin : Fin 8) (mv : Nat) (s : State) : Host.Outcome State Fault Refusal :=
  .next (wettingSampleEffect t pin mv s)

end Sys2Proof.Machine
end

