-- ==== Sys2Proof/Machine/HostRegs.lean ====
section
/-! DEFINITION. Machine/HostRegs.lean: the contents of the host window's registers, and their mirror on MDIO (R66, R104, R140, R217,
R245, R288, R324, R362, R418, R461, R496, R528, R569, R603, R631, R671, R708, R735, R765). -/

namespace Sys2Proof.Machine

open Sys2Proof

/-- A register word from its fields, each a width in bits and a value, lowest field first (R5). -/
def bitFields : List (Nat × Nat) → Nat
  | [] => 0
  | (w, x) :: l => x % 2 ^ w + 2 ^ w * bitFields l

/-- A map register: bit `n` for each of 32 numbers from `base` that `f` holds of. (PRESUMED: log entry 102) -/
def mapBits (base : Nat) (f : Nat → Bool) : Nat := flags ((List.range 32).map fun n => f (base + n))

/-! ### This chapter's own (R245) -/

/-- HW_ID. -/
def hwId (s : State) : Nat :=
  bitFields [(16, 0x0128), (2, b2n s.ident.revB), (2, s.boot.baseline), (2, supportedBaselines s), (1, b2n s.ident.iax)]

/-- MODE_STATUS (R66); in recovery MODE and TARGET read Watch (R132). (DEDUCED: log entries 24, 277) -/
def modeStatus (s : State) : Nat :=
  let r := s.boot.recovery
  bitFields [(3, if r || decide (s.sup.mode = .off) then 1 else s.sup.mode.code), (3, if r then 1 else s.sup.target.code), (1, b2n (holdReady s)),
    (1, b2n (strikeOpen s)), (1, b2n s.sw.ovCut), (1, b2n (rideActive s)), (1, b2n s.sup.transition.isSome), (1, b2n r), (4, 0),
    (16, s.sup.vinMv)]

/-- SUPPLY_STATUS (R66). -/
def supplyStatus (s : State) : Nat := bitFields [(16, s.sup.vholdMv), (16, s.sup.vinMinMv)]

/-- TIME_STATUS (R104). -/
def timeStatus (s : State) : Nat :=
  bitFields [(3, s.tb.quality.code), (2, s.tb.source.code), (1, b2n s.tb.tenMhz), (1, b2n s.tb.ppsPresent), (1, b2n s.tb.rtcFail),
    (1, b2n s.tb.coldStart), (7, 0), (16, s.tb.stepCount)]

/-- BOOT_STATUS (R140). -/
def bootStatus (s : State) : Nat :=
  let b := s.boot
  bitFields [(1, b2n b.bankB), (1, b2n b.trial), (1, b2n b.fallback), (1, b2n b.recovery), (1, b.slot.getD 0), (1, b2n (configValid s)),
    (3, b.cause.code), (4, b.stage.code), (3, 0), (16, b.bootCount)]

/-- PATH codes (R245). -/
def pathCode : HostPath → Nat
  | .pcie => 0
  | .spi => 1

/-- ACCESS_ERR. -/
def accessErrWord (s : State) : Nat :=
  let e := s.host.err
  bitFields [(16, e.offset.toNat), (3, e.kind.toNat), (1, b2n e.path), (1, b2n e.write), (2, e.width.toNat), (1, b2n e.overflow),
    (8, e.count.toNat)]

/-- RING_CTRL. -/
def ringCtrl (s : State) : Nat :=
  let r := s.host.rings
  bitFields [(1, b2n r.enable), (1, b2n r.locBuffer), (1, 0), (1, b2n r.ownerSpi)]

/-- The transport of the ring owner. -/
def ringTransport (s : State) : Transport := if s.host.rings.ownerSpi then .spi else .pcie

/-- The rings are served: enabled, on a path that serves KMP (R148, R245). -/
def ringsServed (s : State) : Bool := s.host.rings.enable && transportServed (ringTransport s) s

/-- RING_STATUS. -/
def ringStatus (s : State) : Nat := bitFields [(1, b2n (ringsServed s)), (2, s.host.rings.fault.toNat)]

/-- HOST_FLAG and CORE_FLAG. -/
def hostFlag (s : State) : Nat :=
  bitFields [(1, b2n s.host.driverUp), (1, b2n s.host.quiesceReq), (6, 0), (24, s.host.hostFree.toNat)]
def coreFlag (s : State) : Nat :=
  bitFields [(1, b2n s.host.fwUp), (1, b2n s.host.quiesced), (14, 0), (16, s.host.fwStarts.toNat)]

/-- The registers of the host window's own chapter, TIME_LATCH as the peek alias reads it (R224, R245). -/
def ownRegs (s : State) : List (Nat × Nat) :=
  let h := s.host
  let r := h.rings
  let x := h.snap
  [(0x0000, hwId s), (0x0004, if s.boot.loading.isSome then 0 else s.boot.version), (0x0008, s.ident.serial.toNat % 2 ^ 32),
    (0x000C, s.ident.serial.toNat / 2 ^ 32), (0x0010, modeStatus s), (0x0014, supplyStatus s), (0x0018, timeStatus s),
    (0x001C, bootStatus s), (0x0024, accessErrWord s), (0x0028, h.intCause.toNat), (0x002C, h.intMask.toNat),
    (0x0030, (intPending h).toNat), (0x0100, ringCtrl s), (0x0104, ringStatus s), (0x0108, r.reqBase.toNat % 2 ^ 32),
    (0x010C, r.reqBase.toNat / 2 ^ 32), (0x0110, r.reqLog2.toNat), (0x0114, r.reqTail.toNat), (0x0118, r.reqHead.toNat),
    (0x0120, r.rspBase.toNat % 2 ^ 32), (0x0124, r.rspBase.toNat / 2 ^ 32), (0x0128, r.rspLog2.toNat), (0x012C, r.rspHead.toNat),
    (0x0130, r.rspTail.toNat), (0x0200, x.ns), (0x0204, x.ns), (0x0208, x.sec % 2 ^ 32),
    (0x020C, bitFields [(16, x.sec / 2 ^ 32), (8, x.count.toNat), (2, x.cause.toNat), (3, x.quality.toNat)]),
    (0x0210, bitFields [(1, 0), (1, b2n x.armPps)]), (0x0220, hostFlag s), (0x0224, coreFlag s), (0x0228, h.hostWrites.toNat),
    (0x0230, h.scratch0.toNat), (0x0234, h.scratch1.toNat), (0x0238, h.scratch2.toNat), (0x023C, h.scratch3.toNat),
    (0x0300, h.msixAddrLo.toNat), (0x0304, h.msixAddrHi.toNat), (0x0308, h.msixData.toNat), (0x030C, b2n h.msixMask),
    (0x0380, b2n h.msixPending), (0x0384, 0)]

/-! ### Lanes, ports and Causeway (R288, R324, R362) -/

/-- LANE_SEL and CW_SEL of a path. -/
def laneSel (p : HostPath) (s : State) : Nat :=
  match p with
  | .pcie => s.host.laneSelPcie
  | .spi => s.host.laneSelSpi
def cwSel (p : HostPath) (s : State) : Nat :=
  match p with
  | .pcie => s.host.cwSelPcie
  | .spi => s.host.cwSelSpi

/-- LANE_STATUS of a lane, or of none. -/
def laneStatusWord (l : Nat) (s : State) : Nat :=
  if 144 ≤ l then 0xFF0000
  else
    let x := laneOf l s
    bitFields [(2, x.tx.code), (2, x.rx.code), (3, x.rate), (2, x.owner.code), (1, b2n x.signal), (1, b2n x.cdr), (1, b2n x.dfeRail),
      (2, if x.owner = .causeway then x.align.code else 0), (1, b2n x.test.locked), (1, b2n x.quarantine), (8, l)]

/-- CW_STATUS of a lane, or of none. -/
def cwStatusWord (l : Nat) (s : State) : Nat :=
  if 144 ≤ l then 0xFF0000
  else
    let x := linkOf l s
    bitFields [(3, x.state.code), (1, b2n x.joint), (6, cwFlags l s), (6, 0), (8, l)]

/-- The registers of the lane and port block and of the Causeway block. -/
def lineRegs (p : HostPath) (s : State) : List (Nat × Nat) :=
  [(0x0400, laneSel p s), (0x0404, laneStatusWord (laneSel p s) s), (0x0800, cwSel p s), (0x0804, cwStatusWord (cwSel p s) s)] ++
    ((List.range 5).map fun w => (0x0410 + 4 * w, mapBits (32 * w) fun l => decide (l < 144) && (laneOf l s).cdr)) ++
    ((List.range 4).map fun w => (0x0430 + 4 * w, mapBits (32 * w) fun q => (portOf q s).link)) ++
    ((List.range 4).map fun w => (0x0440 + 4 * w, mapBits (32 * w) fun q => (Tbl.get {} s.ports.cage q).present)) ++
    ((List.range 5).map fun w => (0x0810 + 4 * w, mapBits (32 * w) fun l => decide ((linkOf l s).state = .up))) ++
    (List.range 5).map fun w => (0x0830 + 4 * w, mapBits (32 * w) fun l => decide ((linkOf l s).state = .hold))

/-! ### Classification, tables, Truss, Decks and egress (R418, R461, R496, R528) -/

/-- Group `g` holds a BAD entry (R461). -/
def badIn (g : Nat) (s : State) : Bool :=
  let l := s.fwd.live
  match g with
  | 0 => l.bridge.any fun e => e.2.any fun x => x.bad
  | 1 => l.host.any fun e => e.2.any fun x => x.bad
  | 2 => l.label.any fun e => e.2.any fun x => x.bad
  | 3 => !l.badRoots.isEmpty
  | 4 => (l.nexthop.any fun e => e.2.any fun x => x.bad) || l.portset.any fun e => e.2.any fun x => x.bad
  | 5 => l.ecmp.any fun e => e.2.any fun x => x.bad
  | 6 => s.cls.follow.any fun e => e.2.any fun x => x.bad
  | _ => (s.fwd.vlan.any fun e => e.2.bad) || s.fwd.router.any fun x => x.bad

/-- Punt class `n` has dropped a frame within the last second (R418). -/
def puntDropping (n : Nat) (s : State) : Bool :=
  match (Tbl.get {} s.cls.punt n).lastDropAt with
  | none => false
  | some a => decide (s.elapsed < a + sNs 1)

/-- The registers of the classification and table block. -/
def classRegs (s : State) : List (Nat × Nat) :=
  [(0x0C00, bitFields [(5, 0), (1, 0), (1, b2n s.cls.loading), (9, 0), (16, s.cls.parityEvents)]),
    (0x0C04, mapBits 0 fun k => (bankOf k s).reserved),
    (0x0C08, bitFields [(13, followUsed s), (3, 0), (8, min 255 s.cls.held.length)]),
    (0x0C0C, flags ((List.range 8).map fun n => puntDropping n s)),
    (0x0C10, bitFields [(8, flags ((List.range 8).map fun g => badIn g s)), (8, s.fwd.uncorrSeen.toNat), (8, s.fwd.corrSeen.toNat)]),
    (0x0C14, bitFields [(13, s.fwd.results.length), (1, b2n s.fwd.queueFullSeen), (2, 0), (16, s.fwd.contestsWrap)]),
    (0x0C18, flags [s.fwd.gen, s.fwd.pend.isSome, s.fwd.loading])]

/-- DECK_FREE of a Deck (R496). -/
def deckFreeWord (d : Nat) (s : State) : Nat :=
  if s.dp.powered.contains d then bitFields [(16, (deckOf d s).freeCells), (16, (deckOf d s).freeDesc)] else 0

/-- The registers of the Truss, Deck and egress block. -/
def deckRegs (s : State) : List (Nat × Nat) :=
  let d := s.dp
  [(0x1000, bitFields [(8, d.reseqSeen.toNat), (8, d.cellErrSeen.toNat), (8, d.launchDropSeen.toNat), (8, d.exhaustedSeen.toNat)]),
    (0x1130, d.protClasses)] ++
    ((List.range 8).map fun n => (0x1010 + 4 * n, deckFreeWord n s)) ++
    ((List.range 4).map fun w => (0x1100 + 4 * w, mapBits (32 * w) fun p => (egressOf p s).list.isSome)) ++
    ((List.range 4).map fun w => (0x1110 + 4 * w, mapBits (32 * w) fun p => (egressOf p s).pend.isSome)) ++
    (List.range 4).map fun w => (0x1120 + 4 * w, d.delayAlarmMap.toNat / 2 ^ (32 * w) % 2 ^ 32)

/-! ### Span, DRAM, digest, field I/O, cores and counters (R569, R603, R631, R671, R708, R735) -/

/-- The four channels' flags. -/
def chFlags4 (f : Channel → Bool) (s : State) : Nat := flags ((List.range 4).map fun c => f (chan c s))

/-- Temperature of a channel in DRAM_TEMP (R603). -/
def tempByte (c : Nat) (s : State) : Nat := if chPowered c s then twos 1 (chan c s).tempC else 0x80

/-- A slot holds a key (R631). -/
def slotHolds (n : Nat) (s : State) : Bool := decide ((slotOf n s).state = .loaded ∨ (slotOf n s).state = .fused)

/-- IDCODE (R687). -/
def idcode (s : State) : Nat := bitFields [(1, 1), (11, s.ident.vendor.toNat), (16, 0x0128), (4, b2n s.ident.revB)]

/-- A halt waits for the end of a locked sequence. -/
def haltPending (s : State) : Bool := s.dbg.control.pend.isSome || s.dbg.watch.pend.isSome

/-- CORE_STATUS (R708). -/
def coreStatus (s : State) : Nat :=
  bitFields [(3, coreStateCode false s), (3, coreStateCode true s), (1, b2n s.dbg.opened), (1, b2n s.dbg.lockBroken),
    (1, b2n (haltPending s)), (7, 0), (16, s.dbg.lockCount)]

/-- LAST_SNAP_ID (R735). -/
def lastSnapId (s : State) : Nat := (s.cnt.snaps.map fun x => x.id).foldl max 0

/-- The registers of the remaining blocks. -/
def restRegs (s : State) : List (Nat × Nat) :=
  [(0x1400, bitFields [(3, s.span.state.code), (2, s.span.role.code), (1, s.span.cfg.member), (10, 0), (16, countedMask s)]),
    (0x1500, bitFields [(3, (chan 0 s).state.code), (3, (chan 1 s).state.code), (3, (chan 2 s).state.code), (3, (chan 3 s).state.code),
      (4, chFlags4 (fun c => c.retrainDue) s), (4, chFlags4 (fun c => c.withdrawn) s), (4, chFlags4 (fun c => c.uncorrSeen) s),
      (4, chFlags4 (fun c => c.caFailedSeen) s)]),
    (0x1504, bitFields ((List.range 4).map fun c => (8, tempByte c s))),
    (0x1800, bitFields [(16, flags ((List.range 16).map fun n => slotHolds n s)), (1, b2n s.dig.slot0Ok), (1, b2n s.dig.katOk)]),
    (0x1804, bitFields [(16, s.dig.compares.toNat), (16, s.dig.fails.toNat)]),
    (0x1C00, bitFields [(8, pinBits 8 fun n => levelOf (fioOf n s)), (8, pinBits 8 fun n => (fioOf n s).on),
      (8, pinBits 8 fun n => (fioOf n s).latched), (8, pinBits 8 fun n => (fioOf n s).conflict)]),
    (0x1C10, s.io.data), (0x1C14, gpioDir s), (0x1C18, padLevels s), (0x1C1C, padLevels s),
    (0x1C20, bitFields [(16, s.sup.vinMv), (1, b2n (adcOf 0 s).highRange), (1, b2n (adcOf 0 s).rangeStep)]),
    (0x1C24, flags ((List.range 7).map fun c => decide (adcStatus c s ≠ 0 ∧ adcStatus c s ≠ 5))),
    (0x2000, coreStatus s), (0x2004, idcode s),
    (0x2100, bitFields [(10, s.cnt.logHead), (6, 0), (16, flags ((List.range 16).map fun n => (Tbl.get {} s.cnt.monitors n).tripped))]),
    (0x2104, s.cnt.epoch % 2 ^ 32), (0x2108, lastSnapId s % 2 ^ 32)]

/-! ### The map (R217, R219) -/

/-- Every register of the window by its offset, as a path reads it. (DEDUCED: log entries 103, 238) -/
def hostRegs (p : HostPath) (s : State) : List (Nat × Nat) :=
  ownRegs s ++ lineRegs p s ++ classRegs s ++ deckRegs s ++ restRegs s

/-- The word at an offset that is a multiple of 4, without side effect; none where nothing lies (R219). -/
def windowWord (p : HostPath) (o : Nat) (s : State) : Option Nat :=
  if 0x4000 ≤ o ∧ o < 0x8000 then some (leVal (Mem.read 0 s.host.buffer (o - 0x4000) 4))
  else (((hostRegs p s).find? fun r => r.1 == o).map fun r => r.2 % 2 ^ 32)

/-- Offsets that take 8-bit and 16-bit writes (R217). -/
def byteWritable (o : Nat) : Bool :=
  decide (o = 0x002C ∨ o = 0x0220 ∨ 0x0230 ≤ o ∧ o < 0x0240 ∨ 0x0300 ≤ o ∧ o < 0x0400 ∨ 0x4000 ≤ o)

/-- The ring registers. -/
def isRingReg (o : Nat) : Bool := decide (0x0100 ≤ o ∧ o ≤ 0x0130)

/-- The item that MDIO mirrors at index `a` of MMD 30 (R765). -/
def mdioItem (a : Nat) (s : State) : Nat :=
  match a with
  | 0 => hwId s
  | 1 => modeStatus s
  | 2 => timeStatus s
  | 3 => bootStatus s
  | n + 4 => if n < 4 then mapBits (32 * n) fun q => (portOf q s).link else 0

/-- What a read of a register of an MMD over MDIO returns, at port address 0x1C + PRTAD (R765). (DEDUCED: log entry 110) -/
def mdioRead (port mmd reg : Nat) (s : State) : Option Nat :=
  if port ≠ 0x1C + s.io.prtad ∨ s.sup.mode = .shelf ∨ s.sup.mode = .off then none
  else if mmd ≠ 30 then some 0
  else some (mdioItem (reg / 2) s / 2 ^ (16 * (reg % 2)) % 2 ^ 16)

end Sys2Proof.Machine
end

