-- ==== Sys2Proof/Machine/HostWindow.lean ====
section
/-! DEFINITION. Machine/HostWindow.lean: host reads and writes, interrupts, the rings and the PCIe link (R214 to R249). -/

namespace Sys2Proof.Machine

open Sys2Proof

/-! ### Accesses (R216 to R225) -/

/-- Bytes of an access. -/
def widthBytes : Width → Nat
  | .w8 => 1
  | .w16 => 2
  | .w32 => 4

/-- WIDTH codes of ACCESS_ERR. -/
def widthCode : Width → Nat
  | .w8 => 0
  | .w16 => 1
  | .w32 => 2

/-- The path reaches the window: PCIe while its link is up, SPI outside Shelf and as soon as a Keystone run begins (R242, R243).
(DEDUCED: log entry 109) -/
def pathUp (p : HostPath) (s : State) : Bool :=
  match p with
  | .pcie => s.host.linkUp && !s.host.perst
  | .spi => decide (tickNs s.sup.mode ≠ 0) || s.clk.reference

/-- Log an access in ACCESS_ERR (R225). -/
def logAccess (kind : Nat) (p : HostPath) (write : Bool) (width off : Nat) (s : State) : State :=
  let e := s.host.err
  if e.count = 0 then
    setCause causeAccess (updHost (fun h => { h with err :=
      { offset := BitVec.ofNat 16 off, kind := BitVec.ofNat 3 kind, path := decide (p = .spi), write := write
        width := BitVec.ofNat 2 width, overflow := false, count := 1 } }) s)
  else updHost (fun h => { h with err := { e with overflow := true, count := if e.count = 255 then 255 else e.count + 1 } }) s

/-- An access is not aligned, or its byte enables leave gaps (R220, R222). -/
def unaligned (off : Nat) (w : Width) (uneven : Bool) : Bool := uneven || decide (off % widthBytes w ≠ 0)

/-- The side effect of a base read of a register, and the value it returns (R66, R217, R225, R238, R239). -/
def baseRead (p : HostPath) (o v : Nat) (s : State) : State × Nat :=
  if o = 0x0014 then ({ s with sup := { s.sup with vinMinMv := s.sup.vinMv } }, v)
  else if o = 0x0024 then (updHost (fun h => { h with err := {} }) s, v)
  else if o = 0x0200 then (takeSnap 0 s, s.tb.now % nsPerS)
  else if o = 0x0228 then (updHost (fun h => { h with inbound := h.inbound.filter fun x => decide (x.1 ≠ p) }) s, v)
  else (s, v)

/-- A read of the window (R219, R220, R223, R224). -/
def hostRead (p : HostPath) (off : Nat) (w : Width) (uneven : Bool) (s : State) : State :=
  let n := widthBytes w
  let o := off % 0x8000 / 4 * 4
  if !pathUp p s then s
  else if unaligned off w uneven then
    emit (.hostRead p (List.replicate n 0xFF)) (logAccess 2 p false (widthCode w) off s)
  else
    match windowWord p o s with
    | none => emit (.hostRead p (List.replicate n 0)) (logAccess 3 p false (widthCode w) off s)
    | some v =>
      let r := if off < 0x8000 then baseRead p o v s else (s, v)
      emit (.hostRead p (slice (le 4 r.2) (off % 4) n)) r.1

/-- A host write that is performed is counted and passes the inbound buffer of its path (R239, R245). (DEDUCED: log entries 100, 104) -/
def noteWrite (p : HostPath) (off : Nat) (b : List Byte) (s : State) : State :=
  updHost (fun h =>
    { h with
      hostWrites := h.hostWrites + 1
      inbound := (h.inbound ++ [(p, off, b)]).drop (h.inbound.length + 1 - 8) }) s

/-! ### Rings (R228 to R237) -/

/-- A ring fault (R236). -/
def ringFault (cause : Nat) (s : State) : State :=
  let s1 := updHost (fun h => { h with rings := { h.rings with enable := false, fault := BitVec.ofNat 2 cause } }) s
  setCause causeRingFault (raise .hostRingFault 0 (enc [(1, cause), (1, b2n s.host.rings.ownerSpi)]) s1)

/-- Entries of the request and of the response ring. -/
def reqEntries (r : Rings) : Nat := 2 ^ r.reqLog2.toNat
def rspEntries (r : Rings) : Nat := 2 ^ r.rspLog2.toNat

/-- Change the rings. -/
def updRings (f : Rings → Rings) (s : State) : State := updHost (fun h => { h with rings := f h.rings }) s

/-- ENTRIES_LOG2 in range (R234, R245). -/
def log2Ok (r : Rings) : Bool :=
  let top := if r.locBuffer then 2 else 8
  decide (1 ≤ r.reqLog2.toNat ∧ r.reqLog2.toNat ≤ top ∧ 1 ≤ r.rspLog2.toNat ∧ r.rspLog2.toNat ≤ top)

/-- ENABLE is written while the rings are disabled: the path becomes the owner, and the rings are served or a fault is raised (R233,
R236). -/
def enableRings (p : HostPath) (loc : Bool) (s : State) : State :=
  let spi := decide (p = .spi)
  let s1 := updRings (fun r => { r with ownerSpi := spi, locBuffer := loc }) s
  if !log2Ok s1.host.rings || (!loc && (spi || !s.host.busMaster)) then ringFault 1 s1
  else updRings (fun r => { r with enable := true }) s1

/-- A write of RING_CTRL (R233 to R237). (DEDUCED: log entry 98) -/
def writeRingCtrl (p : HostPath) (v : Nat) (s : State) : State :=
  let loc := bitOf v 1
  if bitOf v 2 then updRings (fun r => { r with locBuffer := loc }) (ringsReset s)
  else if bitOf v 0 then
    if s.host.rings.enable then (if loc = s.host.rings.locBuffer then s else logAccess 7 p true 2 0x0100 s)
    else enableRings p loc s
  else updRings (fun r => { r with enable := false, locBuffer := loc }) s

/-- A write of a base or size register, which must wait until the rings are disabled (R235). -/
def ringSetting (p : HostPath) (o : Nat) (f : Rings → Rings) (s : State) : State :=
  if s.host.rings.enable then logAccess 7 p true 2 o s else updRings f s

/-- Half of a base register replaced. -/
def withLow (x : BitVec 64) (v : Nat) : BitVec 64 := BitVec.ofNat 64 (x.toNat / 2 ^ 32 * 2 ^ 32 + v / 4096 * 4096)
def withHigh (x : BitVec 64) (v : Nat) : BitVec 64 := BitVec.ofNat 64 (x.toNat % 2 ^ 32 + v * 2 ^ 32)

/-- The request doorbell (R236, R246). (DEDUCED: log entry 99) -/
def writeReqTail (v : Nat) (s : State) : State :=
  let s1 := updRings (fun r => { r with reqTail := BitVec.ofNat 16 v }) s
  let r := s1.host.rings
  if r.enable ∧ reqEntries r < (r.reqTail - r.reqHead).toNat then ringFault 3 s1 else s1

/-- The response doorbell (R231, R236). (DEDUCED: log entry 99) -/
def writeRspHead (v : Nat) (s : State) : State :=
  let old := s.host.rings
  let s1 := updRings (fun r => { r with rspHead := BitVec.ofNat 16 v }) s
  let r := s1.host.rings
  if r.enable ∧ (r.rspTail - old.rspHead).toNat < (r.rspTail - r.rspHead).toNat then ringFault 3 s1 else s1

/-! ### Writes (R221, R224, R226, R227) -/

/-- A write to INT_CAUSE or INT_MASK that leaves INT_PENDING non-zero sends one message (R226). (DEDUCED: log entry 101) -/
def afterIntWrite (s : State) : State := if intPending s.host = 0 then s else sendMsi s

/-- A write of INT_CAUSE: a cause that arrives on the same clock stays (R227). -/
def writeIntCause (v : Nat) (s : State) : State :=
  let h := s.host
  let keep := if h.causeAt = s.elapsed then h.causeNow else 0
  afterIntWrite (updHost (fun h => { h with intCause := (h.intCause &&& ~~~(BitVec.ofNat 10 v)) ||| (h.intCause &&& keep) }) s)

/-- A write of the time snapshot's control (R238). -/
def writeSnap (v : Nat) (s : State) : State :=
  let s1 := if bitOf v 0 then takeSnap 1 s else s
  updHost (fun h => { h with snap := { h.snap with armPps := bitOf v 1 } }) s1

/-- A write of HOST_FLAG (R249). -/
def writeHostFlag (v : Nat) (s : State) : State :=
  noteQuiesced (updHost (fun h =>
    { h with driverUp := bitOf v 0, quiesceReq := bitOf v 1, hostFree := BitVec.ofNat 24 (v / 256) }) s)

/-- A write of the MSI-X vector control: unmasking sends what was pending (PCI Express Base 4.0). (PRESUMED: log entry 102) -/
def writeMsixCtl (v : Nat) (s : State) : State :=
  let mask := bitOf v 0
  let s1 := updHost (fun h => { h with msixMask := mask }) s
  if !mask ∧ s.host.msixPending then sendMsi (updHost (fun h => { h with msixPending := false }) s1) else s1

/-- LANE_SEL and CW_SEL of the writing path (R288, R362). -/
def writeLaneSel (p : HostPath) (v : Nat) (s : State) : State :=
  match p with
  | .pcie => updHost (fun h => { h with laneSelPcie := v % 256 }) s
  | .spi => updHost (fun h => { h with laneSelSpi := v % 256 }) s
def writeCwSel (p : HostPath) (v : Nat) (s : State) : State :=
  match p with
  | .pcie => updHost (fun h => { h with cwSelPcie := v % 256 }) s
  | .spi => updHost (fun h => { h with cwSelSpi := v % 256 }) s

/-- Bits cleared by writing 1. -/
def w1c {n : Nat} (x : BitVec n) (v : Nat) : BitVec n := x &&& ~~~(BitVec.ofNat n v)

/-- A flag cleared by writing 1 to bit `k`. -/
def w1cFlag (x : Bool) (v k : Nat) : Bool := x && !bitOf v k

/-- A write of DRAM_STATUS (R603). -/
def writeDramStatus (v : Nat) (s : State) : State :=
  forEach (List.range 4) (fun c => updChan c (fun x =>
    { x with uncorrSeen := w1cFlag x.uncorrSeen v (20 + c), caFailedSeen := w1cFlag x.caFailedSeen v (24 + c) })) s

/-- A write of the registers with W1C fields outside the chapter. -/
def writeSticky (o v : Nat) (s : State) : State :=
  match o with
  | 0x0018 => { s with tb := { s.tb with rtcFail := w1cFlag s.tb.rtcFail v 7, coldStart := w1cFlag s.tb.coldStart v 8 } }
  | 0x0C10 => { s with fwd := { s.fwd with uncorrSeen := w1c s.fwd.uncorrSeen (v / 2 ^ 8), corrSeen := w1c s.fwd.corrSeen (v / 2 ^ 16) } }
  | 0x0C14 => { s with fwd := { s.fwd with queueFullSeen := w1cFlag s.fwd.queueFullSeen v 13 } }
  | 0x1000 =>
    { s with dp :=
      { s.dp with
        reseqSeen := w1c s.dp.reseqSeen v, cellErrSeen := w1c s.dp.cellErrSeen (v / 2 ^ 8)
        launchDropSeen := w1c s.dp.launchDropSeen (v / 2 ^ 16), exhaustedSeen := w1c s.dp.exhaustedSeen (v / 2 ^ 24) } }
  | 0x1500 => writeDramStatus v s
  | 0x2000 => { s with dbg := { s.dbg with lockBroken := w1cFlag s.dbg.lockBroken v 7 } }
  | _ =>
    if 0x1120 ≤ o ∧ o < 0x1130 then
      { s with dp := { s.dp with delayAlarmMap := w1c s.dp.delayAlarmMap (v * 2 ^ (8 * (o - 0x1120))) } }
    else s

/-- Write a whole register; fields without a write of their own ignore it (R8). -/
def writeWord (p : HostPath) (o v : Nat) (s : State) : State :=
  match o with
  | 0x0028 => writeIntCause v s
  | 0x002C => afterIntWrite (updHost (fun h => { h with intMask := BitVec.ofNat 10 v }) s)
  | 0x0100 => writeRingCtrl p v s
  | 0x0108 => ringSetting p o (fun r => { r with reqBase := withLow r.reqBase v }) s
  | 0x010C => ringSetting p o (fun r => { r with reqBase := withHigh r.reqBase v }) s
  | 0x0110 => ringSetting p o (fun r => { r with reqLog2 := BitVec.ofNat 4 v }) s
  | 0x0114 => writeReqTail v s
  | 0x0120 => ringSetting p o (fun r => { r with rspBase := withLow r.rspBase v }) s
  | 0x0124 => ringSetting p o (fun r => { r with rspBase := withHigh r.rspBase v }) s
  | 0x0128 => ringSetting p o (fun r => { r with rspLog2 := BitVec.ofNat 4 v }) s
  | 0x012C => writeRspHead v s
  | 0x0210 => writeSnap v s
  | 0x0220 => writeHostFlag v s
  | 0x0230 => updHost (fun h => { h with scratch0 := BitVec.ofNat 32 v }) s
  | 0x0234 => updHost (fun h => { h with scratch1 := BitVec.ofNat 32 v }) s
  | 0x0238 => updHost (fun h => { h with scratch2 := BitVec.ofNat 32 v }) s
  | 0x023C => updHost (fun h => { h with scratch3 := BitVec.ofNat 32 v }) s
  | 0x0300 => updHost (fun h => { h with msixAddrLo := BitVec.ofNat 32 v }) s
  | 0x0304 => updHost (fun h => { h with msixAddrHi := BitVec.ofNat 32 v }) s
  | 0x0308 => updHost (fun h => { h with msixData := BitVec.ofNat 32 v }) s
  | 0x030C => writeMsixCtl v s
  | 0x0400 => writeLaneSel p v s
  | 0x0800 => writeCwSel p v s
  | _ => if 0x4000 ≤ o then updHost (fun h => { h with buffer := Mem.write 0 h.buffer (o - 0x4000) (le 4 v) }) s else writeSticky o v s

/-- Bytes written into a register word from byte `k` on. -/
def mergeBytes (old k : Nat) (b : List Byte) : Nat :=
  let o := le 4 old
  leVal (o.take k ++ b ++ o.drop (k + b.length))

/-- The ring setting is locked: the write is discarded and logged with KIND 7 (R235). -/
def settingLocked (o : Nat) (s : State) : Bool :=
  s.host.rings.enable && [0x0108, 0x010C, 0x0110, 0x0120, 0x0124, 0x0128].contains o

/-- A write of the window (R219, R221, R223, R224, R233, R235). (DEDUCED: log entry 97) -/
def hostWrite (p : HostPath) (off : Nat) (w : Width) (uneven : Bool) (data : Nat) (s : State) : State :=
  let n := widthBytes w
  let o := off / 4 * 4
  let bad (k : Nat) : State := logAccess k p true (widthCode w) off s
  if !pathUp p s then s
  else if unaligned off w uneven then bad 2
  else if 0x8000 ≤ off then bad 4
  else
    match windowWord p o s with
    | none => bad 3
    | some v =>
      if n < 4 ∧ !byteWritable o then bad 1
      else if isRingReg o ∧ s.host.rings.enable ∧ s.host.rings.ownerSpi ≠ decide (p = .spi) then bad 5
      else if settingLocked o s then bad 7
      else
        let b := (le 4 data).take n
        writeWord p o (mergeBytes v (off % 4) b) (noteWrite p off b s)

/-! ### The rows of accesses -/

/-- HOST_WINDOW_WRITE. -/
def hostWindowWriteEffect (t : Nat) (path : HostPath) (off : BitVec 16) (w : Width) (uneven : Bool) (data : BitVec 32)
    (s0 : State) : State :=
  hostWrite path off.toNat w uneven data.toNat (advance t s0)

/-- UNMAPPED_READ: a read of any offset; where nothing lies it returns 0 (R219). -/
def unmappedReadEffect (t : Nat) (path : HostPath) (off : BitVec 16) (w : Width) (s0 : State) : State :=
  hostRead path off.toNat w false (advance t s0)

/-- UNALIGNED_READ: a read of any offset; where it is not aligned it returns 0xFF (R222, R223). -/
def unalignedReadEffect (t : Nat) (path : HostPath) (off : BitVec 16) (w : Width) (uneven : Bool) (s0 : State) : State :=
  hostRead path off.toNat w uneven (advance t s0)

/-- MALFORMED_SPI_TRANSACTION: a command byte with width 3 or a bit of [6:2] set, or a word cut short (R216, R245). -/
def malformedSpiTransactionEffect (t : Nat) (cmd : BitVec 8) (off : BitVec 16) (cut : Bool) (s0 : State) : State :=
  let s := advance t s0
  let c := cmd.toNat
  if pathUp .spi s ∧ (cut ∨ c % 4 = 3 ∨ c / 4 % 32 ≠ 0) then logAccess 6 .spi (!bitOf c 7) (c % 4) off.toNat s else s

/-- The offset of byte `k` of a register, at its base or through the peek alias. -/
def regOffset (reg : Nat) (k : Fin 4) (peek : Bool) : Nat := reg + k.val + if peek then 0x8000 else 0

/-- SUPPLY_STATUS: a read (R66). -/
def supplyStatusEffect (t : Nat) (path : HostPath) (byte : Fin 4) (w : Width) (peek : Bool) (s0 : State) : State :=
  hostRead path (regOffset 0x0014 byte peek) w false (advance t s0)

/-- ACCESS_ERR: a read (R225). -/
def accessErrEffect (t : Nat) (path : HostPath) (byte : Fin 4) (w : Width) (peek : Bool) (s0 : State) : State :=
  hostRead path (regOffset 0x0024 byte peek) w false (advance t s0)

/-- TIME_LATCH: a read (R238). -/
def timeLatchEffect (t : Nat) (path : HostPath) (byte : Fin 4) (w : Width) (peek : Bool) (s0 : State) : State :=
  hostRead path (regOffset 0x0200 byte peek) w false (advance t s0)

/-- FENCE: a read (R239). (DEDUCED: log entry 104) -/
def fenceEffect (t : Nat) (path : HostPath) (byte : Fin 4) (w : Width) (peek : Bool) (s0 : State) : State :=
  hostRead path (regOffset 0x0228 byte peek) w false (advance t s0)

/-- A write of `data` with some bits set at byte `k` of a register. -/
def regWrite (t reg set : Nat) (path : HostPath) (k : Fin 4) (w : Width) (peek : Bool) (data : BitVec 32) (s0 : State) : State :=
  hostWrite path (regOffset reg k peek) w false (data ||| BitVec.ofNat 32 set).toNat (advance t s0)

/-- TAKE: a write with bit 0 set (R238). -/
def takeSnapshotEffect (t : Nat) (path : HostPath) (byte : Fin 4) (w : Width) (peek : Bool) (data : BitVec 32) (s0 : State) : State :=
  regWrite t 0x0210 1 path byte w peek data s0

/-- ARM_PPS: a write with bit 1 set (R238). -/
def armPpsEffect (t : Nat) (path : HostPath) (byte : Fin 4) (w : Width) (peek : Bool) (data : BitVec 32) (s0 : State) : State :=
  regWrite t 0x0210 2 path byte w peek data s0

/-- INT_CAUSE: a write (R226, R227). -/
def intCauseEffect (t : Nat) (path : HostPath) (byte : Fin 4) (w : Width) (peek : Bool) (data : BitVec 32) (s0 : State) : State :=
  regWrite t 0x0028 0 path byte w peek data s0

/-- INT_MASK: a write (R226). -/
def intMaskEffect (t : Nat) (path : HostPath) (byte : Fin 4) (w : Width) (peek : Bool) (data : BitVec 32) (s0 : State) : State :=
  regWrite t 0x002C 0 path byte w peek data s0

/-- QUIESCE_REQ: a write of HOST_FLAG with bit 1 set (R249). -/
def quiesceReqEffect (t : Nat) (path : HostPath) (byte : Fin 4) (w : Width) (peek : Bool) (data : BitVec 32) (s0 : State) : State :=
  regWrite t 0x0220 2 path byte w peek data s0

/-- ENABLE: a write of RING_CTRL with bit 0 set (R233, R235, R236). -/
def ringEnableEffect (t : Nat) (path : HostPath) (byte : Fin 4) (w : Width) (peek : Bool) (data : BitVec 32) (s0 : State) : State :=
  regWrite t 0x0100 1 path byte w peek data s0

/-- RESET: a write of RING_CTRL with bit 2 set (R237). -/
def ringResetEffect (t : Nat) (path : HostPath) (byte : Fin 4) (w : Width) (peek : Bool) (data : BitVec 32) (s0 : State) : State :=
  regWrite t 0x0100 4 path byte w peek data s0

/-- REQ_TAIL: a write of the request doorbell (R229, R236, R246). -/
def reqTailEffect (t : Nat) (path : HostPath) (byte : Fin 4) (w : Width) (peek : Bool) (data : BitVec 32) (s0 : State) : State :=
  regWrite t 0x0114 0 path byte w peek data s0

/-- RSP_HEAD: a write of the response doorbell (R231, R236). -/
def rspHeadEffect (t : Nat) (path : HostPath) (byte : Fin 4) (w : Width) (peek : Bool) (data : BitVec 32) (s0 : State) : State :=
  regWrite t 0x012C 0 path byte w peek data s0

/-! ### Ring entries (R228 to R232, R249) -/

/-- The response ring has room (R231). -/
def ringRoom (r : Rings) : Bool := decide ((r.rspTail - r.rspHead).toNat < rspEntries r)

/-- A request entry may be fetched (R229, R232, R249). -/
def mayFetch (s : State) : Bool :=
  let r := s.host.rings
  ringsServed s && decide (r.reqHead ≠ r.reqTail) && !s.host.quiesceReq && (r.waiting.isEmpty || ringRoom r)

/-- The entry at REQ_HEAD: from the window buffer, or as host memory holds it (R228, R234). -/
def fetchedEntry (entry : List Byte) (s : State) : List Byte :=
  let r := s.host.rings
  if r.locBuffer then Mem.read 0 s.host.buffer (2048 * (r.reqHead.toNat % reqEntries r)) 2048 else entry

/-- REQUEST_ENTRY_FETCH: the entry is copied, REQ_HEAD advances, and the message passes on or is discarded (R229, R245).
(DEDUCED: log entry 111) -/
def requestEntryFetchEffect (t : Nat) (entry : List Byte) (s0 : State) : State :=
  let s := advance t s0
  if mayFetch s then
    let r := s.host.rings
    let e := fetchedEntry entry s
    let n := leVal (slice e 0 2)
    let s1 := updRings (fun r => { r with reqHead := r.reqHead + 1 }) s
    let s2 := if r.reqHead + 1 = r.reqTail then setCause causeReqDrained s1 else s1
    if 24 ≤ n ∧ n ≤ 1320 ∧ leVal (slice e 2 2) = r.reqHead.toNat then
      messageArrives t ⟨ringTransport s, 0, 0, false⟩ (slice e 8 n) s2
    else countDiscard (transportNum (ringTransport s)) (fun c => { c with framing := c.framing.add32 1 }) s2
  else s

/-- A ring entry (R228). -/
def ringEntry (index : Nat) (m : Msg) : List Byte :=
  let b := msgBytes m
  le 2 b.length ++ le 2 index ++ List.replicate 4 0 ++ b

/-- RESPONSE_ENTRY_WRITE: the oldest response or event that waits is written, RSP_TAIL advances, then RSP_READY is set (R231).
(DEDUCED: log entry 111) -/
def responseEntryWriteEffect (t : Nat) (s0 : State) : State :=
  let s := advance t s0
  let r := s.host.rings
  match r.waiting with
  | [] => s
  | m :: l =>
    if ringsServed s ∧ ringRoom r then
      let i := r.rspTail.toNat
      let b := ringEntry i m
      let s1 := emit (.ringEntry i b) s
      let s2 := updHost (fun h =>
        { h with
          buffer := if r.locBuffer then Mem.write 0 h.buffer (0x2000 + 2048 * (i % rspEntries r)) b else h.buffer
          rings := { r with rspTail := r.rspTail + 1, waiting := l } }) s1
      noteQuiesced (setCause causeRspReady s2)
    else s

/-- RING_DMA_FAULT (R236 cause 2). -/
def ringDmaFaultEffect (t : Nat) (s0 : State) : State :=
  let s := advance t s0
  if s.host.rings.enable ∧ !s.host.rings.locBuffer then ringFault 2 s else s

/-! ### The PCIe link (R242) -/

/-- PERST_N changes; its assertion resets what R242 lists, and HOST_WRITES. -/
def perstNEffect (t : Nat) (asserted : Bool) (s0 : State) : State :=
  let s := updHost (fun h => { h with perst := asserted }) (advance t s0)
  if asserted then updHost (fun h => { h with hostWrites := 0 }) (pcieReset s) else s

/-- PCIE_LINK_DOWN. -/
def pcieLinkDownEffect (t : Nat) (s0 : State) : State := hostLinkDown (advance t s0)

/-- PCIE_LINK_UP: the link trains in Keep, Full and Span and stays up in Freeze; `msi` and `busMaster` are how the host then sets
the configuration space (R226, R236, R242). (DESIGN CHOICE: log entry 105) -/
def pcieLinkUpEffect (t width rate : Nat) (msi : Fin 3) (busMaster : Bool) (s0 : State) : State :=
  let s := advance t s0
  if (dataPlaneMode s.sup.mode ∨ s.sup.mode = .freeze) ∧ !s.host.perst ∧ !s.host.linkUp then
    hostLinkEvent true (updHost (fun h =>
      { h with linkUp := true, linkWidth := width, linkRate := rate, msiMode := msi.val, busMaster := busMaster }) s)
  else s

/-! ### The meanings -/

/-- HOST_WINDOW_WRITE. -/
def execHostWindowWrite (t : Nat) (path : HostPath) (off : BitVec 16) (w : Width) (uneven : Bool) (data : BitVec 32) (s : State) : Host.Outcome State Fault Refusal :=
  .next (hostWindowWriteEffect t path off w uneven data s)

/-- UNMAPPED_READ. -/
def execUnmappedRead (t : Nat) (path : HostPath) (off : BitVec 16) (w : Width) (s : State) : Host.Outcome State Fault Refusal :=
  .next (unmappedReadEffect t path off w s)

/-- UNALIGNED_READ. -/
def execUnalignedRead (t : Nat) (path : HostPath) (off : BitVec 16) (w : Width) (uneven : Bool) (s : State) : Host.Outcome State Fault Refusal :=
  .next (unalignedReadEffect t path off w uneven s)

/-- MALFORMED_SPI_TRANSACTION. -/
def execMalformedSpiTransaction (t : Nat) (cmd : BitVec 8) (off : BitVec 16) (cut : Bool) (s : State) : Host.Outcome State Fault Refusal :=
  .next (malformedSpiTransactionEffect t cmd off cut s)

/-- SUPPLY_STATUS. -/
def execSupplyStatus (t : Nat) (path : HostPath) (byte : Fin 4) (w : Width) (peek : Bool) (s : State) : Host.Outcome State Fault Refusal :=
  .next (supplyStatusEffect t path byte w peek s)

/-- ACCESS_ERR. -/
def execAccessErr (t : Nat) (path : HostPath) (byte : Fin 4) (w : Width) (peek : Bool) (s : State) : Host.Outcome State Fault Refusal :=
  .next (accessErrEffect t path byte w peek s)

/-- TIME_LATCH. -/
def execTimeLatch (t : Nat) (path : HostPath) (byte : Fin 4) (w : Width) (peek : Bool) (s : State) : Host.Outcome State Fault Refusal :=
  .next (timeLatchEffect t path byte w peek s)

/-- TAKE. -/
def execTakeSnapshot (t : Nat) (path : HostPath) (byte : Fin 4) (w : Width) (peek : Bool) (data : BitVec 32) (s : State) : Host.Outcome State Fault Refusal :=
  .next (takeSnapshotEffect t path byte w peek data s)

/-- ARM_PPS. -/
def execArmPps (t : Nat) (path : HostPath) (byte : Fin 4) (w : Width) (peek : Bool) (data : BitVec 32) (s : State) : Host.Outcome State Fault Refusal :=
  .next (armPpsEffect t path byte w peek data s)

/-- INT_CAUSE. -/
def execIntCause (t : Nat) (path : HostPath) (byte : Fin 4) (w : Width) (peek : Bool) (data : BitVec 32) (s : State) : Host.Outcome State Fault Refusal :=
  .next (intCauseEffect t path byte w peek data s)

/-- INT_MASK. -/
def execIntMask (t : Nat) (path : HostPath) (byte : Fin 4) (w : Width) (peek : Bool) (data : BitVec 32) (s : State) : Host.Outcome State Fault Refusal :=
  .next (intMaskEffect t path byte w peek data s)

/-- FENCE. -/
def execFence (t : Nat) (path : HostPath) (byte : Fin 4) (w : Width) (peek : Bool) (s : State) : Host.Outcome State Fault Refusal :=
  .next (fenceEffect t path byte w peek s)

/-- QUIESCE_REQ. -/
def execQuiesceReq (t : Nat) (path : HostPath) (byte : Fin 4) (w : Width) (peek : Bool) (data : BitVec 32) (s : State) : Host.Outcome State Fault Refusal :=
  .next (quiesceReqEffect t path byte w peek data s)

/-- ENABLE. -/
def execRingEnable (t : Nat) (path : HostPath) (byte : Fin 4) (w : Width) (peek : Bool) (data : BitVec 32) (s : State) : Host.Outcome State Fault Refusal :=
  .next (ringEnableEffect t path byte w peek data s)

/-- RESET. -/
def execRingReset (t : Nat) (path : HostPath) (byte : Fin 4) (w : Width) (peek : Bool) (data : BitVec 32) (s : State) : Host.Outcome State Fault Refusal :=
  .next (ringResetEffect t path byte w peek data s)

/-- REQ_TAIL. -/
def execReqTail (t : Nat) (path : HostPath) (byte : Fin 4) (w : Width) (peek : Bool) (data : BitVec 32) (s : State) : Host.Outcome State Fault Refusal :=
  .next (reqTailEffect t path byte w peek data s)

/-- RSP_HEAD. -/
def execRspHead (t : Nat) (path : HostPath) (byte : Fin 4) (w : Width) (peek : Bool) (data : BitVec 32) (s : State) : Host.Outcome State Fault Refusal :=
  .next (rspHeadEffect t path byte w peek data s)

/-- REQUEST_ENTRY_FETCH. -/
def execRequestEntryFetch (t : Nat) (entry : List Byte) (s : State) : Host.Outcome State Fault Refusal :=
  .next (requestEntryFetchEffect t entry s)

/-- RESPONSE_ENTRY_WRITE. -/
def execResponseEntryWrite (t : Nat) (s : State) : Host.Outcome State Fault Refusal :=
  .next (responseEntryWriteEffect t s)

/-- RING_DMA_FAULT. -/
def execRingDmaFault (t : Nat) (s : State) : Host.Outcome State Fault Refusal :=
  .next (ringDmaFaultEffect t s)

/-- PERST_N. -/
def execPerstN (t : Nat) (asserted : Bool) (s : State) : Host.Outcome State Fault Refusal :=
  .next (perstNEffect t asserted s)

/-- PCIE_LINK_DOWN. -/
def execPcieLinkDown (t : Nat) (s : State) : Host.Outcome State Fault Refusal :=
  .next (pcieLinkDownEffect t s)

/-- PCIE_LINK_UP. -/
def execPcieLinkUp (t : Nat) (width : Nat) (rate : Nat) (msi : Fin 3) (busMaster : Bool) (s : State) : Host.Outcome State Fault Refusal :=
  .next (pcieLinkUpEffect t width rate msi busMaster s)

end Sys2Proof.Machine
end

