-- ==== Sys2Proof/Machine/Debug.lean ====
section
/-! DEFINITION. Machine/Debug.lean: core status, performance counters, frame capture, the TAP and debug access (R678 to R713). -/

namespace Sys2Proof.Machine

open Sys2Proof

/-! ### Status and performance (R695 to R700, R703, R704) -/

/-- CAPTURE_STATE codes (CORE_STATUS_GET table). -/
def CapState.code : CapState → Nat
  | .none => 0
  | .running => 1
  | .stopped => 2

/-- CORE_STATUS_GET. -/
def coreStatusGetBody (q : Req) (s : State) : Body :=
  checks [lenIs q 0] (okResp s
    (enc [(1, coreStateCode false s), (1, coreStateCode true s), (1, flags [s.dbg.opened, s.dbg.lockBroken, haltPending s]),
        (1, s.cap.state.code)] ++
      tb10 s.dbg.untilTb ++ enc [(2, 0), (4, s.dbg.lockCount), (4, s.dbg.denied), (4, s.cap.nextSeq), (4, s.cap.missed)]))

/-- The PERF_CONFIG_SET setting is in range (PERF_CONFIG_SET table). -/
def perfOk (p : List Byte) : Bool :=
  let mode := f1 p 4
  decide (f1 p 0 ≤ 1) && decide (f1 p 1 ≤ 5) && decide (f1 p 2 ≤ 0x0E) && decide (mode ≤ 2) &&
    (if mode = 2 then decide (10000 ≤ f4 p 8) else decide (f4 p 8 = 0))

/-- PERF_CONFIG_SET (R704): the counter restarts. -/
def perfConfigSetBody (q : Req) (s : State) : Body :=
  let p := q.payload
  let w := decide (f1 p 0 = 1)
  let start := if f1 p 4 = 2 then 2 ^ 48 - f4 p 8 else 0
  checks [lenIs q 12, (perfOk p && coreUp w s, .perfParam)]
    (okEmpty (updCore w (fun c => { c with perf := Tbl.set {} c.perf (f1 p 1) ⟨f1 p 2, f1 p 3, f1 p 4, f4 p 8, start⟩ }) s))

/-- The 64-bit value of a counter whose 48 bits of hardware stand at `hw` (R698). -/
def perfValue (x : PerfCtr) (hw : Nat) : Nat := x.value / 2 ^ 48 * 2 ^ 48 + hw % 2 ^ 48

/-- A record of PERF_READ. -/
def perfRecord (x : PerfCtr) (hw : Nat) : List Byte :=
  enc [(1, x.event), (1, x.mask), (1, x.mode), (5, 0), (8, perfValue x hw)]

/-- PERF_READ; `counts` are what the six hardware counters stand at. (DEDUCED: log entry 262) -/
def perfReadBody (q : Req) (counts : List Nat) (s : State) : Body :=
  let c := coreDbg (decide (f1 q.payload 0 = 1)) s
  checks [lenIs q 4, (decide (f1 q.payload 0 ≤ 1), .badPayload)] (okResp s
    (tb10 s.tb.now ++ be 6 0 ++ ((List.range 6).flatMap fun n => perfRecord (Tbl.get {} c.perf n) (counts.getD n 0)) ++
      enc [(8, c.kmpRequests), (4, c.samplesLost), (4, 0)]))

/-- A record of PERF_SAMPLE_GET. -/
def sampleRecord (x : PerfSample) : List Byte :=
  be 4 x.seq ++ tb10 x.at0 ++ enc [(1, x.counter), (1, x.task), (4, x.pc), (4, 0)]

/-- PERF_SAMPLE_GET (R703). (DEDUCED: log entry 262) -/
def perfSampleGetBody (q : Req) (s : State) : Body :=
  let p := q.payload
  let first := f4 p 4
  let c := coreDbg (decide (f1 p 0 = 1)) s
  let xs := (c.samples.filter fun x => decide (first ≤ x.seq)).take (f2 p 2)
  let next := match xs.getLast? with
    | some x => inc32 x.seq
    | none => first
  checks [lenIs q 8, (decide (f1 p 0 ≤ 1 ∧ 1 ≤ f2 p 2 ∧ f2 p 2 ≤ 48), .badPayload)]
    (okResp s (enc [(4, next), (1, xs.length), (3, 0)] ++ xs.flatMap sampleRecord))

/-- Samples each core keeps (R699). -/
def sampleRing : Nat := 512

/-- A sample is recorded; a full ring loses its oldest (R699). -/
def addSample (counter task pc at0 : Nat) (c : CoreDbg) : CoreDbg :=
  let full := decide (sampleRing ≤ c.samples.length)
  { c with
    samples := (if full then c.samples.drop 1 else c.samples) ++ [⟨c.sampleSeq, at0, counter, task, pc⟩]
    sampleSeq := inc32 c.sampleSeq
    samplesLost := sat32 (c.samplesLost + b2n full) }

/-- PERF_OVERFLOW (R695, R698, R699): the extension counts 2^48 in count mode; in sample mode a sample is recorded and the counter
reloaded. -/
def perfOverflowEffect (t : Nat) (w : Bool) (counter : Fin 6) (task : Fin 8) (pc : BitVec 32) (s0 : State) : State :=
  let s := advance t s0
  let c := coreDbg w s
  let x := Tbl.get {} c.perf counter.val
  if coreUp w s ∧ !c.halted ∧ (bitOf x.mask task.val ∨ x.event = 1) then
    match x.mode with
    | 1 => updCore w (fun c => { c with perf := Tbl.set {} c.perf counter.val { x with value := (x.value + 2 ^ 48) % 2 ^ 64 } }) s
    | 2 => updCore w (addSample counter.val task.val pc.toNat s.tb.now) s
    | _ => s
  else s

/-! ### Frame capture (R701, R702, R706) -/

/-- CAPTURE_SET fields in range. -/
def captureOk (p : List Byte) : Bool := decide (f1 p 2 ≤ 1 ∧ 64 ≤ f2 p 6 ∧ f2 p 6 ≤ 10240)

/-- A capture starts: earlier records are discarded, SEQ starts from 0. (DEDUCED: log entry 263) -/
def startCapture (p : List Byte) (s : State) : State :=
  { s with cap :=
    { s.cap with
      state := .running
      port := f1 p 1
      egress := decide (f1 p 2 = 1)
      stopWhenFull := bitOf (f1 p 3) 0
      classMask := f2 p 4
      snapLen := f2 p 6
      nextSeq := 0
      recs := [] } }

/-- CAPTURE_SET. (DEDUCED: log entry 263) -/
def captureSetBody (q : Req) (s : State) : Body :=
  let p := q.payload
  let stop := decide (f1 p 0 = 1)
  checks [lenIs q 8, (stop || decide (f1 p 1 ≤ 127), .portNone), (decide (f1 p 0 ≤ 1) && (stop || captureOk p), .captureParam)]
    (okEmpty (if stop then captureEnd 0 q.requestId s else startCapture p s))

/-- The header of a capture record (R702 table). -/
def capHeader (r : CapRec) : List Byte :=
  be 4 r.seq ++ tb10 r.at0 ++
    enc [(1, r.port), (1, flags [r.egress, decide (r.bytes.length < r.length), r.damaged, r.strike]), (2, r.length), (2, r.bytes.length),
      (1, r.cls), (1, r.queue), (10, 0)]

/-- CAPTURE_READ. (DEDUCED: log entry 263) -/
def captureReadBody (q : Req) (s : State) : Body :=
  let p := q.payload
  checks [lenIs q 8, (decide (1 ≤ f2 p 6 ∧ f2 p 6 ≤ 1200), .badPayload)] <|
    match s.cap.recs.find? fun r => decide (r.seq = f4 p 0) with
    | none => .error .captureNone
    | some r => okResp s (capHeader r ++ slice r.bytes (f2 p 4) (f2 p 6))

/-! ### Debug access (R688, R705) -/

/-- Open debug access until `seconds` from now. -/
def openDebug (seconds reqId : Nat) (s : State) : State :=
  let u := s.tb.now + sNs seconds
  raise .debugAccess reqId (enc [(1, 1), (1, 0)] ++ tb10 u)
    { s with dbg := { s.dbg with opened := true, untilTb := u, endsAt := s.elapsed + sNs seconds } }

/-- DEBUG_ACCESS_SET: opening takes a session under slot 0; a further opening sets a new end. (DEDUCED: log entry 266) -/
def debugAccessSetBody (q : Req) (s : State) : Body :=
  let p := q.payload
  let opens := decide (f1 p 0 ≠ 0)
  checks [lenIs q 8, (!opens || underSlot0 q s, .keyAuth),
      (decide (f1 p 0 ≤ 1) && (!opens || decide (60 ≤ f4 p 4 ∧ f4 p 4 ≤ 86400)), .debugParam)] <|
    let s1 := if opens then openDebug (f4 p 4) q.requestId s else closeDebug 0 q.requestId s
    okResp s1 (tb10 s1.dbg.untilTb ++ be 2 0)

/-- DEBUG_ACCESS_EXPIRY (R11, R688). -/
def debugAccessExpiryEffect (t : Nat) (s0 : State) : State :=
  let s := advance t s0
  if s.dbg.opened ∧ s.dbg.endsAt ≤ s.elapsed then closeDebug 1 0 s else s

/-! ### The TAP (R685 to R687) -/

/-- The TAP takes an instruction; one marked open only falls to bypass and counts while access is closed (R685). (DEDUCED: log entry 260) -/
def loadIr (openOnly : Bool) (ir : TapIr) (s : State) : State :=
  if s.sup.mode = .off then s
  else if openOnly ∧ !s.dbg.opened then { s with dbg := { s.dbg with tap := .bypass, denied := sat32 (s.dbg.denied + 1) } }
  else { s with dbg := { s.dbg with tap := ir } }

/-- EXTEST. (DESIGN CHOICE: log entry 261) -/
def extestEffect (t : Nat) (s0 : State) : State := loadIr true .extest (advance t s0)

/-- IDCODE: the identity register is selected and shifted out (R687). -/
def idcodeEffect (t : Nat) (s0 : State) : State :=
  let s := loadIr false .idcode (advance t s0)
  if s.sup.mode = .off then s else emit (.tdo (idcode s)) s

/-- SAMPLE/PRELOAD: the levels at the lands are sampled, and the boundary-scan register is loaded (R685, R686; IEEE 1149.1). -/
def samplePreloadEffect (t : Nat) (lands data : List Bool) (s0 : State) : State :=
  let s := loadIr false .sample (advance t s0)
  if s.sup.mode = .off then s
  else emit (.tdo (flags lands)) { s with dbg := { s.dbg with sampled := lands, boundary := data } }

/-- CLAMP. (DESIGN CHOICE: log entry 261) -/
def clampEffect (t : Nat) (s0 : State) : State := loadIr true .clamp (advance t s0)

/-- HIGHZ. (DESIGN CHOICE: log entry 261) -/
def highzEffect (t : Nat) (s0 : State) : State := loadIr true .highz (advance t s0)

/-- Opcodes marked open only (R685). -/
def openOnlyOpcode (n : Nat) : Bool := [0x00, 0x03, 0x04, 0x10].contains n

/-- Opcodes with an instruction of their own (R685). -/
def ownOpcode (n : Nat) : Bool := openOnlyOpcode n || decide (n = 0x01 ∨ n = 0x02)

/-- BYPASS: 0xFF, any unlisted opcode, and one that is denied (R685). -/
def bypassEffect (t : Nat) (opcode : BitVec 8) (s0 : State) : State :=
  let s := advance t s0
  let n := opcode.toNat
  if openOnlyOpcode n ∧ !s.dbg.opened then loadIr true .bypass s
  else if ownOpcode n then s
  else loadIr false .bypass s

/-- DBG: the debug access register is selected (R689). (DEDUCED: log entry 252) -/
def dbgEffect (t : Nat) (s0 : State) : State := loadIr true .dbg (advance t s0)

/-! ### The debug access register (R689, R690) -/

/-- The capture field (R689). (DEDUCED: log entry 252) -/
def captureField (d : Dbg) : Nat := bitFields [(32, d.data.toNat), (32, d.address.toNat), (6, 0), (1, b2n d.error), (1, b2n d.done)]

/-- Its result as the next Capture-DR takes it. -/
def setResult (err : Bool) (addr data : Nat) (s : State) : State :=
  { s with dbg := { s.dbg with done := true, error := err, address := BitVec.ofNat 32 addr, data := BitVec.ofNat 32 data } }

/-- An operation of the debug access register: its scan shifts out the result of the last one, then it runs at Update-DR, while
the register is selected and access open. -/
def dbgOp (t : Nat) (op : State → State) (s0 : State) : State :=
  let s := advance t s0
  if s.dbg.opened ∧ s.dbg.tap = .dbg ∧ s.sup.mode ≠ .off then op (emit (.tdo (captureField s.dbg)) s) else s

/-- A value that nothing in the model knows. (DESIGN CHOICE: log entry 253) -/
def freeWord (s : State) : Nat := Config.freeNat s.freeCtr % 2 ^ 32

/-- Look up what the debugger has written, else a free value. (DESIGN CHOICE: log entry 255) -/
def writtenOr (m : Tbl Nat) (a : Nat) (s : State) : State × Nat :=
  match m.find? fun e => decide (e.1 = a) with
  | some e => (s, e.2)
  | none => (bumpFree s, freeWord s)

/-- What the debugger writes, by address. (DESIGN CHOICE: log entry 255) -/
def keepWord (m : Tbl Nat) (a v : Nat) : Tbl Nat := m.filter (fun e => decide (e.1 ≠ a)) ++ [(a, v)]

/-- ADDRESS bit 8 names the core whose registers are meant (R689). -/
def regCore (a : Nat) : Bool := bitOf a 8

/-- Control space, as read (R689). (DESIGN CHOICE: log entry 253) -/
def controlRead (a : Nat) (s : State) : State × Nat :=
  match a with
  | 0x00 => (s, flags [s.dbg.control.halted, s.dbg.watch.halted, haltPending s, s.dbg.lockBroken])
  | 0x04 => (s, 0)
  | 0x08 => (s, 0)
  | 0x0C => (s, 0)
  | 0x10 => (s, 0)
  | 0x14 => (s, s.dbg.lockCount)
  | _ => (bumpFree s, freeWord s)

/-- The host window as the debugger reads it, through the peek alias (R690): a word that depends on the path that reads is free.
(DESIGN CHOICE: log entry 254) -/
def debugWindow (a : Nat) (s : State) : State × Nat :=
  let o := a % 0x8000
  let v := windowWord .pcie o s
  if v = windowWord .spi o s then (s, v.getD 0) else (bumpFree s, freeWord s)

/-- The value a debug read finds. -/
def debugValue (space a : Nat) (s : State) : State × Nat :=
  match space with
  | 0 => writtenOr s.dbg.sram a s
  | 1 => debugWindow a s
  | 2 => writtenOr (coreDbg (regCore a) s).regs a s
  | _ => controlRead a s

/-- An access that R690 allows. (DEDUCED: log entry 256) -/
def debugAllowed (write : Bool) (space a : Nat) (s : State) : Bool :=
  decide (a % 4 = 0) &&
    match space with
    | 0 => !write || s.dbg.control.halted
    | 1 => !write || decide (0x0230 ≤ a ∧ a ≤ 0x023C)
    | 2 => (coreDbg (regCore a) s).halted
    | _ => true

/-- DEBUG_READ. -/
def debugReadEffect (t : Nat) (space : Fin 4) (addr : BitVec 32) (s0 : State) : State :=
  dbgOp t (fun s =>
    if debugAllowed false space.val addr.toNat s then
      let r := debugValue space.val addr.toNat s
      setResult false addr.toNat r.2 r.1
    else setResult true addr.toNat 0 s) s0

/-! ### Control space: halts, steps, reset and freeze (R689 to R693, R710, R711) -/

/-- How long a halt waits for a locked sequence (R692). (DEDUCED: log entry 258) -/
def haltWaitNs : Nat := 2000

/-- A halt request (R691, R692, R709): `seq` is the locked sequence the core runs, which has `leftNs` to go. (DEDUCED: log entry 258) -/
def haltRequest (w : Bool) (seq : Option LockedSeq) (leftNs addr : Nat) (s0 : State) : State :=
  if !coreUp w s0 then setResult true addr 0 s0
  else
    let s := setResult false addr 0 s0
    if (coreDbg w s).halted then s
    else
      match seq with
      | none => haltCore w false s
      | some x =>
        if leftNs < haltWaitNs then haltCore w false (advance (s.elapsed + leftNs) s)
        else updCore w (fun c => { c with pend := some (x, s.elapsed) }) s

/-- A pending commit whose epoch has passed while the control core was halted is finished as it resumes (R693). (DEDUCED: log entry 268) -/
def resumeRequest (w : Bool) (addr : Nat) (s : State) : State :=
  trySwitch false (resumeCore w 0 (setResult false addr 0 s))

/-- A step request: one instruction of a halted core, which may change what the debugger has written (R710). -/
def stepRequest (w : Bool) (addr : Nat) (s : State) : State :=
  if (coreDbg w s).halted then
    let s1 := updCore w (fun c => { c with regs := [] }) (setResult false addr 0 s)
    { s1 with dbg := { s1.dbg with sram := [] } }
  else setResult true addr 0 s

/-- A debug reset restarts the module through Keystone with BOOT_CAUSE 6 (R131, R690, R711); in Shelf no core is there to restart.
(DEDUCED: log entry 259) -/
def debugResetRequest (s : State) : State :=
  let s1 := setResult false 0x0C 0 s
  if s.sup.mode = .shelf ∧ !s.clk.reference then s1 else restartRun .debugReset s1

/-- A debug freeze enters Freeze as DEBUG_FREEZE does (R690). -/
def debugFreezeRequest (s : State) : State := freezeTrigger .debugFreeze 0 (setResult false 0x10 0 s)

/-- LOCK_BROKEN is cleared (R689). -/
def clearBroken (s : State) : State :=
  let s1 := setResult false 0x14 0 s
  { s1 with dbg := { s1.dbg with lockBroken := false } }

/-- A write to control space; bits for both cores are handled in turn (R710). -/
def controlWrite (a v : Nat) (s : State) : State :=
  let each (f : Bool → State → State) (s : State) : State :=
    let s1 := if bitOf v 0 then f false s else s
    let e := s1.dbg.error
    let s2 := if bitOf v 1 then f true s1 else s1
    { s2 with dbg := { s2.dbg with error := s2.dbg.error || (bitOf v 0 && e) } }
  let s1 := setResult false a 0 s
  match a with
  | 0x00 => each (fun w s => haltRequest w none 0 a s) s1
  | 0x04 => each (fun w s => resumeRequest w a s) s1
  | 0x08 => each (fun w s => stepRequest w a s) s1
  | 0x0C => if v = 0x5EED then debugResetRequest s else s1
  | 0x10 => if v = 0xF0F0 then debugFreezeRequest s else s1
  | 0x14 => if bitOf v 0 then clearBroken s else s1
  | _ => s1

/-- A debug write that R690 allows. (DEDUCED: log entry 257) -/
def debugStore (space a v : Nat) (s : State) : State :=
  match space with
  | 0 => { s with dbg := { s.dbg with sram := keepWord s.dbg.sram a v } }
  | 1 =>
    updHost (fun h =>
      match a with
      | 0x0230 => { h with scratch0 := BitVec.ofNat 32 v }
      | 0x0234 => { h with scratch1 := BitVec.ofNat 32 v }
      | 0x0238 => { h with scratch2 := BitVec.ofNat 32 v }
      | _ => { h with scratch3 := BitVec.ofNat 32 v }) s
  | _ => updCore (regCore a) (fun c => { c with regs := keepWord c.regs a v }) s

/-- DEBUG_WRITE. -/
def debugWriteEffect (t : Nat) (space : Fin 4) (addr data : BitVec 32) (s0 : State) : State :=
  dbgOp t (fun s =>
    if !debugAllowed true space.val addr.toNat s then setResult true addr.toNat 0 s
    else if space.val = 3 then controlWrite addr.toNat data.toNat s
    else debugStore space.val addr.toNat data.toNat (setResult false addr.toNat 0 s)) s0

/-- HALT. -/
def dbgHaltEffect (t : Nat) (w : Bool) (seq : Option LockedSeq) (leftNs : Nat) (s0 : State) : State :=
  dbgOp t (haltRequest w seq leftNs 0x00) s0

/-- RESUME. -/
def dbgResumeEffect (t : Nat) (w : Bool) (s0 : State) : State := dbgOp t (resumeRequest w 0x04) s0

/-- STEP. -/
def dbgStepEffect (t : Nat) (w : Bool) (s0 : State) : State := dbgOp t (stepRequest w 0x08) s0

/-- DEBUG_RESET. (DEDUCED: log entry 259) -/
def debugResetEffect (t : Nat) (s0 : State) : State := dbgOp t debugResetRequest s0

/-- DEBUG_FREEZE_WRITE. -/
def debugFreezeWriteEffect (t : Nat) (s0 : State) : State := dbgOp t debugFreezeRequest s0

/-- CLEAR_LOCK_BROKEN. -/
def clearLockBrokenEffect (t : Nat) (s0 : State) : State := dbgOp t clearBroken s0

/-- A forced halt's mark on its core (R692, R693). -/
def breakLock (w : Bool) (x : LockedSeq) (s : State) : State :=
  let s1 := updCore w (fun c => { c with broken := some x }) (haltCore w true s)
  let mw := match x with
    | .dramMode c => some c.val
    | _ => s1.dbg.modeWrite
  { s1 with dbg := { s1.dbg with lockBroken := true, lockCount := sat32 (s1.dbg.lockCount + 1), modeWrite := mw } }

/-- FORCED_HALT: a halt still pending 2 µs after its request is forced (R692, R709). -/
def forcedHaltEffect (t : Nat) (w : Bool) (s0 : State) : State :=
  let s := advance t s0
  match (coreDbg w s).pend with
  | none => s
  | some (x, since) => if since + haltWaitNs ≤ s.elapsed then breakLock w x s else s

/-! ### The meanings -/

/-- CORE_STATUS_GET. -/
def execCoreStatusGet (q : Req) (s : State) : Host.Outcome State Fault Refusal :=
  .next (kmpExec .coreStatusGet q (coreStatusGetBody q) s)

/-- PERF_CONFIG_SET. -/
def execPerfConfigSet (q : Req) (s : State) : Host.Outcome State Fault Refusal :=
  .next (kmpExec .perfConfigSet q (perfConfigSetBody q) s)

/-- PERF_READ. -/
def execPerfRead (q : Req) (counts : List Nat) (s : State) : Host.Outcome State Fault Refusal :=
  .next (kmpExec .perfRead q (perfReadBody q counts) s)

/-- PERF_SAMPLE_GET. -/
def execPerfSampleGet (q : Req) (s : State) : Host.Outcome State Fault Refusal :=
  .next (kmpExec .perfSampleGet q (perfSampleGetBody q) s)

/-- DEBUG_ACCESS_SET. -/
def execDebugAccessSet (q : Req) (s : State) : Host.Outcome State Fault Refusal :=
  .next (kmpExec .debugAccessSet q (debugAccessSetBody q) s)

/-- CAPTURE_SET. -/
def execCaptureSet (q : Req) (s : State) : Host.Outcome State Fault Refusal :=
  .next (kmpExec .captureSet q (captureSetBody q) s)

/-- CAPTURE_READ. -/
def execCaptureRead (q : Req) (s : State) : Host.Outcome State Fault Refusal :=
  .next (kmpExec .captureRead q (captureReadBody q) s)

/-- PERF_OVERFLOW. -/
def execPerfOverflow (t : Nat) (watch : Bool) (counter : Fin 6) (task : Fin 8) (pc : BitVec 32) (s : State) : Host.Outcome State Fault Refusal :=
  .next (perfOverflowEffect t watch counter task pc s)

/-- EXTEST. -/
def execExtest (t : Nat) (s : State) : Host.Outcome State Fault Refusal :=
  .next (extestEffect t s)

/-- IDCODE. -/
def execIdcode (t : Nat) (s : State) : Host.Outcome State Fault Refusal :=
  .next (idcodeEffect t s)

/-- SAMPLE_PRELOAD. -/
def execSamplePreload (t : Nat) (lands : List Bool) (data : List Bool) (s : State) : Host.Outcome State Fault Refusal :=
  .next (samplePreloadEffect t lands data s)

/-- CLAMP. -/
def execClamp (t : Nat) (s : State) : Host.Outcome State Fault Refusal :=
  .next (clampEffect t s)

/-- HIGHZ. -/
def execHighz (t : Nat) (s : State) : Host.Outcome State Fault Refusal :=
  .next (highzEffect t s)

/-- BYPASS. -/
def execBypass (t : Nat) (opcode : BitVec 8) (s : State) : Host.Outcome State Fault Refusal :=
  .next (bypassEffect t opcode s)

/-- DBG. -/
def execDbg (t : Nat) (s : State) : Host.Outcome State Fault Refusal :=
  .next (dbgEffect t s)

/-- DEBUG_READ. -/
def execDebugRead (t : Nat) (space : Fin 4) (addr : BitVec 32) (s : State) : Host.Outcome State Fault Refusal :=
  .next (debugReadEffect t space addr s)

/-- DEBUG_WRITE. -/
def execDebugWrite (t : Nat) (space : Fin 4) (addr : BitVec 32) (data : BitVec 32) (s : State) : Host.Outcome State Fault Refusal :=
  .next (debugWriteEffect t space addr data s)

/-- HALT. -/
def execDbgHalt (t : Nat) (watch : Bool) (seq : Option LockedSeq) (leftNs : Nat) (s : State) : Host.Outcome State Fault Refusal :=
  .next (dbgHaltEffect t watch seq leftNs s)

/-- RESUME. -/
def execDbgResume (t : Nat) (watch : Bool) (s : State) : Host.Outcome State Fault Refusal :=
  .next (dbgResumeEffect t watch s)

/-- STEP. -/
def execDbgStep (t : Nat) (watch : Bool) (s : State) : Host.Outcome State Fault Refusal :=
  .next (dbgStepEffect t watch s)

/-- DEBUG_RESET. -/
def execDebugReset (t : Nat) (s : State) : Host.Outcome State Fault Refusal :=
  .next (debugResetEffect t s)

/-- DEBUG_FREEZE_WRITE. -/
def execDebugFreezeWrite (t : Nat) (s : State) : Host.Outcome State Fault Refusal :=
  .next (debugFreezeWriteEffect t s)

/-- CLEAR_LOCK_BROKEN. -/
def execClearLockBroken (t : Nat) (s : State) : Host.Outcome State Fault Refusal :=
  .next (clearLockBrokenEffect t s)

/-- FORCED_HALT. -/
def execForcedHalt (t : Nat) (watch : Bool) (s : State) : Host.Outcome State Fault Refusal :=
  .next (forcedHaltEffect t watch s)

/-- DEBUG_ACCESS_EXPIRY. -/
def execDebugAccessExpiry (t : Nat) (s : State) : Host.Outcome State Fault Refusal :=
  .next (debugAccessExpiryEffect t s)

end Sys2Proof.Machine
end

