-- ==== Sys2Proof/Machine/M0.lean ====
section
/-! DEFINITION. Machine/M0.lean: what M0 answers (R308, R309). -/

namespace Sys2Proof.Machine

open Sys2Proof

/-- The sum of 16-bit words of RFC 1071. -/
def wordSum : List Byte → Nat
  | [] => 0
  | [a] => a.toNat * 256
  | a :: b :: l => a.toNat * 256 + b.toNat + wordSum l

/-- Fold a sum to 16 bits with end-around carry. -/
def foldSum (n : Nat) : Nat :=
  let a := n % 65536 + n / 65536
  let b := a % 65536 + a / 65536
  b % 65536 + b / 65536

/-- The Internet checksum of bytes whose checksum field is 0. -/
def inetSum (l : List Byte) : Nat := 65535 - foldSum (wordSum l)

/-- The Internet checksum over a header that carries its checksum is good. -/
def inetGood (l : List Byte) : Bool := decide (foldSum (wordSum l) = 65535)

/-- M0 runs in the present mode (R308). (DESIGN CHOICE: log entry 128) -/
def m0Runs (s : State) : Bool :=
  match s.sup.mode with
  | .off => false
  | .shelf => false
  | .watch => s.sup.m0InWatch
  | _ => true

/-- The link-local address by modified EUI-64 (R309). -/
def linkLocal (mac : Nat) : Nat :=
  let u := (mac / 2 ^ 40) ^^^ 2
  0xFE80 * 2 ^ 112 + u * 2 ^ 56 + mac / 2 ^ 24 % 2 ^ 16 * 2 ^ 40 + 0xFFFE * 2 ^ 24 + mac % 2 ^ 24

/-- M0 holds an IPv4 address (R309). -/
def holds4 (a : Nat) (s : State) : Bool := decide (s.ports.m0.cfg.prefix4 ≠ 0) && decide (a = s.ports.m0.cfg.ipv4)

/-- M0 holds an IPv6 address (R309). -/
def holds6 (a : Nat) (s : State) : Bool :=
  decide (a = linkLocal s.ident.m0Mac.toNat) || (decide (s.ports.m0.cfg.prefix6 ≠ 0) && decide (a = s.ports.m0.cfg.ipv6))

/-- The EtherType and payload of a frame on M0's VLAN, where it is on it (R316 table). -/
def m0Payload (raw : List Byte) (s : State) : Option (Nat × List Byte) :=
  let v := s.ports.m0.cfg.vlan
  if raw.length < 14 then none
  else if v = 0 then (if f2 raw 12 = 0x8100 then none else some (f2 raw 12, raw.drop 14))
  else if f2 raw 12 = 0x8100 ∧ f2 raw 14 % 4096 = v then some (f2 raw 16, raw.drop 18)
  else none

/-- A frame from M0 to a MAC address, on its VLAN. (DEDUCED: log entry 92) -/
def m0Build (dmac typ : Nat) (body : List Byte) (s : State) : List Byte :=
  let v := s.ports.m0.cfg.vlan
  enc [(6, dmac), (6, s.ident.m0Mac.toNat)] ++ (if v = 0 then [] else enc [(2, 0x8100), (2, v)]) ++ be 2 typ ++ body

/-- Send a frame on M0. -/
def m0Send (dmac typ : Nat) (body : List Byte) (s : State) : State := emit (.m0Frame (m0Build dmac typ body s)) s

/-- A frame M0 discards is counted (R308). -/
def m0Discard (s : State) : State :=
  countDiscard 2 (fun c => { c with other := c.other.add32 1 })
    { s with ports := { s.ports with m0 := { s.ports.m0 with discarded := s.ports.m0.discarded.add64 1 } } }

/-- ARP: a request for M0's IPv4 address is answered. (PRESUMED: log entry 93) -/
def m0Arp (b : List Byte) (s : State) : State :=
  if f2 b 0 = 1 ∧ f2 b 2 = 0x0800 ∧ f2 b 6 = 1 ∧ 28 ≤ b.length ∧ holds4 (f4 b 24) s then
    m0Send (field b 8 6) 0x0806
      (enc [(2, 1), (2, 0x0800), (1, 6), (1, 4), (2, 2), (6, s.ident.m0Mac.toNat), (4, s.ports.m0.cfg.ipv4)] ++ slice b 8 10) s
  else m0Discard s

/-- An IPv4 header of M0's with its checksum: total length, protocol, destination. -/
def ip4Header (len proto dst : Nat) (s : State) : List Byte :=
  let h := fun c => enc [(1, 0x45), (1, 0), (2, 20 + len), (2, 0), (2, 0), (1, 64), (1, proto), (2, c),
    (4, s.ports.m0.cfg.ipv4), (4, dst)]
  h (inetSum (h 0))

/-- Where a KMP message on M0 comes from. (DEDUCED: log entry 92) -/
def m0Dest (addr port : Nat) : Dest := ⟨.m0, addr, port, false⟩

/-- IPv4 to M0: ICMP echo, KMP, PTP (R83, R148, R308). -/
def m0Ip4 (t : Nat) (smac : Nat) (b : List Byte) (s : State) : State :=
  let ihl := f1 b 0 % 16 * 4
  let p := slice b ihl (f2 b 2 - ihl)
  if b.length < 20 ∨ f1 b 0 / 16 ≠ 4 ∨ ihl < 20 ∨ !inetGood (b.take ihl) ∨ !holds4 (f4 b 16) s then m0Discard s
  else if f1 b 9 = 1 ∧ f1 p 0 = 8 then
    let r := fun c => enc [(1, 0), (1, 0), (2, c)] ++ p.drop 4
    let body := r (inetSum (r 0))
    if m0Reaches (f4 b 12) s then m0Send smac 0x0800 (ip4Header body.length 1 (f4 b 12) s ++ body) s else s
  else if f1 b 9 = 17 ∧ f2 p 2 = s.kmp.udpPort then messageArrives t (m0Dest (f4 b 12) (f2 p 0)) (slice p 8 (f2 p 4 - 8)) s
  else if f1 b 9 = 17 ∧ (f2 p 2 = 319 ∨ f2 p 2 = 320) ∧ s.tb.ptpPort = 0xFE then s
  else m0Discard s

/-- The pseudo-header of ICMPv6. -/
def pseudo6 (src dst len : Nat) : List Byte := enc [(16, src), (16, dst), (4, len), (4, 58)]

/-- An ICMPv6 packet from M0 with its checksum: `body` follows type, code and checksum. (PRESUMED: log entry 93) -/
def icmp6 (src dst typ hop : Nat) (body : List Byte) : List Byte :=
  let m := fun c => enc [(1, typ), (1, 0), (2, c)] ++ body
  let n := body.length + 4
  enc [(4, 0x60000000), (2, n), (1, 58), (1, hop), (16, src), (16, dst)] ++ m (inetSum (pseudo6 src dst n ++ m 0))

/-- IPv6 to M0: neighbour solicitation, ICMPv6 echo, KMP, PTP. -/
def m0Ip6 (t : Nat) (smac : Nat) (b : List Byte) (s : State) : State :=
  let src := field b 8 16
  let dst := field b 24 16
  let p := slice b 40 (f2 b 4)
  let target := field p 8 16
  if b.length < 40 ∨ f1 b 0 / 16 ≠ 6 then m0Discard s
  else if f1 b 6 = 58 ∧ f1 p 0 = 135 ∧ holds6 target s then
    m0Send smac 0x86DD (icmp6 target src 136 255 (enc [(4, 0x60000000), (16, target), (1, 2), (1, 1), (6, s.ident.m0Mac.toNat)])) s
  else if !holds6 dst s then m0Discard s
  else if f1 b 6 = 58 ∧ f1 p 0 = 128 then
    if m0Reaches src s then m0Send smac 0x86DD (icmp6 dst src 129 64 (p.drop 4)) s else s
  else if f1 b 6 = 17 ∧ f2 p 2 = s.kmp.udpPort then messageArrives t (m0Dest src (f2 p 0)) (slice p 8 (f2 p 4 - 8)) s
  else if f1 b 6 = 17 ∧ (f2 p 2 = 319 ∨ f2 p 2 = 320) ∧ s.tb.ptpPort = 0xFE then s
  else m0Discard s

/-- A frame within the limit of R308, to M0's own address, the broadcast address or a group address. -/
def m0Accept (t : Nat) (raw : List Byte) (s : State) : State :=
  let dmac := field raw 0 6
  let smac := field raw 6 6
  if dmac ≠ s.ident.m0Mac.toNat ∧ !bitOf (f1 raw 0) 0 then m0Discard s
  else
    match m0Payload raw s with
    | none => m0Discard s
    | some (typ, b) =>
      if typ = 0x0806 then m0Arp b s
      else if typ = 0x0800 then m0Ip4 t smac b s
      else if typ = 0x86DD then m0Ip6 t smac b s
      else if typ = 0x88F7 ∧ s.tb.ptpPort = 0xFE ∧ s.tb.ptpL2 then s
      else m0Discard s

/-- Frames M0 accepts in a second of the elapsed clock (R308). (DESIGN CHOICE: log entry 90) -/
def m0Limit : Nat := 1000

/-- M0_FRAME: the bytes from the destination address to the last before the FCS (R308); the requests in it go through
R167 only within the limit. (DEDUCED: log entry 91) -/
def m0FrameEffect (t : Nat) (raw : List Byte) (s0 : State) : State :=
  let s := advance t s0
  if !m0Runs s ∨ !transportServed .m0 s then s
  else
    let m := s.ports.m0
    let sec := s.elapsed / nsPerS
    let n := if sec = m.second then m.accepted else 0
    if m0Limit ≤ n then
      countDiscard 2 (fun c => { c with rate := c.rate.add32 1 })
        { s with ports := { s.ports with m0 := { m with second := sec, accepted := n } } }
    else m0Accept t raw { s with ports := { s.ports with m0 := { m with second := sec, accepted := n + 1 } } }

/-! ### The meanings -/

/-- M0_FRAME. -/
def execM0Frame (t : Nat) (raw : List Byte) (s : State) : Host.Outcome State Fault Refusal :=
  .next (m0FrameEffect t raw s)

end Sys2Proof.Machine
end

