-- ==== Sys2Proof/Machine/Relay.lean ====
section
/-! DEFINITION. Machine/Relay.lean: what Span members relay to each other over VC0 (R545 to R548, R553, R554, R556). -/

namespace Sys2Proof.Machine

open Sys2Proof

/-! ### At the leader -/

/-- An event of the follower is delivered as EV_SPAN_RELAYED: the time base of its cause, MEMBER, a reserved byte, its CODE, and
the rest of its payload (R548). (DEDUCED: log entry 224) -/
def relayedEvent (code : Nat) (payload : List Byte) (s : State) : State :=
  let adds := enc [(1, 1 - s.span.cfg.member), (1, 0), (2, code)] ++ payload.drop 10
  let r : EventRec := ⟨s.kmp.eventSeq, Ev.spanRelayed.code, 0, payload.take 10 ++ adds⟩
  let s1 := logEvent Ev.spanRelayed.code s.kmp.eventSeq adds s
  { s1 with kmp := { s1.kmp with eventSeq := inc16 s1.kmp.eventSeq, hold := holdPush r s1.kmp.hold } }

/-- LAST_SEEN values the follower has refreshed (R556). -/
def seenLater (v m at0 : Nat) (s : State) : State :=
  match bridgeFind s.fwd.live v m with
  | some (k, e) => if isDynamic e ∧ e.lastSeen < at0 then putBridge k (some { e with lastSeen := at0 }) s else s
  | none => s

/-- The follower's answer to a command that it has executed (R547). -/
def ranOnPartner (code : Nat) (q : Req) (status : Nat) (resp : List Byte) (s : State) : State :=
  if s.kmp.relayed then
    finish code q (findSession q.session s) (decide (status = 0)) status resp { s with kmp := { s.kmp with relayed := false } }
  else s

/-- The follower's record is complete, or its build has failed: the leader then gives its own record up (R554). -/
def partnerStage (good : Bool) (s : State) : State :=
  match s.kmp.building with
  | none => s
  | some c =>
    if good then
      let s1 := { s with kmp := { s.kmp with partnerBuilt := true } }
      if s.kmp.built then armBoth c s1 else s1
    else
      let s1 := killRecord c.slot s
      raise .commitFailed c.requestId (enc [(4, c.stageId), (1, 0)]) { s1 with kmp :=
        { s1.kmp with
          building := none, built := false, partnerBuilt := false
          stage := s1.kmp.stage.map fun g => { g with phase := .verified } } }

/-- What the leader takes from the follower. -/
def leaderTakes (t : Nat) (r : Relay) (s : State) : State :=
  match r with
  | .request tr addr port raw => messageArrives t ⟨tr, addr, port, true⟩ raw s
  | .ran code q status resp => ranOnPartner code q status resp s
  | .event code payload => relayedEvent code payload s
  | .learned mac vlan start notes => queueResult ⟨mac, vlan, start, notes⟩ s
  | .lastSeen entries => forEach entries (fun e s => seenLater e.1 e.2.1 e.2.2 s) s
  | .stageDone good => partnerStage good s
  | .outbound _ _ _ _ => s
  | .run _ _ => s
  | .stage _ _ _ _ => s

/-! ### At the follower -/

/-- A commit of the Span starts: the follower builds its own record from its own record in force (R554). -/
def followStage (id reqId epoch : Nat) (items : List Item) (s : State) : State :=
  let n := targetSlot s
  let c : Commit :=
    { stageId := id, requestId := reqId, sequence := inc32 (sequenceInForce s), epoch := epoch, slot := n, items := items
      order := s.kmp.acceptCount }
  let s1 := setSlotRecord n none (flashErase (slotBase n) slotSize s)
  { s1 with kmp := { s1.kmp with building := some c, built := false, acceptCount := s.kmp.acceptCount + 1 } }

/-- The leader arms the commit, with the epoch it has settled (R554). (DEDUCED: log entry 225) -/
def followArm (id epoch : Nat) (s : State) : State :=
  match s.kmp.building with
  | none => s
  | some c => if c.stageId = id ∧ s.kmp.built then armCommit c epoch s else s

/-- The leader has given the commit up (R553, R554). -/
def followDrop (s : State) : State :=
  let s1 :=
    match s.kmp.building with
    | none => s
    | some c => killRecord c.slot { s with kmp := { s.kmp with building := none, built := false } }
  match s1.kmp.committed with
  | none => s1
  | some c => dropPending (killRecord c.slot { s1 with boot := { s1.boot with held := none } })

/-- What the follower takes from the leader. -/
def followerTakes (r : Relay) (s : State) : State :=
  match r with
  | .outbound tr addr port raw => emit (.relayed ⟨tr, addr, port, false⟩ raw) s
  | .run code q => { s with kmp := { s.kmp with waiting := s.kmp.waiting ++ [⟨code, q, 0, true⟩] } }
  | .stage id reqId epoch items =>
    if items.isEmpty then followArm id epoch s else followStage id reqId epoch (items.map fun x => ⟨x.1, x.2⟩) s
  | .stageDone good => if good then s else followDrop s
  | .request _ _ _ _ => s
  | .ran _ _ _ _ => s
  | .event _ _ => s
  | .learned _ _ _ _ => s
  | .lastSeen _ => s

/-- RELAYED_MESSAGE (R546 to R548, R554, R556). (DEDUCED: log entry 226) -/
def relayedMessageEffect (t : Nat) (r : Relay) (s0 : State) : State :=
  let s := advance t s0
  if spanLeads s then leaderTakes t r s else if spanFollows s then followerTakes r s else s

/-! ### The meanings -/

/-- RELAYED_MESSAGE. -/
def execRelayedMessage (t : Nat) (r : Relay) (s : State) : Host.Outcome State Fault Refusal :=
  .next (relayedMessageEffect t r s)

end Sys2Proof.Machine
end

