-- ==== Sys2Proof/Machine/Dispatch.lean ====
section
/-! DEFINITION. Machine/Dispatch.lean: one arm for each command. -/

namespace Sys2Proof.Machine

open Sys2Proof

def exec (i : Instr) (s : State) : Host.Outcome State Fault Refusal :=
  match i with
  | .sessionOpen q => Sys2Proof.Machine.execSessionOpen q s
  | .sessionClose q => Sys2Proof.Machine.execSessionClose q s
  | .sessionStatus q => Sys2Proof.Machine.execSessionStatus q s
  | .identityGet q => Sys2Proof.Machine.execIdentityGet q s
  | .eventAck q => Sys2Proof.Machine.execEventAck q s
  | .eventFetch q => Sys2Proof.Machine.execEventFetch q s
  | .eventConfigSet q => Sys2Proof.Machine.execEventConfigSet q s
  | .transportConfigSet q => Sys2Proof.Machine.execTransportConfigSet q s
  | .transportConfigGet q => Sys2Proof.Machine.execTransportConfigGet q s
  | .timeGet q => Sys2Proof.Machine.execTimeGet q s
  | .timeSet q => Sys2Proof.Machine.execTimeSet q s
  | .timeSourceSet q => Sys2Proof.Machine.execTimeSourceSet q s
  | .rtcAlarmSet q => Sys2Proof.Machine.execRtcAlarmSet q s
  | .timerClaim q => Sys2Proof.Machine.execTimerClaim q s
  | .timerRelease q => Sys2Proof.Machine.execTimerRelease q s
  | .timerStatusGet q => Sys2Proof.Machine.execTimerStatusGet q s
  | .bootStatusGet q => Sys2Proof.Machine.execBootStatusGet q s
  | .bankErase q verifies => Sys2Proof.Machine.execBankErase q verifies s
  | .bankWrite q verifies => Sys2Proof.Machine.execBankWrite q verifies s
  | .bankSeal q verifies => Sys2Proof.Machine.execBankSeal q verifies s
  | .bankSelect q verifies => Sys2Proof.Machine.execBankSelect q verifies s
  | .bankConfirm q verifies => Sys2Proof.Machine.execBankConfirm q verifies s
  | .restart q => Sys2Proof.Machine.execRestart q s
  | .stageOpen q => Sys2Proof.Machine.execStageOpen q s
  | .stageWrite q => Sys2Proof.Machine.execStageWrite q s
  | .stageVerify q => Sys2Proof.Machine.execStageVerify q s
  | .stageCommit q => Sys2Proof.Machine.execStageCommit q s
  | .commitCancel q => Sys2Proof.Machine.execCommitCancel q s
  | .stageCancel q => Sys2Proof.Machine.execStageCancel q s
  | .baselineGet q => Sys2Proof.Machine.execBaselineGet q s
  | .baselineSet q verifies => Sys2Proof.Machine.execBaselineSet q verifies s
  | .recordErase q verifies => Sys2Proof.Machine.execRecordErase q verifies s
  | .recordWrite q verifies => Sys2Proof.Machine.execRecordWrite q verifies s
  | .siteLabelSet q => Sys2Proof.Machine.execSiteLabelSet q s
  | .siteLabelGet q => Sys2Proof.Machine.execSiteLabelGet q s
  | .modeGet q => Sys2Proof.Machine.execModeGet q s
  | .modeSet q => Sys2Proof.Machine.execModeSet q s
  | .modeConfigSet q => Sys2Proof.Machine.execModeConfigSet q s
  | .modeConfigGet q => Sys2Proof.Machine.execModeConfigGet q s
  | .wakeConfigSet q => Sys2Proof.Machine.execWakeConfigSet q s
  | .strikeConfigSet q => Sys2Proof.Machine.execStrikeConfigSet q s
  | .strikeStatusGet q => Sys2Proof.Machine.execStrikeStatusGet q s
  | .laneConfigSet q => Sys2Proof.Machine.execLaneConfigSet q s
  | .laneConfigGet q => Sys2Proof.Machine.execLaneConfigGet q s
  | .laneStatusGet q => Sys2Proof.Machine.execLaneStatusGet q s
  | .laneSleepSet q => Sys2Proof.Machine.execLaneSleepSet q s
  | .laneTestSet q => Sys2Proof.Machine.execLaneTestSet q s
  | .lanePrbsGet q errs struck => Sys2Proof.Machine.execLanePrbsGet q errs struck s
  | .laneEyeStart q => Sys2Proof.Machine.execLaneEyeStart q s
  | .laneEyeGet q => Sys2Proof.Machine.execLaneEyeGet q s
  | .portForm q => Sys2Proof.Machine.execPortForm q s
  | .portStatusGet q => Sys2Proof.Machine.execPortStatusGet q s
  | .m0ConfigSet q => Sys2Proof.Machine.execM0ConfigSet q s
  | .m0ConfigGet q => Sys2Proof.Machine.execM0ConfigGet q s
  | .opticsMapSet q => Sys2Proof.Machine.execOpticsMapSet q s
  | .opticsRead q ans => Sys2Proof.Machine.execOpticsRead q ans s
  | .opticsWrite q ans => Sys2Proof.Machine.execOpticsWrite q ans s
  | .cwLinkSet q => Sys2Proof.Machine.execCwLinkSet q s
  | .cwLinkStatusGet q => Sys2Proof.Machine.execCwLinkStatusGet q s
  | .cwCountersGet q => Sys2Proof.Machine.execCwCountersGet q s
  | .cwFlush q => Sys2Proof.Machine.execCwFlush q s
  | .fwdConfigSet q => Sys2Proof.Machine.execFwdConfigSet q s
  | .fwdConfigGet q => Sys2Proof.Machine.execFwdConfigGet q s
  | .vlanSet q => Sys2Proof.Machine.execVlanSet q s
  | .portLearnSet q => Sys2Proof.Machine.execPortLearnSet q s
  | .bridgeEntrySet q => Sys2Proof.Machine.execBridgeEntrySet q s
  | .bridgeFlush q => Sys2Proof.Machine.execBridgeFlush q s
  | .tableLookup q => Sys2Proof.Machine.execTableLookup q s
  | .tableStatusGet q => Sys2Proof.Machine.execTableStatusGet q s
  | .parseConfigSet q => Sys2Proof.Machine.execParseConfigSet q s
  | .parseConfigGet q => Sys2Proof.Machine.execParseConfigGet q s
  | .portClassSet q => Sys2Proof.Machine.execPortClassSet q s
  | .portClassGet q => Sys2Proof.Machine.execPortClassGet q s
  | .searchBankSet q => Sys2Proof.Machine.execSearchBankSet q s
  | .searchWrite q => Sys2Proof.Machine.execSearchWrite q s
  | .searchInsert q => Sys2Proof.Machine.execSearchInsert q s
  | .searchRead q => Sys2Proof.Machine.execSearchRead q s
  | .meterSet q => Sys2Proof.Machine.execMeterSet q s
  | .meterGet q => Sys2Proof.Machine.execMeterGet q s
  | .puntConfigSet q => Sys2Proof.Machine.execPuntConfigSet q s
  | .fragStatusGet q => Sys2Proof.Machine.execFragStatusGet q s
  | .deckQueueSet q => Sys2Proof.Machine.execDeckQueueSet q s
  | .deckQueueGet q => Sys2Proof.Machine.execDeckQueueGet q s
  | .deckStatusGet q => Sys2Proof.Machine.execDeckStatusGet q s
  | .trussStatusGet q => Sys2Proof.Machine.execTrussStatusGet q s
  | .egressConfigSet q => Sys2Proof.Machine.execEgressConfigSet q s
  | .egressConfigGet q => Sys2Proof.Machine.execEgressConfigGet q s
  | .schedSet q => Sys2Proof.Machine.execSchedSet q s
  | .schedGet q => Sys2Proof.Machine.execSchedGet q s
  | .gateListSet q => Sys2Proof.Machine.execGateListSet q s
  | .gateListGet q => Sys2Proof.Machine.execGateListGet q s
  | .queueStatusGet q => Sys2Proof.Machine.execQueueStatusGet q s
  | .spanConfigSet q => Sys2Proof.Machine.execSpanConfigSet q s
  | .spanConfigGet q => Sys2Proof.Machine.execSpanConfigGet q s
  | .spanJoin q => Sys2Proof.Machine.execSpanJoin q s
  | .spanLeave q => Sys2Proof.Machine.execSpanLeave q s
  | .spanStatusGet q => Sys2Proof.Machine.execSpanStatusGet q s
  | .spanTargetSet q => Sys2Proof.Machine.execSpanTargetSet q s
  | .dramStatusGet q => Sys2Proof.Machine.execDramStatusGet q s
  | .dramTrainGet q => Sys2Proof.Machine.execDramTrainGet q s
  | .dramPolicySet q => Sys2Proof.Machine.execDramPolicySet q s
  | .dramPolicyGet q => Sys2Proof.Machine.execDramPolicyGet q s
  | .dramRetrain q => Sys2Proof.Machine.execDramRetrain q s
  | .dramErrorLogGet q => Sys2Proof.Machine.execDramErrorLogGet q s
  | .dramRead q => Sys2Proof.Machine.execDramRead q s
  | .keyStatusGet q => Sys2Proof.Machine.execKeyStatusGet q s
  | .keyLoad q broken => Sys2Proof.Machine.execKeyLoad q broken s
  | .keyClear q => Sys2Proof.Machine.execKeyClear q s
  | .digestRun q => Sys2Proof.Machine.execDigestRun q s
  | .fioConfigSet q => Sys2Proof.Machine.execFioConfigSet q s
  | .fioStatusGet q => Sys2Proof.Machine.execFioStatusGet q s
  | .fioOutputSet q => Sys2Proof.Machine.execFioOutputSet q s
  | .fioPulse q => Sys2Proof.Machine.execFioPulse q s
  | .fioClear q => Sys2Proof.Machine.execFioClear q s
  | .gpioConfigSet q => Sys2Proof.Machine.execGpioConfigSet q s
  | .gpioWrite q => Sys2Proof.Machine.execGpioWrite q s
  | .gpioRead q ext => Sys2Proof.Machine.execGpioRead q ext s
  | .adcConfigSet q => Sys2Proof.Machine.execAdcConfigSet q s
  | .adcRead q => Sys2Proof.Machine.execAdcRead q s
  | .adcCaptureSet q => Sys2Proof.Machine.execAdcCaptureSet q s
  | .countersGet q => Sys2Proof.Machine.execCountersGet q s
  | .eventCounterSet q => Sys2Proof.Machine.execEventCounterSet q s
  | .snapshotTake q => Sys2Proof.Machine.execSnapshotTake q s
  | .snapshotRead q => Sys2Proof.Machine.execSnapshotRead q s
  | .snapshotScheduleSet q => Sys2Proof.Machine.execSnapshotScheduleSet q s
  | .bwConfigSet q => Sys2Proof.Machine.execBwConfigSet q s
  | .bwGet q => Sys2Proof.Machine.execBwGet q s
  | .monitorSet q => Sys2Proof.Machine.execMonitorSet q s
  | .monitorGet q => Sys2Proof.Machine.execMonitorGet q s
  | .logRead q => Sys2Proof.Machine.execLogRead q s
  | .strikeTallyGet q => Sys2Proof.Machine.execStrikeTallyGet q s
  | .coreStatusGet q => Sys2Proof.Machine.execCoreStatusGet q s
  | .perfConfigSet q => Sys2Proof.Machine.execPerfConfigSet q s
  | .perfRead q counts => Sys2Proof.Machine.execPerfRead q counts s
  | .perfSampleGet q => Sys2Proof.Machine.execPerfSampleGet q s
  | .debugAccessSet q => Sys2Proof.Machine.execDebugAccessSet q s
  | .debugFreeze q => Sys2Proof.Machine.execDebugFreeze q s
  | .captureSet q => Sys2Proof.Machine.execCaptureSet q s
  | .captureRead q => Sys2Proof.Machine.execCaptureRead q s
  | .hostWindowWrite t path off w uneven data => Sys2Proof.Machine.execHostWindowWrite t path off w uneven data s
  | .unmappedRead t path off w => Sys2Proof.Machine.execUnmappedRead t path off w s
  | .unalignedRead t path off w uneven => Sys2Proof.Machine.execUnalignedRead t path off w uneven s
  | .malformedSpiTransaction t cmd off cut => Sys2Proof.Machine.execMalformedSpiTransaction t cmd off cut s
  | .supplyStatus t path byte w peek => Sys2Proof.Machine.execSupplyStatus t path byte w peek s
  | .accessErr t path byte w peek => Sys2Proof.Machine.execAccessErr t path byte w peek s
  | .timeLatch t path byte w peek => Sys2Proof.Machine.execTimeLatch t path byte w peek s
  | .takeSnapshot t path byte w peek data => Sys2Proof.Machine.execTakeSnapshot t path byte w peek data s
  | .armPps t path byte w peek data => Sys2Proof.Machine.execArmPps t path byte w peek data s
  | .intCause t path byte w peek data => Sys2Proof.Machine.execIntCause t path byte w peek data s
  | .intMask t path byte w peek data => Sys2Proof.Machine.execIntMask t path byte w peek data s
  | .fence t path byte w peek => Sys2Proof.Machine.execFence t path byte w peek s
  | .quiesceReq t path byte w peek data => Sys2Proof.Machine.execQuiesceReq t path byte w peek data s
  | .ringEnable t path byte w peek data => Sys2Proof.Machine.execRingEnable t path byte w peek data s
  | .ringReset t path byte w peek data => Sys2Proof.Machine.execRingReset t path byte w peek data s
  | .reqTail t path byte w peek data => Sys2Proof.Machine.execReqTail t path byte w peek data s
  | .rspHead t path byte w peek data => Sys2Proof.Machine.execRspHead t path byte w peek data s
  | .requestEntryFetch t entry => Sys2Proof.Machine.execRequestEntryFetch t entry s
  | .responseEntryWrite t => Sys2Proof.Machine.execResponseEntryWrite t s
  | .ringDmaFault t => Sys2Proof.Machine.execRingDmaFault t s
  | .perstN t asserted => Sys2Proof.Machine.execPerstN t asserted s
  | .pcieLinkDown t => Sys2Proof.Machine.execPcieLinkDown t s
  | .pcieLinkUp t width rate msi busMaster => Sys2Proof.Machine.execPcieLinkUp t width rate msi busMaster s
  | .uartFrame t u raw => Sys2Proof.Machine.execUartFrame t u raw s
  | .rxGap t u gapMs => Sys2Proof.Machine.execRxGap t u gapMs s
  | .m0Frame t raw => Sys2Proof.Machine.execM0Frame t raw s
  | .eventSend t session => Sys2Proof.Machine.execEventSend t session s
  | .eventRetry t session => Sys2Proof.Machine.execEventRetry t session s
  | .cacheExpiry t => Sys2Proof.Machine.execCacheExpiry t s
  | .sessionIdle t session => Sys2Proof.Machine.execSessionIdle t session s
  | .evTransportReverted t tr => Sys2Proof.Machine.execEvTransportReverted t tr s
  | .commitArmed t good => Sys2Proof.Machine.execCommitArmed t good s
  | .epochReached t tagsGood => Sys2Proof.Machine.execEpochReached t tagsGood s
  | .abutmentStart t mv bankA33 bankB33 prtad => Sys2Proof.Machine.execAbutmentStart t mv bankA33 bankB33 prtad s
  | .abutmentReset t mv => Sys2Proof.Machine.execAbutmentReset t mv s
  | .retentionLost t mv => Sys2Proof.Machine.execRetentionLost t mv s
  | .vinReachesWatchOn t vin => Sys2Proof.Machine.execVinReachesWatchOn t vin s
  | .wakePin t level mv => Sys2Proof.Machine.execWakePin t level mv s
  | .fieldInputEdgeWake t pin rising mv => Sys2Proof.Machine.execFieldInputEdgeWake t pin rising mv s
  | .vinRestore t vin => Sys2Proof.Machine.execVinRestore t vin s
  | .rtcAlarm t => Sys2Proof.Machine.execRtcAlarm t s
  | .vinBelowOff t vin => Sys2Proof.Machine.execVinBelowOff t vin s
  | .rideThrough t vin lowVhold => Sys2Proof.Machine.execRideThrough t vin lowVhold s
  | .sheddingStep t vin vhold => Sys2Proof.Machine.execSheddingStep t vin vhold s
  | .holdFloorCrossing t vhold => Sys2Proof.Machine.execHoldFloorCrossing t vhold s
  | .transitionComplete t => Sys2Proof.Machine.execTransitionComplete t s
  | .climb t vin vhold => Sys2Proof.Machine.execClimb t vin vhold s
  | .climbAbandoned t vin => Sys2Proof.Machine.execClimbAbandoned t vin s
  | .surgeTrigger t mv => Sys2Proof.Machine.execSurgeTrigger t mv s
  | .slewTrigger t mv => Sys2Proof.Machine.execSlewTrigger t mv s
  | .evStrikeClose t => Sys2Proof.Machine.execEvStrikeClose t s
  | .inputSwitchOpen t vin => Sys2Proof.Machine.execInputSwitchOpen t vin s
  | .overvoltageTimeout t vin => Sys2Proof.Machine.execOvervoltageTimeout t vin s
  | .inputSwitchClose t vin => Sys2Proof.Machine.execInputSwitchClose t vin s
  | .thermalCut t die => Sys2Proof.Machine.execThermalCut t die s
  | .thermalRelease t die => Sys2Proof.Machine.execThermalRelease t die s
  | .vioFault t n => Sys2Proof.Machine.execVioFault t n s
  | .vioRetry t n holds => Sys2Proof.Machine.execVioRetry t n holds s
  | .referenceStartFail t => Sys2Proof.Machine.execReferenceStartFail t s
  | .referenceRetry t => Sys2Proof.Machine.execReferenceRetry t s
  | .evClockFail t n => Sys2Proof.Machine.execEvClockFail t n s
  | .rtcFail t => Sys2Proof.Machine.execRtcFail t s
  | .ppsEdge t => Sys2Proof.Machine.execPpsEdge t s
  | .ppsLoss t => Sys2Proof.Machine.execPpsLoss t s
  | .syncMessage t port domain intervalNs off => Sys2Proof.Machine.execSyncMessage t port domain intervalNs off s
  | .ptpLoss t => Sys2Proof.Machine.execPtpLoss t s
  | .holdoverExpiry t => Sys2Proof.Machine.execHoldoverExpiry t s
  | .rtcAlign t => Sys2Proof.Machine.execRtcAlign t s
  | .timerFire t g => Sys2Proof.Machine.execTimerFire t g s
  | .bankVerdict t agoNs kat => Sys2Proof.Machine.execBankVerdict t agoNs kat s
  | .flashNotAnswering t agoNs => Sys2Proof.Machine.execFlashNotAnswering t agoNs s
  | .configLoad t good items => Sys2Proof.Machine.execConfigLoad t good items s
  | .controlPreload t => Sys2Proof.Machine.execControlPreload t s
  | .autoConfirm t => Sys2Proof.Machine.execAutoConfirm t s
  | .watchdog t control => Sys2Proof.Machine.execWatchdog t control s
  | .dramTraining t c sweep => Sys2Proof.Machine.execDramTraining t c sweep s
  | .sectionStreamed t full good items => Sys2Proof.Machine.execSectionStreamed t full good items s
  | .searchLoaded t => Sys2Proof.Machine.execSearchLoaded t s
  | .evTableLoaded t => Sys2Proof.Machine.execEvTableLoaded t s
  | .cdrLock t l peak => Sys2Proof.Machine.execCdrLock t l peak s
  | .cdrLoss t l signal => Sys2Proof.Machine.execCdrLoss t l signal s
  | .acquisitionRetry t l => Sys2Proof.Machine.execAcquisitionRetry t l s
  | .warmWakeTimeout t l => Sys2Proof.Machine.execWarmWakeTimeout t l s
  | .dfeAdapt t l up => Sys2Proof.Machine.execDfeAdapt t l up s
  | .dfeRail t l tap => Sys2Proof.Machine.execDfeRail t l tap s
  | .prbsLock t l inverted => Sys2Proof.Machine.execPrbsLock t l inverted s
  | .prbsLockLoss t l errs => Sys2Proof.Machine.execPrbsLockLoss t l errs s
  | .evLaneEyeDone t eyes => Sys2Proof.Machine.execEvLaneEyeDone t eyes s
  | .cwComma t l expected wrong stuffErrs => Sys2Proof.Machine.execCwComma t l expected wrong stuffErrs s
  | .commonModeTrigger t l => Sys2Proof.Machine.execCommonModeTrigger t l s
  | .burstTrigger t l lossNs => Sys2Proof.Machine.execBurstTrigger t l lossNs s
  | .quarantineExit t l => Sys2Proof.Machine.execQuarantineExit t l s
  | .evLaneFault t l tx => Sys2Proof.Machine.execEvLaneFault t l tx s
  | .linkUp t p anDone fullDuplex => Sys2Proof.Machine.execLinkUp t p anDone fullDuplex s
  | .linkDown t p cause => Sys2Proof.Machine.execLinkDown t p cause s
  | .rxFrame t p raw damaged fecBad ageNs trie => Sys2Proof.Machine.execRxFrame t p raw damaged fecBad ageNs trie s
  | .opticsPoll t p ans => Sys2Proof.Machine.execOpticsPoll t p ans s
  | .opticsStep t p res => Sys2Proof.Machine.execOpticsStep t p res s
  | .i2cTimeout t m => Sys2Proof.Machine.execI2cTimeout t m s
  | .transmissionStart t p => Sys2Proof.Machine.execTransmissionStart t p s
  | .cwInit t l data => Sys2Proof.Machine.execCwInit t l data s
  | .cwInitSend t l => Sys2Proof.Machine.execCwInitSend t l s
  | .replayFrame t l raw cws hit trie => Sys2Proof.Machine.execReplayFrame t l raw cws hit trie s
  | .cwAck t l seq strike => Sys2Proof.Machine.execCwAck t l seq strike s
  | .cwNak t l seq => Sys2Proof.Machine.execCwNak t l seq s
  | .replayMark t l seq => Sys2Proof.Machine.execReplayMark t l seq s
  | .cwCredit t l data => Sys2Proof.Machine.execCwCredit t l data s
  | .ackTimer t l => Sys2Proof.Machine.execAckTimer t l s
  | .nakRepeat t l => Sys2Proof.Machine.execNakRepeat t l s
  | .creditTimer t l => Sys2Proof.Machine.execCreditTimer t l s
  | .replayTimer t l => Sys2Proof.Machine.execReplayTimer t l s
  | .peerStrikeTimeout t l => Sys2Proof.Machine.execPeerStrikeTimeout t l s
  | .fecLock t l => Sys2Proof.Machine.execFecLock t l s
  | .lineLoss t l => Sys2Proof.Machine.execLineLoss t l s
  | .graceEnd t l => Sys2Proof.Machine.execGraceEnd t l s
  | .meterRefill t => Sys2Proof.Machine.execMeterRefill t s
  | .puntRefill t => Sys2Proof.Machine.execPuntRefill t s
  | .followExpiry t => Sys2Proof.Machine.execFollowExpiry t s
  | .reinjected t trie => Sys2Proof.Machine.execReinjected t trie s
  | .holdExpired t => Sys2Proof.Machine.execHoldExpired t s
  | .searchScrub t bank entry => Sys2Proof.Machine.execSearchScrub t bank entry s
  | .evSearchError t bank entry repaired => Sys2Proof.Machine.execEvSearchError t bank entry repaired s
  | .learnWindowEnd t => Sys2Proof.Machine.execLearnWindowEnd t s
  | .learnResult t => Sys2Proof.Machine.execLearnResult t s
  | .agingSweep t => Sys2Proof.Machine.execAgingSweep t s
  | .tableScrub t g index double => Sys2Proof.Machine.execTableScrub t g index double s
  | .tableRepair t g index ok => Sys2Proof.Machine.execTableRepair t g index ok s
  | .cellLaunch t k slot => Sys2Proof.Machine.execCellLaunch t k slot s
  | .planeTransfer t m slot ecc => Sys2Proof.Machine.execPlaneTransfer t m slot ecc s
  | .cellArrival t d => Sys2Proof.Machine.execCellArrival t d s
  | .reseqTimeout t d k => Sys2Proof.Machine.execReseqTimeout t d k s
  | .shaperRefill t => Sys2Proof.Machine.execShaperRefill t s
  | .evGateTakeover t p => Sys2Proof.Machine.execEvGateTakeover t p s
  | .samplePeriodEnd t => Sys2Proof.Machine.execSamplePeriodEnd t s
  | .probeTimeout t => Sys2Proof.Machine.execProbeTimeout t s
  | .aloneProbe t => Sys2Proof.Machine.execAloneProbe t s
  | .linkTimeout t => Sys2Proof.Machine.execLinkTimeout t s
  | .electionRoundTimeout t => Sys2Proof.Machine.execElectionRoundTimeout t s
  | .spanClaim t claim => Sys2Proof.Machine.execSpanClaim t claim s
  | .spanDecide t round serial => Sys2Proof.Machine.execSpanDecide t round serial s
  | .syncComplete t offsetNs items => Sys2Proof.Machine.execSyncComplete t offsetNs items s
  | .heartbeat t heard => Sys2Proof.Machine.execHeartbeat t heard s
  | .evSpanSplit t cause byLeave => Sys2Proof.Machine.execEvSpanSplit t cause byLeave s
  | .mirrorUpdate t kind payload => Sys2Proof.Machine.execMirrorUpdate t kind payload s
  | .relayedMessage t r => Sys2Proof.Machine.execRelayedMessage t r s
  | .remoteCell t k d seq sop eop pkt => Sys2Proof.Machine.execRemoteCell t k d seq sop eop pkt s
  | .spanReseqTimeout t k d => Sys2Proof.Machine.execSpanReseqTimeout t k d s
  | .refresh t c busy => Sys2Proof.Machine.execRefresh t c busy s
  | .tempRead t temps => Sys2Proof.Machine.execTempRead t temps s
  | .retrainSlice t c emptyNs sweep => Sys2Proof.Machine.execRetrainSlice t c emptyNs sweep s
  | .retrainWaitExpiry t c => Sys2Proof.Machine.execRetrainWaitExpiry t c s
  | .retrainRepeat t c => Sys2Proof.Machine.execRetrainRepeat t c s
  | .dramScrub t c line status beats => Sys2Proof.Machine.execDramScrub t c line status beats s
  | .caAlert t c region again => Sys2Proof.Machine.execCaAlert t c region again s
  | .routeRepair t c clean => Sys2Proof.Machine.execRouteRepair t c clean s
  | .copyRebuild t c => Sys2Proof.Machine.execCopyRebuild t c s
  | .fioInputChange t pin mv => Sys2Proof.Machine.execFioInputChange t pin mv s
  | .debounce t pin => Sys2Proof.Machine.execDebounce t pin s
  | .wettingSample t pin mv => Sys2Proof.Machine.execWettingSample t pin mv s
  | .currentLimit t pin limited => Sys2Proof.Machine.execCurrentLimit t pin limited s
  | .overcurrentLatch t pin => Sys2Proof.Machine.execOvercurrentLatch t pin s
  | .outputRetry t pin => Sys2Proof.Machine.execOutputRetry t pin s
  | .readbackConflict t pin => Sys2Proof.Machine.execReadbackConflict t pin s
  | .conflictClear t pin => Sys2Proof.Machine.execConflictClear t pin s
  | .pulseStart t pin => Sys2Proof.Machine.execPulseStart t pin s
  | .pulseEnd t pin => Sys2Proof.Machine.execPulseEnd t pin s
  | .vinConversion t lowCode highCode => Sys2Proof.Machine.execVinConversion t lowCode highCode s
  | .adcConversion t c openTest code value => Sys2Proof.Machine.execAdcConversion t c openTest code value s
  | .adcCapture t => Sys2Proof.Machine.execAdcCapture t s
  | .snapshotScheduleFire t => Sys2Proof.Machine.execSnapshotScheduleFire t s
  | .bwWindowEnd t => Sys2Proof.Machine.execBwWindowEnd t s
  | .monitorWindowEnd t n => Sys2Proof.Machine.execMonitorWindowEnd t n s
  | .perfOverflow t watch counter task pc => Sys2Proof.Machine.execPerfOverflow t watch counter task pc s
  | .extest t => Sys2Proof.Machine.execExtest t s
  | .idcode t => Sys2Proof.Machine.execIdcode t s
  | .samplePreload t lands data => Sys2Proof.Machine.execSamplePreload t lands data s
  | .clamp t => Sys2Proof.Machine.execClamp t s
  | .highz t => Sys2Proof.Machine.execHighz t s
  | .bypass t opcode => Sys2Proof.Machine.execBypass t opcode s
  | .dbg t => Sys2Proof.Machine.execDbg t s
  | .debugRead t space addr => Sys2Proof.Machine.execDebugRead t space addr s
  | .debugWrite t space addr data => Sys2Proof.Machine.execDebugWrite t space addr data s
  | .dbgHalt t watch seq leftNs => Sys2Proof.Machine.execDbgHalt t watch seq leftNs s
  | .dbgResume t watch => Sys2Proof.Machine.execDbgResume t watch s
  | .dbgStep t watch => Sys2Proof.Machine.execDbgStep t watch s
  | .debugReset t => Sys2Proof.Machine.execDebugReset t s
  | .debugFreezeWrite t => Sys2Proof.Machine.execDebugFreezeWrite t s
  | .clearLockBroken t => Sys2Proof.Machine.execClearLockBroken t s
  | .forcedHalt t watch => Sys2Proof.Machine.execForcedHalt t watch s
  | .debugAccessExpiry t => Sys2Proof.Machine.execDebugAccessExpiry t s
  | .clocksLocked t copyOk => Sys2Proof.Machine.execClocksLocked t copyOk s
  | .tablesInstalled t => Sys2Proof.Machine.execTablesInstalled t s
  | .transmissionEnd t p => Sys2Proof.Machine.execTransmissionEnd t p s
  | .lanePllLock t l tx => Sys2Proof.Machine.execLanePllLock t l tx s
  | .tenMhzPresent t present => Sys2Proof.Machine.execTenMhzPresent t present s
  | .alertNHigh t c => Sys2Proof.Machine.execAlertNHigh t c s
  | .ppsOut t => Sys2Proof.Machine.execPpsOut t s
  | .uart0Cts t asserted => Sys2Proof.Machine.execUart0Cts t asserted s
  | .aloneProbeEnd t => Sys2Proof.Machine.execAloneProbeEnd t s
  | .frameSlot t l => Sys2Proof.Machine.execFrameSlot t l s
  | .spanTimingExchange t offsetNs quality => Sys2Proof.Machine.execSpanTimingExchange t offsetNs quality s

end Sys2Proof.Machine
end

