-- ==== Sys2Proof/WellFormed.lean ====
section
/-! DEFINITION. WellFormed.lean: which commands can occur at all: every operand fits the field that carries it (R20, R152, R245, R542). -/

namespace Sys2Proof

/-- A request fits the message header of R152 and the addressing of R151; LENGTH is at most 1,280 (R153). -/
def reqWf (q : Req) : Bool :=
  decide (q.addr < 2 ^ 128) && decide (q.port < 65536) && decide (q.session < 65536) && decide (q.requestId < 2 ^ 32) &&
    decide (q.seq < 65536) && decide (q.ack < 65536) && decide (q.payload.length ≤ 1280)

/-- A CLAIM fits its fields (R542). -/
def claimWf (c : Claim) : Bool :=
  decide (c.round < 65536) && decide (c.priority < 256) && decide (c.serial < 2 ^ 64) && decide (c.member ≤ 1) && decide (c.spanId < 2 ^ 32)

/-- A packet fits the fields of a head cell (R470). -/
def packetWf (x : Packet) : Bool :=
  decide (x.dmac < 2 ^ 48) && decide (x.smac < 2 ^ 48) && decide (x.tpid < 65536) && decide (x.vlan < 4096) &&
    decide (x.pcpDei < 16) && decide (x.inPort < 256) && decide (x.cls < 16) && decide (x.queue < 16) && decide (x.ports < 2 ^ 257)

/-- Stage items have a TYPE of 2 bytes (R187). -/
def itemsWf (l : List (Nat × List Byte)) : Bool := l.all fun x => decide (x.1 < 65536)

/-- An I2C answer carries at most the 128 bytes an access may ask for (R313). -/
def ansWf (a : I2cAns) : Bool :=
  match a with
  | .ok data => decide (data.length ≤ 128)
  | .noackMux => true
  | .noackDev => true
  | .hang => true

/-- A relayed message fits its fields (R546 to R548). -/
def relayWf (r : Relay) : Bool :=
  match r with
  | .request _ addr port _ => decide (addr < 2 ^ 128) && decide (port < 65536)
  | .outbound _ addr port _ => decide (addr < 2 ^ 128) && decide (port < 65536)
  | .run code q => decide (code < 65536) && reqWf q
  | .ran code q status _ => decide (code < 65536) && reqWf q && decide (status < 65536)
  | .event code _ => decide (code < 65536)
  | .learned mac vlan _ _ => decide (mac < 2 ^ 48) && decide (vlan < 4096)
  | .lastSeen l => l.all fun e => decide (e.1 < 4096) && decide (e.2.1 < 2 ^ 48)
  | .stage _ _ _ items => itemsWf items
  | .stageDone _ => true

/-- A command whose operands all fit. -/
def wellFormed (i : Instr) : Bool :=
  match i with
  | .sessionOpen q => reqWf q
  | .sessionClose q => reqWf q
  | .sessionStatus q => reqWf q
  | .identityGet q => reqWf q
  | .eventAck q => reqWf q
  | .eventFetch q => reqWf q
  | .eventConfigSet q => reqWf q
  | .transportConfigSet q => reqWf q
  | .transportConfigGet q => reqWf q
  | .timeGet q => reqWf q
  | .timeSet q => reqWf q
  | .timeSourceSet q => reqWf q
  | .rtcAlarmSet q => reqWf q
  | .timerClaim q => reqWf q
  | .timerRelease q => reqWf q
  | .timerStatusGet q => reqWf q
  | .bootStatusGet q => reqWf q
  | .bankErase q _ => reqWf q
  | .bankWrite q _ => reqWf q
  | .bankSeal q _ => reqWf q
  | .bankSelect q _ => reqWf q
  | .bankConfirm q _ => reqWf q
  | .restart q => reqWf q
  | .stageOpen q => reqWf q
  | .stageWrite q => reqWf q
  | .stageVerify q => reqWf q
  | .stageCommit q => reqWf q
  | .commitCancel q => reqWf q
  | .stageCancel q => reqWf q
  | .baselineGet q => reqWf q
  | .baselineSet q _ => reqWf q
  | .recordErase q _ => reqWf q
  | .recordWrite q _ => reqWf q
  | .siteLabelSet q => reqWf q
  | .siteLabelGet q => reqWf q
  | .modeGet q => reqWf q
  | .modeSet q => reqWf q
  | .modeConfigSet q => reqWf q
  | .modeConfigGet q => reqWf q
  | .wakeConfigSet q => reqWf q
  | .strikeConfigSet q => reqWf q
  | .strikeStatusGet q => reqWf q
  | .laneConfigSet q => reqWf q
  | .laneConfigGet q => reqWf q
  | .laneStatusGet q => reqWf q
  | .laneSleepSet q => reqWf q
  | .laneTestSet q => reqWf q
  | .lanePrbsGet q _ _ => reqWf q
  | .laneEyeStart q => reqWf q
  | .laneEyeGet q => reqWf q
  | .portForm q => reqWf q
  | .portStatusGet q => reqWf q
  | .m0ConfigSet q => reqWf q
  | .m0ConfigGet q => reqWf q
  | .opticsMapSet q => reqWf q
  | .opticsRead q ans => reqWf q && ansWf ans
  | .opticsWrite q ans => reqWf q && ansWf ans
  | .cwLinkSet q => reqWf q
  | .cwLinkStatusGet q => reqWf q
  | .cwCountersGet q => reqWf q
  | .cwFlush q => reqWf q
  | .fwdConfigSet q => reqWf q
  | .fwdConfigGet q => reqWf q
  | .vlanSet q => reqWf q
  | .portLearnSet q => reqWf q
  | .bridgeEntrySet q => reqWf q
  | .bridgeFlush q => reqWf q
  | .tableLookup q => reqWf q
  | .tableStatusGet q => reqWf q
  | .parseConfigSet q => reqWf q
  | .parseConfigGet q => reqWf q
  | .portClassSet q => reqWf q
  | .portClassGet q => reqWf q
  | .searchBankSet q => reqWf q
  | .searchWrite q => reqWf q
  | .searchInsert q => reqWf q
  | .searchRead q => reqWf q
  | .meterSet q => reqWf q
  | .meterGet q => reqWf q
  | .puntConfigSet q => reqWf q
  | .fragStatusGet q => reqWf q
  | .deckQueueSet q => reqWf q
  | .deckQueueGet q => reqWf q
  | .deckStatusGet q => reqWf q
  | .trussStatusGet q => reqWf q
  | .egressConfigSet q => reqWf q
  | .egressConfigGet q => reqWf q
  | .schedSet q => reqWf q
  | .schedGet q => reqWf q
  | .gateListSet q => reqWf q
  | .gateListGet q => reqWf q
  | .queueStatusGet q => reqWf q
  | .spanConfigSet q => reqWf q
  | .spanConfigGet q => reqWf q
  | .spanJoin q => reqWf q
  | .spanLeave q => reqWf q
  | .spanStatusGet q => reqWf q
  | .spanTargetSet q => reqWf q
  | .dramStatusGet q => reqWf q
  | .dramTrainGet q => reqWf q
  | .dramPolicySet q => reqWf q
  | .dramPolicyGet q => reqWf q
  | .dramRetrain q => reqWf q
  | .dramErrorLogGet q => reqWf q
  | .dramRead q => reqWf q
  | .keyStatusGet q => reqWf q
  | .keyLoad q _ => reqWf q
  | .keyClear q => reqWf q
  | .digestRun q => reqWf q
  | .fioConfigSet q => reqWf q
  | .fioStatusGet q => reqWf q
  | .fioOutputSet q => reqWf q
  | .fioPulse q => reqWf q
  | .fioClear q => reqWf q
  | .gpioConfigSet q => reqWf q
  | .gpioWrite q => reqWf q
  | .gpioRead q _ => reqWf q
  | .adcConfigSet q => reqWf q
  | .adcRead q => reqWf q
  | .adcCaptureSet q => reqWf q
  | .countersGet q => reqWf q
  | .eventCounterSet q => reqWf q
  | .snapshotTake q => reqWf q
  | .snapshotRead q => reqWf q
  | .snapshotScheduleSet q => reqWf q
  | .bwConfigSet q => reqWf q
  | .bwGet q => reqWf q
  | .monitorSet q => reqWf q
  | .monitorGet q => reqWf q
  | .logRead q => reqWf q
  | .strikeTallyGet q => reqWf q
  | .coreStatusGet q => reqWf q
  | .perfConfigSet q => reqWf q
  | .perfRead q counts => reqWf q && decide (counts.length = 6)
  | .perfSampleGet q => reqWf q
  | .debugAccessSet q => reqWf q
  | .debugFreeze q => reqWf q
  | .captureSet q => reqWf q
  | .captureRead q => reqWf q
  | .hostWindowWrite _ _ _ _ _ _ => true
  | .unmappedRead _ _ _ _ => true
  | .unalignedRead _ _ _ _ _ => true
  | .malformedSpiTransaction _ _ _ _ => true
  | .supplyStatus _ _ _ _ _ => true
  | .accessErr _ _ _ _ _ => true
  | .timeLatch _ _ _ _ _ => true
  | .takeSnapshot _ _ _ _ _ _ => true
  | .armPps _ _ _ _ _ _ => true
  | .intCause _ _ _ _ _ _ => true
  | .intMask _ _ _ _ _ _ => true
  | .fence _ _ _ _ _ => true
  | .quiesceReq _ _ _ _ _ _ => true
  | .ringEnable _ _ _ _ _ _ => true
  | .ringReset _ _ _ _ _ _ => true
  | .reqTail _ _ _ _ _ _ => true
  | .rspHead _ _ _ _ _ _ => true
  | .requestEntryFetch _ entry => decide (entry.length = 2048)
  | .responseEntryWrite _ => true
  | .ringDmaFault _ => true
  | .perstN _ _ => true
  | .pcieLinkDown _ => true
  | .pcieLinkUp _ width _ _ _ => decide (width ≤ 16)
  | .uartFrame _ _ raw => decide (raw.length ≤ 16384)
  | .rxGap _ _ _ => true
  | .m0Frame _ raw => decide (raw.length ≤ 16384)
  | .eventSend _ session => decide (session < 65536)
  | .eventRetry _ session => decide (session < 65536)
  | .cacheExpiry _ => true
  | .sessionIdle _ session => decide (session < 65536)
  | .evTransportReverted _ _ => true
  | .commitArmed _ _ => true
  | .epochReached _ _ => true
  | .abutmentStart _ mv _ _ _ => decide (mv < 65536)
  | .abutmentReset _ mv => decide (mv < 65536)
  | .retentionLost _ mv => decide (mv < 65536)
  | .vinReachesWatchOn _ vin => decide (vin < 65536)
  | .wakePin _ _ mv => decide (mv < 65536)
  | .fieldInputEdgeWake _ _ _ mv => decide (mv < 65536)
  | .vinRestore _ vin => decide (vin < 65536)
  | .rtcAlarm _ => true
  | .vinBelowOff _ vin => decide (vin < 65536)
  | .rideThrough _ vin lowVhold => decide (vin < 65536) && decide (lowVhold < 65536)
  | .sheddingStep _ vin vhold => decide (vin < 65536) && decide (vhold < 65536)
  | .holdFloorCrossing _ vhold => decide (vhold < 65536)
  | .transitionComplete _ => true
  | .climb _ vin vhold => decide (vin < 65536) && decide (vhold < 65536)
  | .climbAbandoned _ vin => decide (vin < 65536)
  | .surgeTrigger _ mv => decide (mv < 65536)
  | .slewTrigger _ mv => decide (mv < 65536)
  | .evStrikeClose _ => true
  | .inputSwitchOpen _ vin => decide (vin < 65536)
  | .overvoltageTimeout _ vin => decide (vin < 65536)
  | .inputSwitchClose _ vin => decide (vin < 65536)
  | .thermalCut _ _ => true
  | .thermalRelease _ _ => true
  | .vioFault _ _ => true
  | .vioRetry _ _ _ => true
  | .referenceStartFail _ => true
  | .referenceRetry _ => true
  | .evClockFail _ _ => true
  | .rtcFail _ => true
  | .ppsEdge _ => true
  | .ppsLoss _ => true
  | .syncMessage _ port domain _ _ => decide (port < 256) && decide (domain < 256)
  | .ptpLoss _ => true
  | .holdoverExpiry _ => true
  | .rtcAlign _ => true
  | .timerFire _ _ => true
  | .bankVerdict _ _ _ => true
  | .flashNotAnswering _ _ => true
  | .configLoad _ _ items => itemsWf items
  | .controlPreload _ => true
  | .autoConfirm _ => true
  | .watchdog _ _ => true
  | .dramTraining _ _ _ => true
  | .sectionStreamed _ _ _ items => itemsWf items
  | .searchLoaded _ => true
  | .evTableLoaded _ => true
  | .cdrLock _ _ _ => true
  | .cdrLoss _ _ _ => true
  | .acquisitionRetry _ _ => true
  | .warmWakeTimeout _ _ => true
  | .dfeAdapt _ _ _ => true
  | .dfeRail _ _ _ => true
  | .prbsLock _ _ _ => true
  | .prbsLockLoss _ _ _ => true
  | .evLaneEyeDone _ _ => true
  | .cwComma _ _ _ _ _ => true
  | .commonModeTrigger _ _ => true
  | .burstTrigger _ _ _ => true
  | .quarantineExit _ _ => true
  | .evLaneFault _ _ _ => true
  | .linkUp _ _ _ _ => true
  | .linkDown _ _ _ => true
  | .rxFrame _ _ raw _ _ _ _ => decide (raw.length ≤ 16384)
  | .opticsPoll _ _ ans => ansWf ans
  | .opticsStep _ _ _ => true
  | .i2cTimeout _ _ => true
  | .transmissionStart _ _ => true
  | .cwInit _ _ _ => true
  | .cwInitSend _ _ => true
  | .replayFrame _ _ raw _ _ _ => decide (raw.length ≤ 16384)
  | .cwAck _ _ _ _ => true
  | .cwNak _ _ _ => true
  | .replayMark _ _ _ => true
  | .cwCredit _ _ _ => true
  | .ackTimer _ _ => true
  | .nakRepeat _ _ => true
  | .creditTimer _ _ => true
  | .replayTimer _ _ => true
  | .peerStrikeTimeout _ _ => true
  | .fecLock _ _ => true
  | .lineLoss _ _ => true
  | .graceEnd _ _ => true
  | .meterRefill _ => true
  | .puntRefill _ => true
  | .followExpiry _ => true
  | .reinjected _ _ => true
  | .holdExpired _ => true
  | .searchScrub _ _ _ => true
  | .evSearchError _ _ _ _ => true
  | .learnWindowEnd _ => true
  | .learnResult _ => true
  | .agingSweep _ => true
  | .tableScrub _ _ index _ => decide (index < 2 ^ 32)
  | .tableRepair _ _ index _ => decide (index < 2 ^ 32)
  | .cellLaunch _ _ _ => true
  | .planeTransfer _ _ _ _ => true
  | .cellArrival _ _ => true
  | .reseqTimeout _ _ _ => true
  | .shaperRefill _ => true
  | .evGateTakeover _ _ => true
  | .samplePeriodEnd _ => true
  | .probeTimeout _ => true
  | .aloneProbe _ => true
  | .linkTimeout _ => true
  | .electionRoundTimeout _ => true
  | .spanClaim _ claim => claim.all claimWf
  | .spanDecide _ _ _ => true
  | .syncComplete _ _ items => itemsWf items
  | .heartbeat _ _ => true
  | .evSpanSplit _ _ _ => true
  | .mirrorUpdate _ _ _ => true
  | .relayedMessage _ r => relayWf r
  | .remoteCell _ _ _ _ _ _ pkt => pkt.all packetWf
  | .spanReseqTimeout _ _ _ => true
  | .refresh _ _ _ => true
  | .tempRead _ _ => true
  | .retrainSlice _ _ _ _ => true
  | .retrainWaitExpiry _ _ => true
  | .retrainRepeat _ _ => true
  | .dramScrub _ _ _ _ _ => true
  | .caAlert _ _ region _ => decide (region < 256)
  | .routeRepair _ _ _ => true
  | .copyRebuild _ _ => true
  | .fioInputChange _ _ mv => decide (mv < 65536)
  | .debounce _ _ => true
  | .wettingSample _ _ mv => decide (mv < 65536)
  | .currentLimit _ _ _ => true
  | .overcurrentLatch _ _ => true
  | .outputRetry _ _ => true
  | .readbackConflict _ _ => true
  | .conflictClear _ _ => true
  | .pulseStart _ _ => true
  | .pulseEnd _ _ => true
  | .vinConversion _ _ _ => true
  | .adcConversion _ _ _ _ _ => true
  | .adcCapture _ => true
  | .snapshotScheduleFire _ => true
  | .bwWindowEnd _ => true
  | .monitorWindowEnd _ _ => true
  | .perfOverflow _ _ _ _ _ => true
  | .extest _ => true
  | .idcode _ => true
  | .samplePreload _ _ _ => true
  | .clamp _ => true
  | .highz _ => true
  | .bypass _ _ => true
  | .dbg _ => true
  | .debugRead _ _ _ => true
  | .debugWrite _ _ _ _ => true
  | .dbgHalt _ _ _ _ => true
  | .dbgResume _ _ => true
  | .dbgStep _ _ => true
  | .debugReset _ => true
  | .debugFreezeWrite _ => true
  | .clearLockBroken _ => true
  | .forcedHalt _ _ => true
  | .debugAccessExpiry _ => true
  | .clocksLocked _ _ => true
  | .tablesInstalled _ => true
  | .transmissionEnd _ _ => true
  | .lanePllLock _ _ _ => true
  | .tenMhzPresent _ _ => true
  | .alertNHigh _ _ => true
  | .ppsOut _ => true
  | .uart0Cts _ _ => true
  | .aloneProbeEnd _ => true
  | .frameSlot _ _ => true
  | .spanTimingExchange _ _ _ => true

end Sys2Proof
end

