-- ==== Sys2Proof/Safety.lean ====
section
/-! DEFINITION. Safety.lean: the terms in which claims about the block are stated. -/

namespace Sys2Proof.Safety

open Sys2Proof Sys2Proof.Machine

/-- The command takes effect: `exec` answers a next state, and that state has a property. -/
def Does (i : Instr) (s : State) (P : State → Prop) : Prop := ∃ v, exec i s = .next v ∧ P v

/-- A command that names the time `t` it happens at: where `pre` holds of the state with the clock advanced to `t`, it takes effect and
leaves `eff` of that state. -/
def Takes (i : Nat → Instr) (pre : State → Prop) (eff : State → State) : Prop :=
  ∀ t s, pre (advance t s) → exec (i t) s = .next (eff (advance t s))

/-! ### Accesses of the host window -/

/-- A register of the window takes a write of this width at its byte `k`: the path is up, the access is aligned, the register takes
writes of that width, and its owner and the ring settings do not forbid it; `v` is what it holds. -/
def regWritable (reg : Nat) (path : HostPath) (k : Fin 4) (w : Width) (v : Nat) (s : State) : Prop :=
  pathUp path s ∧ k.val % widthBytes w = 0 ∧ windowWord path reg s = some v ∧ (w = .w32 ∨ byteWritable reg) ∧
    (isRingReg reg ∧ s.host.rings.enable → s.host.rings.ownerSpi = decide (path = .spi)) ∧ settingLocked reg s = false

/-- The bytes a write of `data`, with the bits of `set` set, puts into a register. -/
def regBytes (set : Nat) (w : Width) (data : BitVec 32) : List Byte := (le 4 (data ||| BitVec.ofNat 32 set).toNat).take (widthBytes w)

/-- What such a write leaves. -/
def regWritten (reg set : Nat) (path : HostPath) (k : Fin 4) (w : Width) (data : BitVec 32) (v : Nat) (s : State) : State :=
  writeWord path reg (mergeBytes v k.val (regBytes set w data)) (noteWrite path (reg + k.val) (regBytes set w data) s)

/-- A row that writes a register: it takes effect in every form that R219 to R235 let through; through the peek alias it is discarded and
logged with KIND 4 (R224). -/
def RegWrites (reg set : Nat) (i : Nat → HostPath → Fin 4 → Width → Bool → BitVec 32 → Instr) : Prop :=
  ∀ path k w data, (∀ v, Takes (fun t => i t path k w false data) (regWritable reg path k w v) (regWritten reg set path k w data v)) ∧
    Takes (fun t => i t path k w true data) (fun u => pathUp path u ∧ k.val % widthBytes w = 0)
      (logAccess 4 path true (widthCode w) (reg + k.val + 0x8000))

/-- A row that reads a register with a side effect: the aligned read returns the bytes of `get` and has the effect; through the peek
alias it returns the register's bytes and has none (R217). -/
def RegReads (reg : Nat) (i : Nat → HostPath → Fin 4 → Width → Bool → Instr) (get : Nat → State → Nat) (eff : HostPath → State → State) :
    Prop :=
  ∀ path k w v,
    Takes (fun t => i t path k w false) (fun u => pathUp path u ∧ k.val % widthBytes w = 0 ∧ windowWord path reg u = some v)
      (fun u => emit (.hostRead path (slice (le 4 (get v u)) k.val (widthBytes w))) (eff path u)) ∧
    Takes (fun t => i t path k w true) (fun u => pathUp path u ∧ k.val % widthBytes w = 0 ∧ windowWord path reg u = some v)
      (fun u => emit (.hostRead path (slice (le 4 v) k.val (widthBytes w))) u)

/-! ### Requests of the mailbox -/

/-- The session of a request passes steps 2 to 9 of R167: it is open, the AUTH flag is the session's, no cached response answers the
request, SEQ lies in its window, and the role suffices. -/
def sessionPasses (c : Cmd) (q : Req) (s : State) : Bool :=
  match findSession q.session s with
  | none => false
  | some x =>
    (q.auth == x.keySlot.isSome) && (cacheFind q.requestId s.elapsed (sessionCache x s)).isNone &&
      decide (1 ≤ seqDist q.seq x.h) && decide (seqDist q.seq x.h ≤ seqWindow) && (!c.row.control || x.controlling) &&
      (!spanLeads s || !actsOnTarget c || decide (x.target = 0))

/-- A request of an open session that passes steps 2 to 9 of R167 on a mailbox that is serving and has no other request to
execute, and whose command acts on this module: its command's own definition decides. -/
def admitted (c : Cmd) (q : Req) (s0 : State) : Bool :=
  let s := advance q.t s0
  decide (q.session ≠ 0) && s.kmp.waiting.isEmpty && destServed (reqDest q) s && !spanFollows s && !kmpHalted s && !s.boot.recovery &&
    !mustWait c q s && cmdKnown c s && cmdInMode c s.sup.mode && sessionPasses c q s

/-- The state in which the command's own definition acts: the clock advanced, the request counted, its session renewed. -/
def entered (c : Cmd) (q : Req) (s0 : State) : State :=
  let s := advance q.t s0
  match arrive c.row.code q (takeRequest (if q.remote then s else countRx q.transport s)) with
  | .done v => v
  | .go h v => { v with kmp := { v.kmp with hBefore := h } }

/-- The command of a request takes effect: it leaves `v` and is answered with success and the payload `resp`; the answer goes out and is
cached by `finish`. -/
def Answers (c : Cmd) (q : Req) (i : Instr) (s v : State) (resp : List Byte) : Prop :=
  exec i s = .next (finish c.row.code q (findSession q.session (entered c q s)) true 0 resp v)

/-- The request is turned away with an error: nothing but the answer. -/
def TurnsAway (c : Cmd) (q : Req) (i : Instr) (s : State) (e : Err) : Prop :=
  exec i s = .next (finish c.row.code q (findSession q.session (entered c q s)) false e.code [] (entered c q s))

/-- Every admitted request of a command that meets `pre` takes effect: with `u` the state its command acts on, it leaves `eff q u` and is
answered with success and `resp q u`. -/
def Succeeds (c : Cmd) (i : Req → Instr) (pre : Req → State → Prop) (eff : Req → State → State) (resp : Req → State → List Byte) : Prop :=
  ∀ q s, admitted c q s = true → pre q (entered c q s) →
    Answers c q (i q) s (eff q (entered c q s)) (resp q (entered c q s))

/-- Every admitted request of a command that meets `pre` is answered with success and `resp q u`, and changes nothing else. -/
def Reports (c : Cmd) (i : Req → Instr) (pre : Req → State → Prop) (resp : Req → State → List Byte) : Prop :=
  Succeeds c i pre (fun _ u => u) resp

/-- Every admitted request of a command that meets `pre` is turned away with an error and has no effect. -/
def Refuses (c : Cmd) (i : Req → Instr) (pre : Req → State → Prop) (e : Err) : Prop :=
  ∀ q s, admitted c q s = true → pre q (entered c q s) → TurnsAway c q (i q) s e

/-- Nothing but the request's length decides: an empty payload. -/
def noPayload (q : Req) (_ : State) : Prop := q.payload = []

/-- A SESSION_OPEN that reaches its own definition: the mailbox serves, no cached answer and no other request waits. -/
def opening (q : Req) (s0 : State) : Bool :=
  let s := advance q.t s0
  decide (q.session = 0) && s.kmp.waiting.isEmpty && destServed (reqDest q) s && !spanFollows s && !kmpHalted s && !s.boot.recovery &&
    !requestHeld s && cmdInMode .sessionOpen s.sup.mode && (cacheFind q.requestId s.elapsed s.kmp.openCache).isNone &&
    (findSession 0 s).isNone

/-- A request in recovery that reaches its own definition (R132, R166): sessionless, with a tag, no cached answer. -/
def recovering (c : Cmd) (q : Req) (s0 : State) : Bool :=
  let s := advance q.t s0
  s.boot.recovery && recoveryServes c && decide (q.session = 0) && q.auth && s.kmp.waiting.isEmpty && destServed (reqDest q) s &&
    !spanFollows s && !kmpHalted s && !mustWait c q s && (cacheFind q.requestId s.elapsed s.kmp.recoveryCache).isNone &&
    (findSession 0 s).isNone

/-- The KMP command and the request of a row that is one. -/
def requestOf (i : Instr) : Option (Cmd × Req) :=
  match i with
  | .sessionOpen q => some (.sessionOpen, q)
  | .sessionClose q => some (.sessionClose, q)
  | .sessionStatus q => some (.sessionStatus, q)
  | .identityGet q => some (.identityGet, q)
  | .eventAck q => some (.eventAck, q)
  | .eventFetch q => some (.eventFetch, q)
  | .eventConfigSet q => some (.eventConfigSet, q)
  | .transportConfigSet q => some (.transportConfigSet, q)
  | .transportConfigGet q => some (.transportConfigGet, q)
  | .timeGet q => some (.timeGet, q)
  | .timeSet q => some (.timeSet, q)
  | .timeSourceSet q => some (.timeSourceSet, q)
  | .rtcAlarmSet q => some (.rtcAlarmSet, q)
  | .timerClaim q => some (.timerClaim, q)
  | .timerRelease q => some (.timerRelease, q)
  | .timerStatusGet q => some (.timerStatusGet, q)
  | .bootStatusGet q => some (.bootStatusGet, q)
  | .bankErase q _ => some (.bankErase, q)
  | .bankWrite q _ => some (.bankWrite, q)
  | .bankSeal q _ => some (.bankSeal, q)
  | .bankSelect q _ => some (.bankSelect, q)
  | .bankConfirm q _ => some (.bankConfirm, q)
  | .restart q => some (.restart, q)
  | .stageOpen q => some (.stageOpen, q)
  | .stageWrite q => some (.stageWrite, q)
  | .stageVerify q => some (.stageVerify, q)
  | .stageCommit q => some (.stageCommit, q)
  | .commitCancel q => some (.commitCancel, q)
  | .stageCancel q => some (.stageCancel, q)
  | .baselineGet q => some (.baselineGet, q)
  | .baselineSet q _ => some (.baselineSet, q)
  | .recordErase q _ => some (.recordErase, q)
  | .recordWrite q _ => some (.recordWrite, q)
  | .siteLabelSet q => some (.siteLabelSet, q)
  | .siteLabelGet q => some (.siteLabelGet, q)
  | .modeGet q => some (.modeGet, q)
  | .modeSet q => some (.modeSet, q)
  | .modeConfigSet q => some (.modeConfigSet, q)
  | .modeConfigGet q => some (.modeConfigGet, q)
  | .wakeConfigSet q => some (.wakeConfigSet, q)
  | .strikeConfigSet q => some (.strikeConfigSet, q)
  | .strikeStatusGet q => some (.strikeStatusGet, q)
  | .laneConfigSet q => some (.laneConfigSet, q)
  | .laneConfigGet q => some (.laneConfigGet, q)
  | .laneStatusGet q => some (.laneStatusGet, q)
  | .laneSleepSet q => some (.laneSleepSet, q)
  | .laneTestSet q => some (.laneTestSet, q)
  | .lanePrbsGet q _ _ => some (.lanePrbsGet, q)
  | .laneEyeStart q => some (.laneEyeStart, q)
  | .laneEyeGet q => some (.laneEyeGet, q)
  | .portForm q => some (.portForm, q)
  | .portStatusGet q => some (.portStatusGet, q)
  | .m0ConfigSet q => some (.m0ConfigSet, q)
  | .m0ConfigGet q => some (.m0ConfigGet, q)
  | .opticsMapSet q => some (.opticsMapSet, q)
  | .opticsRead q _ => some (.opticsRead, q)
  | .opticsWrite q _ => some (.opticsWrite, q)
  | .cwLinkSet q => some (.cwLinkSet, q)
  | .cwLinkStatusGet q => some (.cwLinkStatusGet, q)
  | .cwCountersGet q => some (.cwCountersGet, q)
  | .cwFlush q => some (.cwFlush, q)
  | .fwdConfigSet q => some (.fwdConfigSet, q)
  | .fwdConfigGet q => some (.fwdConfigGet, q)
  | .vlanSet q => some (.vlanSet, q)
  | .portLearnSet q => some (.portLearnSet, q)
  | .bridgeEntrySet q => some (.bridgeEntrySet, q)
  | .bridgeFlush q => some (.bridgeFlush, q)
  | .tableLookup q => some (.tableLookup, q)
  | .tableStatusGet q => some (.tableStatusGet, q)
  | .parseConfigSet q => some (.parseConfigSet, q)
  | .parseConfigGet q => some (.parseConfigGet, q)
  | .portClassSet q => some (.portClassSet, q)
  | .portClassGet q => some (.portClassGet, q)
  | .searchBankSet q => some (.searchBankSet, q)
  | .searchWrite q => some (.searchWrite, q)
  | .searchInsert q => some (.searchInsert, q)
  | .searchRead q => some (.searchRead, q)
  | .meterSet q => some (.meterSet, q)
  | .meterGet q => some (.meterGet, q)
  | .puntConfigSet q => some (.puntConfigSet, q)
  | .fragStatusGet q => some (.fragStatusGet, q)
  | .deckQueueSet q => some (.deckQueueSet, q)
  | .deckQueueGet q => some (.deckQueueGet, q)
  | .deckStatusGet q => some (.deckStatusGet, q)
  | .trussStatusGet q => some (.trussStatusGet, q)
  | .egressConfigSet q => some (.egressConfigSet, q)
  | .egressConfigGet q => some (.egressConfigGet, q)
  | .schedSet q => some (.schedSet, q)
  | .schedGet q => some (.schedGet, q)
  | .gateListSet q => some (.gateListSet, q)
  | .gateListGet q => some (.gateListGet, q)
  | .queueStatusGet q => some (.queueStatusGet, q)
  | .spanConfigSet q => some (.spanConfigSet, q)
  | .spanConfigGet q => some (.spanConfigGet, q)
  | .spanJoin q => some (.spanJoin, q)
  | .spanLeave q => some (.spanLeave, q)
  | .spanStatusGet q => some (.spanStatusGet, q)
  | .spanTargetSet q => some (.spanTargetSet, q)
  | .dramStatusGet q => some (.dramStatusGet, q)
  | .dramTrainGet q => some (.dramTrainGet, q)
  | .dramPolicySet q => some (.dramPolicySet, q)
  | .dramPolicyGet q => some (.dramPolicyGet, q)
  | .dramRetrain q => some (.dramRetrain, q)
  | .dramErrorLogGet q => some (.dramErrorLogGet, q)
  | .dramRead q => some (.dramRead, q)
  | .keyStatusGet q => some (.keyStatusGet, q)
  | .keyLoad q _ => some (.keyLoad, q)
  | .keyClear q => some (.keyClear, q)
  | .digestRun q => some (.digestRun, q)
  | .fioConfigSet q => some (.fioConfigSet, q)
  | .fioStatusGet q => some (.fioStatusGet, q)
  | .fioOutputSet q => some (.fioOutputSet, q)
  | .fioPulse q => some (.fioPulse, q)
  | .fioClear q => some (.fioClear, q)
  | .gpioConfigSet q => some (.gpioConfigSet, q)
  | .gpioWrite q => some (.gpioWrite, q)
  | .gpioRead q _ => some (.gpioRead, q)
  | .adcConfigSet q => some (.adcConfigSet, q)
  | .adcRead q => some (.adcRead, q)
  | .adcCaptureSet q => some (.adcCaptureSet, q)
  | .countersGet q => some (.countersGet, q)
  | .eventCounterSet q => some (.eventCounterSet, q)
  | .snapshotTake q => some (.snapshotTake, q)
  | .snapshotRead q => some (.snapshotRead, q)
  | .snapshotScheduleSet q => some (.snapshotScheduleSet, q)
  | .bwConfigSet q => some (.bwConfigSet, q)
  | .bwGet q => some (.bwGet, q)
  | .monitorSet q => some (.monitorSet, q)
  | .monitorGet q => some (.monitorGet, q)
  | .logRead q => some (.logRead, q)
  | .strikeTallyGet q => some (.strikeTallyGet, q)
  | .coreStatusGet q => some (.coreStatusGet, q)
  | .perfConfigSet q => some (.perfConfigSet, q)
  | .perfRead q _ => some (.perfRead, q)
  | .perfSampleGet q => some (.perfSampleGet, q)
  | .debugAccessSet q => some (.debugAccessSet, q)
  | .debugFreeze q => some (.debugFreeze, q)
  | .captureSet q => some (.captureSet, q)
  | .captureRead q => some (.captureRead, q)
  | _ => none

/-- A request of an open session passes steps 1 to 6 of R167 on a mailbox that is serving and has no other request to execute. -/
def reaches (c : Cmd) (q : Req) (s0 : State) : Bool :=
  let s := advance q.t s0
  decide (q.session ≠ 0) && s.kmp.waiting.isEmpty && destServed (reqDest q) s && !spanFollows s && !kmpHalted s && !s.boot.recovery &&
    !mustWait c q s &&
    match findSession q.session s with
    | none => false
    | some x =>
      (q.auth == x.keySlot.isSome) && (cacheFind q.requestId s.elapsed (sessionCache x s)).isNone &&
        decide (1 ≤ seqDist q.seq x.h) && decide (seqDist q.seq x.h ≤ seqWindow)

/-- A request is heard: it is not the oldest that waits, its transport is served, and the core that serves KMP runs. -/
def heard (c : Cmd) (q : Req) (s0 : State) : Bool :=
  let s := advance q.t s0
  (isHead c.row.code q s).isNone && destServed (reqDest q) s && !spanFollows s && !kmpHalted s

/-- The state in which a request that is heard meets the checks of R167: it is counted, and its tag where it has been compared. -/
def counted (c : Cmd) (q : Req) (s0 : State) : State :=
  let s := advance q.t s0
  let u := takeRequest (if q.remote then s else countRx q.transport s)
  if tagCompared c.row.code q u then countCompare true u else u

/-- What R174 and R175 answer to a request whose ID the cached entry `e` has, in the context `x`. -/
def repeated (x : ReplyCtx) (e : CacheEntry) (c : Cmd) (q : Req) (u : State) : State :=
  if e.code = c.row.code ∧ e.request = q.payload then
    if c.row.replayable then respond x c.row.code q e.status e.response true u
    else respond x c.row.code q Err.stale.code [] true u
  else respond x c.row.code q Err.idReused.code [] false u

/-! ### The boot flash -/

/-- The rows that can change the boot flash. -/
def writesFlash (i : Instr) : Bool :=
  match i with
  | .bankErase .. => true
  | .bankWrite .. => true
  | .bankSeal .. => true
  | .bankSelect .. => true
  | .bankConfirm .. => true
  | .baselineSet .. => true
  | .recordErase .. => true
  | .recordWrite .. => true
  | .stageCommit .. => true
  | .commitCancel .. => true
  | .autoConfirm .. => true
  | .bankVerdict .. => true
  | .clocksLocked .. => true
  | .controlPreload .. => true
  | .epochReached .. => true
  | .relayedMessage .. => true
  | .sectionStreamed .. => true
  | .transitionComplete .. => true
  | _ => false

end Sys2Proof.Safety
end

