-- ==== Sys2Proof/Certificates/Slice0/Obligations.lean ====
section
/-! DEFINITION. Obligations.lean: the statements for the provers. -/

open Sys2Proof Sys2Proof.Machine Sys2Proof.Safety

/-! ### Requests of the mailbox: what each command does when it runs -/

/-- Chapter 5, the session: each command of it succeeds and does what its entry says. (the model's choices: log entries 69 to 96) -/
def Obligations.MailboxCommandsSucceed : Prop :=
  Succeeds .sessionClose .sessionClose noPayload (fun q u => endSession q.session 0 q.requestId u) (fun _ _ => []) ∧
  Reports .sessionStatus .sessionStatus noPayload sessionStatusResp ∧
  Reports .identityGet .identityGet noPayload (fun _ u =>
    be 8 u.ident.serial.toNat ++ enc [(1, b2n u.ident.iax), (1, b2n u.ident.revB), (1, u.boot.baseline), (1, supportedBaselines u),
      (4, u.boot.version), (4, u.boot.bootCount)]) ∧
  Reports .eventAck .eventAck noPayload (fun _ _ => []) ∧
  Reports .eventFetch .eventFetch (fun q u => q.payload.length = 4 ∧ 1 ≤ f2 q.payload 2 ∧ f2 q.payload 2 ≤ 64 ∧
      seqDist u.kmp.eventSeq (f2 q.payload 0) < 32768) eventFetchResp ∧
  Succeeds .eventConfigSet .eventConfigSet
    (fun q _ => q.payload.length = 8 ∧ f2 q.payload 2 ≤ 64 ∧ 500 ≤ f2 q.payload 4 ∧ f2 q.payload 4 ≤ 60000)
    (fun q u => updSession q.session (fun x =>
      { x with mask := f2 q.payload 0, window := f2 q.payload 2, retryMs := f2 q.payload 4, waitMs := f2 q.payload 4 }) u)
    (fun _ _ => []) ∧
  Succeeds .transportConfigSet .transportConfigSet
    (fun q _ => q.payload.length = 16 ∧ transportFieldsOk q.payload)
    (fun q u => forEach (u.kmp.sessions.filter (endedByAuth u.kmp.authRequired (f1 q.payload 10)))
      (fun x => endSession x.number 3 q.requestId)
      { u with kmp := { u.kmp with
          uart0Baud := f4 q.payload 0, uart1Baud := f4 q.payload 4, udpPort := f2 q.payload 8, authRequired := f1 q.payload 10 % 16,
          rxGapMs := f2 q.payload 12
          reverts := if carriesChange q u then
              (u.kmp.reverts.filter fun r => decide (r.transport ≠ q.transport)) ++ [revertOf q u] else u.kmp.reverts } })
    (fun _ _ => []) ∧
  Reports .transportConfigGet .transportConfigGet noPayload (fun _ u => enc [(4, u.kmp.uart0Baud), (4, u.kmp.uart1Baud),
    (2, u.kmp.udpPort), (1, u.kmp.authRequired), (1, 0), (2, u.kmp.rxGapMs), (2, 0)])

/-- SESSION_OPEN with fields in range, a key where it is authenticated, and a free session: the other controlling session ends where
the role is taken from it, the new session joins the table with the role, key slot and settings asked for, and its opening is raised as
an event; the response reports it, and nothing else changes (R155 to R157, R198).
(the model's choices: log entries 69 to 96) -/
def Obligations.SessionOpenMakesSession : Prop :=
  ∀ q s, opening q s = true → q.payload.length = 20 → openFieldsOk q → openSlotOk q (entered .sessionOpen q s) →
    (q.auth || !bitOf (entered .sessionOpen q s).kmp.authRequired (transportAuthBit q.transport)) →
    openRoleFree q (entered .sessionOpen q s) → openCount q (entered .sessionOpen q s) < 8 →
    let u := entered .sessionOpen q s
    let u1 := match (if openControlling q then ctlSession u else none) with
      | some y => endSession y.number 1 q.requestId u
      | none => u
    let x := newSession q u1
    let u2 := { u1 with kmp := { u1.kmp with
      sessions := u1.kmp.sessions ++ [x]
      nextSession := if x.number = 0xFFFE then 1 else x.number + 1
      opened := u1.kmp.opened + 1 } }
    let u3 := if q.auth then updRates q.transport (fun r => { r with lastAuthOk := some u.elapsed }) u2 else u2
    let v := raise .sessionOpened q.requestId (enc [(2, x.number), (1, b2n x.controlling), (1, transportNum q.transport)]) u3
    (x.controlling = (decide (f1 q.payload 0 = 1) && q.auth) ∧ x.h = q.seq ∧
      x.keySlot = (if q.auth then some (f1 q.payload 2) else none) ∧ x.mask = f2 q.payload 12 ∧ x.window = f2 q.payload 14 ∧
      x.retryMs = f2 q.payload 16 ∧ x.dest = reqDest q) ∧
    Answers .sessionOpen q (.sessionOpen q) s v
      (enc [(2, x.number), (1, b2n x.controlling), (1, 0)] ++ be 8 (Config.moduleNonce u1.kmp.opened).toNat ++
        enc [(4, u.boot.bootCount), (2, u3.kmp.eventSeq), (2, x.ackPoint)])

/-- Chapter 3, time: each command succeeds and does what its entry says. (the model's choices: log entries 38 to 51) -/
def Obligations.TimeCommandsSucceed : Prop :=
  Reports .timeGet .timeGet noPayload (fun _ u => tb10 u.tb.now ++
    enc [(1, u.tb.quality.code), (1, u.tb.source.code), (1, timeFlags u), (1, 0)] ++ beInt 4 u.tb.offsetNs ++ beInt 4 u.tb.freqPpb ++
    beInt 4 u.rtc.trimPpb ++ tb10 u.tb.lastStepAt ++ be 4 u.tb.stepCount) ∧
  Succeeds .timeSet .timeSet
    (fun q u => q.payload.length = 12 ∧ tbFieldOk q.payload 0 ∧ (!isLocked u.tb.quality || bitOf (f1 q.payload 10) 0))
    (fun q u => setQuality .free (resetSources (stepTime ((tbField q.payload 0 : Int) - u.tb.now) 0 u)))
    (fun q u => beInt 8 ((tbField q.payload 0 : Int) - u.tb.now)) ∧
  Succeeds .timeSourceSet .timeSourceSet
    (fun q u => q.payload.length = 20 ∧ sourceFieldsOk q.payload ∧ (f1 q.payload 2 = 0xFE ∨ (portOf (f1 q.payload 2) u).typ ≠ 0))
    (fun q u => setTimeSources q.payload u) (fun _ _ => []) ∧
  Succeeds .rtcAlarmSet .rtcAlarmSet
    (fun q u => q.payload.length = 12 ∧ (f4 q.payload 6 = 0 ∨ 60 ≤ f4 q.payload 6 ∧ f4 q.payload 6 ≤ 604800) ∧
      (field q.payload 0 6 = 0 ∨ rtcSeconds u < field q.payload 0 6))
    (fun q u => { u with rtc := { u.rtc with alarmS := field q.payload 0 6, periodS := f4 q.payload 6 } }) (fun _ _ => []) ∧
  (∀ n, Succeeds .timerClaim .timerClaim
    (fun q u => q.payload.length = 22 ∧ tbFieldOk q.payload 4 ∧ (f1 q.payload 0 ≤ 7 ∨ f1 q.payload 0 = 0xFF) ∧
      (f8 q.payload 14 = 0 ∨ 1000 ≤ f8 q.payload 14 ∧ f8 q.payload 14 ≤ 10 ^ 12) ∧ grantTimer (f1 q.payload 0) u = some n)
    (fun q u => takeTimer .kmp n (tbField q.payload 4) (f8 q.payload 14) u) (fun _ _ => enc [(1, n), (3, 0)])) ∧
  Succeeds .timerRelease .timerRelease
    (fun q u => q.payload.length = 1 ∧ f1 q.payload 0 ≤ 7 ∧
      ((timerOf (f1 q.payload 0) u).owner = .free ∨ (timerOf (f1 q.payload 0) u).owner = .kmp))
    (fun q u => { u with timers := Tbl.set {} u.timers (f1 q.payload 0) {} }) (fun _ _ => []) ∧
  Succeeds .timerStatusGet .timerStatusGet noPayload (fun _ u => bumpTimes 8 u)
    (fun _ u => (List.range 8).flatMap fun n => timerBytes (timerOf n u) (u.freeCtr + n))

/-- Chapters 4 and 20, the boot flash: each command over the banks, the directory and the records succeeds on a device that takes its
programming, and does what its entry says. (the model's choices: log entries 52 to 68, log entry 276) -/
def Obligations.FlashCommandsSucceed : Prop :=
  Succeeds .bankErase (fun q => .bankErase q true)
    (fun q u => q.payload.length = 4 ∧ f1 q.payload 0 ≤ 1 ∧ (u.boot.recovery ∨ u.boot.bankB ≠ bankNum q))
    (fun q u => { u with flash := Mem.erase u.flash (if f1 q.payload 0 = 1 then 0x500000 else 0x100000) 0x400000 }) (fun _ _ => []) ∧
  Succeeds .bankWrite (fun q => .bankWrite q true)
    (fun q u => q.payload.length = 8 + f2 q.payload 2 ∧ 1 ≤ f2 q.payload 2 ∧ f2 q.payload 2 ≤ 1024 ∧ f1 q.payload 0 ≤ 1 ∧
      (u.boot.recovery ∨ u.boot.bankB ≠ bankNum q) ∧ f4 q.payload 4 + f2 q.payload 2 ≤ 0x400000 ∧
      progCheck (bankBase (bankNum q) + f4 q.payload 4) (q.payload.drop 8) u = .done)
    (fun q u => flashWrite (bankBase (bankNum q) + f4 q.payload 4) (q.payload.drop 8) u) (fun _ _ => []) ∧
  Reports .bankWrite (fun q => .bankWrite q true)
    (fun q u => q.payload.length = 8 + f2 q.payload 2 ∧ 1 ≤ f2 q.payload 2 ∧ f2 q.payload 2 ≤ 1024 ∧ f1 q.payload 0 ≤ 1 ∧
      (u.boot.recovery ∨ u.boot.bankB ≠ bankNum q) ∧ f4 q.payload 4 + f2 q.payload 2 ≤ 0x400000 ∧
      progCheck (bankBase (bankNum q) + f4 q.payload 4) (q.payload.drop 8) u = .same) (fun _ _ => []) ∧
  Succeeds .bankSeal (fun q => .bankSeal q true)
    (fun q u => q.payload.length = 4 ∧ f1 q.payload 0 ≤ 1 ∧ (u.boot.recovery ∨ u.boot.bankB ≠ bankNum q) ∧
      headerOk (bankHeader (bankNum q) u) ∧ revisionOk (bankHeader (bankNum q) u) u ∧ transferOk (bankNum q) u ∧
      bankBad (bankNum q) (dirOf u) = false ∧
      progCheck (bankBase (bankNum q) + 32) (sealTags (bankNum q) (countCompare true u)) (countCompare true u) = .done)
    (fun q u => flashWrite (bankBase (bankNum q) + 32) (sealTags (bankNum q) (countCompare true u)) (countCompare true u))
    (fun _ _ => []) ∧
  Succeeds .bankSelect (fun q => .bankSelect q true)
    (fun q u => q.payload.length = 4 ∧ f1 q.payload 0 ≤ 1 ∧ 1 ≤ f1 q.payload 1 ∧ f1 q.payload 1 ≤ 8 ∧ bankSealed (bankNum q) u ∧
      bankBad (bankNum q) (dirOf u) = false ∧
      listsBaseline (bankHeader (bankNum q) u) (if (dirOf u).baseline = 2 then 2 else 1))
    (fun q u => writeDir { dirOf u with
        preferredB := bankNum q, trial := true, autoConfirm := bitOf (f1 q.payload 2) 0, trialLimit := f1 q.payload 1, attempts := 0 } u)
    (fun _ _ => []) ∧
  Succeeds .bankConfirm (fun q => .bankConfirm q true) (fun q u => q.payload = [] ∧ onTrial u)
    (fun q u => confirmBank false q.requestId u) (fun _ _ => []) ∧
  Succeeds .baselineSet (fun q => .baselineSet q true)
    (fun q u => q.payload.length = 4 ∧ underSlot0 q u ∧ 1 ≤ f1 q.payload 0 ∧
      bitOf (if u.ident.revB then 3 else 1) (f1 q.payload 0 - 1) ∧ bundlesList (f1 q.payload 0) u)
    (fun q u => raise .baselineChanged q.requestId (enc [(1, (dirOf u).baseline), (1, f1 q.payload 0)])
      (writeDir { dirOf u with baseline := f1 q.payload 0 } u)) (fun _ _ => []) ∧
  Succeeds .recordErase (fun q => .recordErase q true)
    (fun q u => q.payload.length = 4 ∧ f1 q.payload 0 ≤ 1 ∧ underSlot0 q u ∧ configValid u = false ∧ u.kmp.stage = none)
    (fun q u => setSlotRecord (f1 q.payload 0) none
      { u with flash := Mem.erase u.flash (if f1 q.payload 0 = 0 then 0x1000000 else 0x3000000) 0x2000000 }) (fun _ _ => []) ∧
  Succeeds .recordWrite (fun q => .recordWrite q true)
    (fun q u => q.payload.length = 8 + f2 q.payload 2 ∧ 1 ≤ f2 q.payload 2 ∧ f2 q.payload 2 ≤ 1024 ∧ f1 q.payload 0 ≤ 1 ∧
      underSlot0 q u ∧ configValid u = false ∧ u.kmp.stage = none ∧ f4 q.payload 4 + f2 q.payload 2 ≤ 0x2000000 ∧
      slotRecord (f1 q.payload 0) u = none ∧
      progCheck (slotBase (f1 q.payload 0) + f4 q.payload 4) (q.payload.drop 8) u = .done)
    (fun q u => flashWrite (slotBase (f1 q.payload 0) + f4 q.payload 4) (q.payload.drop 8) u) (fun _ _ => [])

/-- Chapters 4 and 20, the rest: the boot and baseline reports, the site label, and RESTART, which answers and then restarts.
(the model's choices: log entries 52 to 68, log entry 276) -/
def Obligations.BootCommandsSucceed : Prop :=
  Reports .bootStatusGet .bootStatusGet noPayload (fun _ u => enc [(4, u.boot.bootCount), (1, u.boot.cause.code), (1, b2n u.boot.bankB),
    (1, flags [u.boot.trial, u.boot.fallback, u.boot.recovery, (dirOf u).autoConfirm, (dirOf u).badA, (dirOf u).badB]),
    (1, (dirOf u).attempts), (4, bankVersion false u), (4, bankVersion true u), (1, u.boot.slot.getD 0xFF), (3, 0),
    (4, sequenceInForce u), (4, (dirOf u).sequence)]) ∧
  Reports .baselineGet .baselineGet noPayload (fun _ u => enc [(1, u.boot.baseline), (1, if u.ident.revB then 3 else 1),
    (1, (dirOf u).baseline), (1, 0), (1, bankBaselines false u), (1, bankBaselines true u), (2, 0)]) ∧
  Succeeds .siteLabelSet .siteLabelSet (fun q _ => q.payload.length = 64)
    (fun q u => { u with boot := { u.boot with label := q.payload } }) (fun _ _ => []) ∧
  Reports .siteLabelGet .siteLabelGet noPayload (fun _ u => u.boot.label) ∧
  (∀ q s, admitted .restart q s = true → q.payload.length = 4 → f4 q.payload 0 = (entered .restart q s).boot.bootCount →
    exec (.restart q) s = .next (restartRun .restart
      (finish Cmd.restart.row.code q (findSession q.session (entered .restart q s)) true 0 [] (entered .restart q s))))

/-- Chapter 5, stages and commits: each command succeeds and does what its entry says. (the model's choices: log entries 69 to 96) -/
def Obligations.StageCommandsSucceed : Prop :=
  Succeeds .stageOpen .stageOpen
    (fun q u => q.payload.length = 12 + 8 * f1 q.payload 8 ∧ 1 ≤ f1 q.payload 8 ∧ f1 q.payload 8 ≤ 32 ∧ f4 q.payload 0 ≠ 0 ∧
      u.kmp.stage = none ∧ ((parts q.payload 12 8 (f1 q.payload 8)).all fun x => itemTypeOk (f2 x 0)) ∧
      ((parts q.payload 12 8 (f1 q.payload 8)).map fun x => f4 x 4).sum ≤ 524288)
    (fun q u => { u with kmp := { u.kmp with stage := some ⟨f4 q.payload 0, f4 q.payload 4,
      (parts q.payload 12 8 (f1 q.payload 8)).map fun x => ⟨f2 x 0, f4 x 4, [], .incomplete, none⟩, .opened⟩ } }) (fun _ _ => []) ∧
  (∀ g x d, Succeeds .stageWrite .stageWrite
    (fun q u => q.payload.length = 12 + f2 q.payload 6 ∧ 1 ≤ f2 q.payload 6 ∧ f2 q.payload 6 ≤ 1268 ∧
      u.kmp.stage = some g ∧ g.id = f4 q.payload 0 ∧ g.items[f1 q.payload 4]? = some x ∧ g.phase ≠ .building ∧
      f4 q.payload 8 + f2 q.payload 6 ≤ x.length ∧ chunkInto (f4 q.payload 8) (q.payload.drop 12) x = some d)
    (fun q u => stageWritten g (f1 q.payload 4) q.requestId x d u) (fun _ _ => [])) ∧
  (∀ g, Succeeds .stageVerify .stageVerify
    (fun q u => q.payload.length = 4 ∧ u.kmp.stage = some g ∧ g.id = f4 q.payload 0 ∧ g.phase ≠ .building ∧
      ((stageReports g u).all fun x => decide (x = .verified)))
    (fun _ u => { u with kmp := { u.kmp with stage := some { g with phase := .verified } } })
    (fun _ u => enc [(1, 0), (1, 0xFF), (2, 0)] ++
      ((stageReports g u).map (fun (x : ItemState) => (BitVec.ofNat 8 x.code : Byte)) ++ List.replicate 32 0xFF).take 32)) ∧
  (∀ g, Succeeds .stageCommit .stageCommit
    (fun q u => q.payload.length = 16 ∧ u.kmp.stage = some g ∧ g.id = f4 q.payload 0 ∧ tbFieldOk q.payload 4 ∧ g.phase ≠ .opened ∧
      g.base = sequenceInForce u ∧ u.kmp.building = none ∧ u.kmp.committed = none ∧
      (tbField q.payload 4 = 0 ∨ u.tb.now < tbField q.payload 4))
    (fun q u => beginCommit g q.requestId (tbField q.payload 4) u) (fun _ u => enc [(4, inc32 (sequenceInForce u)), (4, 0)])) ∧
  (∀ c, Succeeds .commitCancel .commitCancel
    (fun q u => q.payload.length = 4 ∧ u.kmp.committed = some c ∧ c.stageId = f4 q.payload 0 ∧ commitDue c u = false)
    (fun q u => raise .commitCancelled q.requestId (enc [(4, c.stageId), (4, c.sequence)])
      (tellPartner (dropPending (killRecord c.slot { u with boot := { u.boot with held := none } })))) (fun _ _ => [])) ∧
  (∀ g, Succeeds .stageCancel .stageCancel
    (fun q u => q.payload.length = 4 ∧ u.kmp.stage = some g ∧ g.id = f4 q.payload 0 ∧ g.phase ≠ .building)
    (fun _ u => { u with kmp := { u.kmp with stage := none } }) (fun _ _ => []))

/-- Chapter 2: each mode, wake and strike command succeeds and does what its entry says. (the model's choices: log entries 18 to 37) -/
def Obligations.SupplyCommandsSucceed : Prop :=
  Reports .modeGet .modeGet noPayload (fun _ u => enc [(1, u.sup.mode.code), (1, u.sup.target.code), (1, u.sup.lastCause.code),
    (1, modeFlags u), (2, u.sw.landMv), (2, u.sup.vholdMv)] ++ tb10 u.sup.modeSince ++ be 4 u.sup.shedCount) ∧
  Succeeds .modeSet .modeSet
    (fun q u => q.payload.length = 4 ∧ f1 q.payload 0 ≤ 3 ∧ (effMode u = .freeze → f1 q.payload 0 < 2) ∧
      (f1 q.payload 0 = 0 → u.wake.sources ≠ 0) ∧
      (f1 q.payload 0 ≤ rank (effMode u) ∨ onMv (f1 q.payload 0) u ≤ vinEff u))
    (fun q u => (modeSetGo (f1 q.payload 0) q.requestId u).1)
    (fun q u => enc [(1, (modeSetGo (f1 q.payload 0) q.requestId u).2), (3, 0)]) ∧
  Succeeds .modeConfigSet .modeConfigSet
    (fun q u => q.payload.length = 28 ∧ f1 q.payload 0 ≤ 3 ∧ f1 q.payload 19 ≤ 8 ∧ thresholdsOk (newThresholds q.payload u.sup.th) ∧
      1 ≤ orKeep (f2 q.payload 14) u.sup.rideMs ∧ orKeep (f2 q.payload 14) u.sup.rideMs ≤ 1000 ∧
      1 ≤ orKeep (f2 q.payload 16) u.sup.dwellS ∧ orKeep (f2 q.payload 16) u.sup.dwellS ≤ 3600 ∧
      (newKeepPorts q.payload).all (keepPortOk u))
    (fun q u => moveKeepPorts u.sup.keepPorts (compareVin { u with sup := { u.sup with
        target := targetOf (f1 q.payload 0) u.sup.target
        th := newThresholds q.payload u.sup.th
        rideMs := orKeep (f2 q.payload 14) u.sup.rideMs
        dwellS := orKeep (f2 q.payload 16) u.sup.dwellS
        holdInShelf := bitOf (f1 q.payload 18) 0
        m0InWatch := bitOf (f1 q.payload 18) 1
        keepPorts := newKeepPorts q.payload } })) (fun _ _ => []) ∧
  Reports .modeConfigGet .modeConfigGet noPayload (fun _ u => modeConfig u) ∧
  Succeeds .wakeConfigSet .wakeConfigSet
    (fun q u => q.payload.length = 4 ∧ f1 q.payload 1 ≤ 1 ∧ masksOutput (f1 q.payload 2) u = false ∧
      masksOutput (f1 q.payload 3) u = false)
    (fun q u => { u with wake := { u.wake with
        sources := f1 q.payload 0 % 16, activeHigh := decide (f1 q.payload 1 = 1), riseMask := f1 q.payload 2, fallMask := f1 q.payload 3 } })
    (fun _ _ => []) ∧
  Succeeds .strikeConfigSet .strikeConfigSet
    (fun q _ => q.payload.length = 8 ∧ 41000 ≤ f2 q.payload 0 ∧ f2 q.payload 0 ≤ 58000 ∧ 500 ≤ f2 q.payload 2 ∧
      f2 q.payload 2 ≤ 20000 ∧ 10 ≤ f2 q.payload 4 ∧ f2 q.payload 4 ≤ 10000)
    (fun q u => { u with strike := { u.strike with
        surgeMv := f2 q.payload 0, slewMv := f2 q.payload 2, holdMs := f2 q.payload 4, sources := f1 q.payload 6 % 8 } })
    (fun _ _ => []) ∧
  Reports .strikeStatusGet .strikeStatusGet noPayload (fun _ u =>
    enc [(2, u.strike.id), (1, b2n (strikeOpen u)), (1, u.strike.seen)] ++ tb10 u.strike.openedAt ++ tb10 u.strike.endsAt ++
    enc [(2, u.strike.peakMv), (2, u.strike.triggers), (4, u.strike.windows)])

/-- Chapter 7: each lane command succeeds and does what its entry says. (the model's choices: log entries 112 to 121) -/
def Obligations.LaneCommandsSucceed : Prop :=
  Succeeds .laneConfigSet .laneConfigSet (fun q _ => q.payload.length = 16 ∧ f1 q.payload 0 ≤ 143 ∧ laneCfgOk q.payload)
    (fun q u =>
      let v := updLane (f1 q.payload 0) (fun y => { y with cfg := laneCfgOf q.payload }) u
      if cfgRestarts (laneOf (f1 q.payload 0) u).cfg (laneCfgOf q.payload) ∧ (laneOf (f1 q.payload 0) u).rx = .active then
        coldAcquire (f1 q.payload 0) v else v) (fun _ _ => []) ∧
  Reports .laneConfigGet .laneConfigGet (fun q _ => q.payload.length = 4 ∧ f1 q.payload 0 ≤ 143)
    (fun q u => laneCfgBytes (f1 q.payload 0) (laneOf (f1 q.payload 0) u).cfg) ∧
  Reports .laneStatusGet .laneStatusGet (fun q _ => q.payload.length = 4 ∧ f1 q.payload 0 ≤ 143)
    (fun q u => laneStatus (f1 q.payload 0) u) ∧
  Succeeds .laneSleepSet .laneSleepSet
    (fun q u => q.payload.length = 4 ∧ f1 q.payload 0 ≤ 143 ∧ f1 q.payload 1 ≤ 3 ∧ f1 q.payload 2 ≤ 3 ∧
      (laneOf (f1 q.payload 0) u).owner ≠ .causeway ∧ (laneOf (f1 q.payload 0) u).owner ≠ .none)
    (fun q u => setHalves (f1 q.payload 0) (f1 q.payload 1) (f1 q.payload 2) u) (fun _ _ => []) ∧
  Succeeds .laneTestSet .laneTestSet
    (fun q u => q.payload.length = 8 ∧ f1 q.payload 0 ≤ 143 ∧ f1 q.payload 1 = 0 ∧ testFieldsOk q.payload ∧
      (laneOf (f1 q.payload 0) u).owner ≠ .ethernet ∧ (laneOf (f1 q.payload 0) u).owner ≠ .causeway ∧
      patternSuits (f1 q.payload 3) (f1 q.payload 2) ∧ patternSuits (f1 q.payload 4) (f1 q.payload 2) ∧
      ¬ (f1 q.payload 5 = 2 ∧ f1 q.payload 3 ≠ 0) ∧ ¬ (u.sup.mode = .keep ∧ u.clk.laneRefs.contains (laneGroup (f1 q.payload 0)) = false))
    (fun q u => startTest (f1 q.payload 0) q.payload u) (fun _ _ => []) ∧
  Succeeds .laneTestSet .laneTestSet
    (fun q u => q.payload.length = 8 ∧ f1 q.payload 0 ≤ 143 ∧ f1 q.payload 1 = 1 ∧ (laneOf (f1 q.payload 0) u).owner = .test)
    (fun q u => stopTest (f1 q.payload 0) 0 u) (fun _ _ => []) ∧
  (∀ errs struck, Succeeds .lanePrbsGet (fun q => .lanePrbsGet q errs struck)
    (fun q _ => q.payload.length = 4 ∧ f1 q.payload 0 ≤ 143) (fun q u => takeErrors (f1 q.payload 0) errs struck u)
    (fun q u => prbsResp (f1 q.payload 0) (takeErrors (f1 q.payload 0) errs struck u))) ∧
  Succeeds .laneEyeStart .laneEyeStart
    (fun q u => q.payload.length = 4 ∧ f1 q.payload 0 ≤ 143 ∧ u.lanes.scan = none ∧ (laneOf (f1 q.payload 0) u).rx = .active ∧
      (laneOf (f1 q.payload 0) u).cdr ∧ 6 ≤ f1 q.payload 1 ∧ f1 q.payload 1 ≤ 9)
    (fun q u => { u with lanes := { u.lanes with scan := some ⟨f1 q.payload 0, f1 q.payload 1, u.strike.id, strikeOpen u⟩ } })
    (fun _ _ => []) ∧
  Reports .laneEyeGet .laneEyeGet (fun q _ => q.payload.length = 4 ∧ f1 q.payload 0 ≤ 143)
    (fun q u => eyeResp (f1 q.payload 0) (laneOf (f1 q.payload 0) u).eye)

/-- Chapter 8: each port, M0 and optics command succeeds and does what its entry says. (the model's choices: log entries 122 to 135) -/
def Obligations.PortCommandsSucceed : Prop :=
  Succeeds .portForm .portForm
    (fun q u => q.payload.length = 16 ∧ f1 q.payload 0 ≤ 127 ∧
      (f1 q.payload 1 = 0 ∨ f1 q.payload 0 % typeLanes (f1 q.payload 1) = 0 ∧ portFieldsOk q.payload) ∧
      ((wantedLanes (f1 q.payload 0) (f1 q.payload 1)).all fun l => !laneTaken (f1 q.payload 0) l u) ∧
      (u.sup.keepPorts.contains (f1 q.payload 0) → f1 q.payload 1 = 1 ∨ f1 q.payload 1 = 2))
    (fun q u => (applyPortForm (f1 q.payload 0) q.payload u).1)
    (fun q u => enc [(1, (applyPortForm (f1 q.payload 0) q.payload u).2), (3, 0)]) ∧
  Reports .portStatusGet .portStatusGet (fun q _ => q.payload.length = 4 ∧ f1 q.payload 0 ≤ 127)
    (fun q u => portStatus (f1 q.payload 0) u) ∧
  Succeeds .m0ConfigSet .m0ConfigSet (fun q _ => q.payload.length = 48 ∧ m0CfgOk (m0CfgOf q.payload) ∧ q.transport ≠ .m0)
    (fun q u => { u with ports := { u.ports with m0 := { u.ports.m0 with cfg := m0CfgOf q.payload } } }) (fun _ _ => []) ∧
  Succeeds .m0ConfigSet .m0ConfigSet (fun q _ => q.payload.length = 48 ∧ m0CfgOk (m0CfgOf q.payload) ∧ q.transport = .m0)
    (fun q u => { u with
      ports := { u.ports with m0 := { u.ports.m0 with cfg := m0CfgOf q.payload, old := some (u.ports.m0.cfg, u.elapsed) } }
      kmp := { u.kmp with reverts := (u.kmp.reverts.filter fun r => decide (r.transport ≠ q.transport)) ++ [revertOf q u] } })
    (fun _ _ => []) ∧
  Reports .m0ConfigGet .m0ConfigGet noPayload (fun _ u => m0CfgBytes u) ∧
  Succeeds .opticsMapSet .opticsMapSet
    (fun q u => q.payload.length = 8 ∧ f1 q.payload 0 ≤ 127 ∧ mapFieldsOk q.payload ∧ mapDuplicate q.payload u = false)
    (fun q u => updCage (f1 q.payload 0) (fun _ => cageMapped q.payload) u) (fun _ _ => []) ∧
  (∀ d, Succeeds .opticsRead (fun q => .opticsRead q (.ok d))
    (fun q u => q.payload.length = 4 ∧ f1 q.payload 0 ≤ 127 ∧ opticsRangeOk (f1 q.payload 2) (f1 q.payload 3) ∧
      (cageOf (f1 q.payload 0) u).mapped)
    (fun q u => i2cAccess (f1 q.payload 0) false (f1 q.payload 1) (f1 q.payload 2) [] (.ok d) u)
    (fun q _ => padTo (f1 q.payload 3) d)) ∧
  (∀ d, Succeeds .opticsWrite (fun q => .opticsWrite q (.ok d))
    (fun q u => q.payload.length = 4 + f1 q.payload 3 ∧ f1 q.payload 0 ≤ 127 ∧ opticsRangeOk (f1 q.payload 2) (f1 q.payload 3) ∧
      (cageOf (f1 q.payload 0) u).mapped ∧ managedBytes q.payload u = false)
    (fun q u => i2cAccess (f1 q.payload 0) true (f1 q.payload 1) (f1 q.payload 2) (q.payload.drop 4) (.ok d) u)
    (fun _ _ => []))

/-- Chapter 9: each Causeway command succeeds and does what its entry says. (the model's choices: log entries 136 to 153) -/
def Obligations.CausewayCommandsSucceed : Prop :=
  Succeeds .cwLinkSet .cwLinkSet
    (fun q u => q.payload.length = 20 ∧ f1 q.payload 0 ≤ 143 ∧ f1 q.payload 1 = 0 ∧ (laneOf (f1 q.payload 0) u).owner ≠ .ethernet ∧
      (laneOf (f1 q.payload 0) u).owner ≠ .test ∧ ¬ (u.span.state ≠ .off ∧ spanLane (f1 q.payload 0) u) ∧ cwFieldsOk q.payload ∧
      holdSpaceOk (f1 q.payload 0) (withCwSettings q.payload (linkOf (f1 q.payload 0) u)) u)
    (fun q u => (cwForm (f1 q.payload 0) q.payload u).2) (fun q u => enc [(1, (cwForm (f1 q.payload 0) q.payload u).1), (3, 0)]) ∧
  Succeeds .cwLinkSet .cwLinkSet
    (fun q u => q.payload.length = 20 ∧ f1 q.payload 0 ≤ 143 ∧ f1 q.payload 1 = 1 ∧ (laneOf (f1 q.payload 0) u).owner ≠ .ethernet ∧
      (laneOf (f1 q.payload 0) u).owner ≠ .test ∧ ¬ (u.span.state ≠ .off ∧ spanLane (f1 q.payload 0) u))
    (fun q u => if (linkOf (f1 q.payload 0) u).formed then releaseLink (f1 q.payload 0) u else u)
    (fun q u => enc [(1, if (linkOf (f1 q.payload 0) u).formed then 0 else 2), (3, 0)]) ∧
  Reports .cwLinkStatusGet .cwLinkStatusGet
    (fun q u => q.payload.length = 4 ∧ f1 q.payload 0 ≤ 143 ∧ (laneOf (f1 q.payload 0) u).owner = .causeway)
    (fun q u => cwStatus (f1 q.payload 0) u) ∧
  Succeeds .cwCountersGet .cwCountersGet
    (fun q u => q.payload.length = 4 ∧ f1 q.payload 0 ≤ 143 ∧ (laneOf (f1 q.payload 0) u).owner = .causeway)
    (fun q u => settleStalls (f1 q.payload 0) u) (fun q u => cwCounters (f1 q.payload 0) (settleStalls (f1 q.payload 0) u)) ∧
  Succeeds .cwFlush .cwFlush
    (fun q u => q.payload.length = 4 ∧ f1 q.payload 0 ≤ 143 ∧ (laneOf (f1 q.payload 0) u).owner = .causeway ∧
      ((linkOf (f1 q.payload 0) u).state = .up ∨ (linkOf (f1 q.payload 0) u).state = .hold))
    (fun q u => cwAfter (f1 q.payload 0) (cwRestart (f1 q.payload 0) 7 (Machine.cwFlush (f1 q.payload 0) false u))) (fun _ _ => [])

/-- Chapter 11: each forwarding and learning command succeeds and does what its entry says. (the model's choices: log entries 167 to 182) -/
def Obligations.ForwardingCommandsSucceed : Prop :=
  Succeeds .fwdConfigSet .fwdConfigSet (fun q _ => q.payload.length = 144 ∧ fwdFieldsOk q.payload)
    (fun q u => mirror 2 q.payload { u with fwd := { u.fwd with
        protect := f1 q.payload 0
        protectOld := if f1 q.payload 0 = u.fwd.protect then u.fwd.protectOld else u.fwd.protect
        protectAt := if f1 q.payload 0 = u.fwd.protect then u.fwd.protectAt else some u.elapsed
        puntTtl := bitOf (f1 q.payload 1) 0
        labelBase := f4 q.payload 4
        ageS := f4 q.payload 8
        seed := f4 q.payload 12
        router := (List.range 16).map (routerOf q.payload) } }) (fun _ _ => []) ∧
  Reports .fwdConfigGet .fwdConfigGet noPayload (fun _ u => enc [(1, u.fwd.protect), (1, b2n u.fwd.puntTtl), (2, 0),
    (4, u.fwd.labelBase), (4, u.fwd.ageS), (4, u.fwd.seed)] ++ u.fwd.router.flatMap fun r => enc [(6, r.mac), (2, r.vlan)]) ∧
  Succeeds .vlanSet .vlanSet
    (fun q _ => q.payload.length = 36 ∧ 1 ≤ f2 q.payload 0 ∧ f2 q.payload 0 ≤ 4094 ∧
      field q.payload 20 16 &&& field q.payload 4 16 = field q.payload 20 16)
    (fun q u => let v := { u with fwd := { u.fwd with vlan := Tbl.set {} u.fwd.vlan (f2 q.payload 0) (vlanEntryOf q.payload) } }
      if bitOf (f1 q.payload 2) 7 then v else removeDynamic (fun e => decide (e.vlan = f2 q.payload 0)) v) (fun _ _ => []) ∧
  Succeeds .portLearnSet .portLearnSet (fun q _ => q.payload.length = 4 ∧ f1 q.payload 0 ≤ 127)
    (fun q u =>
      let x : PortLearn := ⟨bitOf (f1 q.payload 1) 0, bitOf (f1 q.payload 1) 1, f2 q.payload 2⟩
      { u with fwd := { u.fwd with learn := Tbl.set {} u.fwd.learn (f1 q.payload 0) x } }) (fun _ _ => []) ∧
  (∀ k, Succeeds .bridgeEntrySet .bridgeEntrySet
    (fun q u => q.payload.length = 16 ∧ f1 q.payload 0 = 0 ∧ 1 ≤ f2 q.payload 2 ∧ f2 q.payload 2 ≤ 4094 ∧ field q.payload 4 6 ≠ 0 ∧
      resultOk u (f4 q.payload 10) ∧ bridgeFind u.fwd.live (f2 q.payload 2) (field q.payload 4 6) = none ∧
      freeWay (f2 q.payload 2) (field q.payload 4 6) u = some k)
    (fun q u => mirror 0 q.payload (putBridge k (some ⟨f2 q.payload 2, field q.payload 4 6, bitOf (f1 q.payload 1) 0, false, false,
      f4 q.payload 10, if bitOf (f1 q.payload 1) 0 then 0 else u.tb.now, false⟩) u)) (fun _ _ => [])) ∧
  (∀ k e, Succeeds .bridgeEntrySet .bridgeEntrySet
    (fun q u => q.payload.length = 16 ∧ f1 q.payload 0 = 1 ∧ 1 ≤ f2 q.payload 2 ∧ f2 q.payload 2 ≤ 4094 ∧ field q.payload 4 6 ≠ 0 ∧
      bridgeFind u.fwd.live (f2 q.payload 2) (field q.payload 4 6) = some (k, e) ∧ e.image = false)
    (fun q u => mirror 0 q.payload (putBridge k none u)) (fun _ _ => [])) ∧
  Succeeds .bridgeFlush .bridgeFlush
    (fun q u => q.payload.length = 4 ∧ (f1 q.payload 0 ≤ 127 ∨ f1 q.payload 0 = 0xFF ∨ u.span.spanPorts) ∧ f2 q.payload 2 ≤ 4094)
    (fun q u => mirror 1 q.payload (removeDynamic (flushMatches q.payload) u))
    (fun q u => be 4 (countDynamic (flushMatches q.payload) u)) ∧
  Succeeds .tableLookup .tableLookup
    (fun q _ => q.payload.length = 24 ∧ 1 ≤ f1 q.payload 0 ∧ f1 q.payload 0 ≤ 8 ∧
      (f1 q.payload 0 = 2 ∨ f1 q.payload 0 = 4 → f1 q.payload 4 = 4 ∨ f1 q.payload 4 = 6))
    (fun _ u => { u with freeCtr := u.freeCtr + 1 }) (fun q u => tableLookupResp q.payload u) ∧
  Reports .tableStatusGet .tableStatusGet noPayload (fun _ u => tableStatusResp u)

/-- Chapter 10: each parsing, classification, search, meter and slow-path command succeeds and does what its entry says.
(the model's choices: log entries 154 to 166) -/
def Obligations.ClassificationCommandsSucceed : Prop :=
  Succeeds .parseConfigSet .parseConfigSet (fun q _ => q.payload.length = 140 ∧ parseCfgOk (parseCfgOf q.payload))
    (fun q u => { u with cls := { u.cls with parse := parseCfgOf q.payload } }) (fun _ _ => []) ∧
  Reports .parseConfigGet .parseConfigGet noPayload (fun _ u => parseCfgBytes u.cls.parse) ∧
  Succeeds .portClassSet .portClassSet (fun q _ => q.payload.length = 48 ∧ f1 q.payload 0 ≤ 127 ∧ portClassOk q.payload)
    (fun q u => { u with cls := { u.cls with port := Tbl.set {} u.cls.port (f1 q.payload 0) (portClassOf q.payload) } })
    (fun _ _ => []) ∧
  Reports .portClassGet .portClassGet (fun q _ => q.payload.length = 4 ∧ f1 q.payload 0 ≤ 127)
    (fun q u => portClassBytes (f1 q.payload 0) (Tbl.get {} u.cls.port (f1 q.payload 0))) ∧
  Succeeds .searchBankSet .searchBankSet
    (fun q u => q.payload.length = 4 ∧ bankFieldsOk q.payload ∧ (bankOf (f1 q.payload 0) u).reserved = false ∧
      profileInList q.payload u = false ∧
      (f1 q.payload 2 = 0xFF ∨ f1 q.payload 1 ≠ 0 ∧ rankTaken (f1 q.payload 0) (f1 q.payload 2) (f1 q.payload 3) u = false))
    (fun q u => updBank (f1 q.payload 0) (fun y => { y with
        profile := f1 q.payload 1
        list := f1 q.payload 2
        rank := f1 q.payload 3
        entries := if y.profile = f1 q.payload 1 then y.entries else [] }) u) (fun _ _ => []) ∧
  Succeeds .searchWrite .searchWrite
    (fun q u => f1 q.payload 0 ≤ 31 ∧ (bankOf (f1 q.payload 0) u).profile ≠ 0 ∧
      f2 q.payload 2 < bankEntries (bankOf (f1 q.payload 0) u).profile ∧
      q.payload.length = 8 + 20 * profileUnits (bankOf (f1 q.payload 0) u).profile ∧ actionOk (f2 q.payload 4) ∧
      (bankOf (f1 q.payload 0) u).reserved = false)
    (fun q u =>
      let x := bankOf (f1 q.payload 0) u
      let hits := if bitOf (f1 q.payload 1) 0 then (Tbl.get {} x.entries (f2 q.payload 2)).hits else {}
      updBank (f1 q.payload 0) (fun y => { y with
        entries := Tbl.set {} y.entries (f2 q.payload 2) (entryOf q.payload (profileUnits x.profile) hits) }) u) (fun _ _ => []) ∧
  (∀ f, Succeeds .searchInsert .searchInsert
    (fun q u => f1 q.payload 0 ≤ 31 ∧ (bankOf (f1 q.payload 0) u).profile ≠ 0 ∧
      f2 q.payload 2 < bankEntries (bankOf (f1 q.payload 0) u).profile ∧
      q.payload.length = 8 + 20 * profileUnits (bankOf (f1 q.payload 0) u).profile ∧ actionOk (f2 q.payload 4) ∧
      bitOf (f2 q.payload 4) 0 ∧ (bankOf (f1 q.payload 0) u).reserved = false ∧
      firstInvalid (bankOf (f1 q.payload 0) u) (f2 q.payload 2) = some f)
    (fun q u =>
      let x := bankOf (f1 q.payload 0) u
      let n := f2 q.payload 2
      updBank (f1 q.payload 0) (fun y => { y with
        entries := Tbl.set {} (moveDown n f y.entries) n (entryOf q.payload (profileUnits x.profile) {}) }) u)
    (fun q _ => enc [(2, f - f2 q.payload 2), (2, f), (4, 0)])) ∧
  Reports .searchRead .searchRead
    (fun q u => q.payload.length = 4 ∧ f1 q.payload 0 ≤ 31 ∧ (bankOf (f1 q.payload 0) u).profile ≠ 0 ∧
      f2 q.payload 2 < bankEntries (bankOf (f1 q.payload 0) u).profile)
    (fun q u => searchReadResp (f1 q.payload 0) (f2 q.payload 2) u) ∧
  Succeeds .meterSet .meterSet
    (fun q _ => q.payload.length = 20 ∧ f2 q.payload 0 ≤ 16383 ∧ meterCfgOk (meterCfgOf q.payload))
    (fun q u => { u with cls := { u.cls with
        meter := Tbl.upd {} u.cls.meter (f2 q.payload 0) (setMeter (meterCfgOf q.payload)) } }) (fun _ _ => []) ∧
  Reports .meterGet .meterGet (fun q _ => q.payload.length = 4 ∧ f2 q.payload 0 ≤ 16383)
    (fun q u => meterGetResp (f2 q.payload 0) u) ∧
  Succeeds .puntConfigSet .puntConfigSet (fun q _ => q.payload.length = 68 ∧ puntOk q.payload) (fun q u => setPunt q.payload u)
    (fun _ _ => []) ∧
  Reports .fragStatusGet .fragStatusGet noPayload (fun _ u => fragStatusResp u)

/-- Chapters 12 and 13: each Truss, Deck, queue, shaper and gate command succeeds and does what its entry says.
(the model's choices: log entries 183 to 193, log entries 194 to 209) -/
def Obligations.EgressCommandsSucceed : Prop :=
  Succeeds .deckQueueSet .deckQueueSet (fun q _ => q.payload.length = 8 ∧ f1 q.payload 0 ≤ 127 ∧ deckQueueOk q.payload)
    (fun q u => setDeckQueue q.payload u) (fun _ _ => []) ∧
  Reports .deckQueueGet .deckQueueGet (fun q _ => q.payload.length = 4 ∧ f1 q.payload 0 ≤ 127 ∧ f1 q.payload 1 ≤ 7)
    (fun q u => deckQueueResp (f1 q.payload 0) (f1 q.payload 1) u) ∧
  Succeeds .deckStatusGet .deckStatusGet (fun q _ => q.payload.length = 4 ∧ f1 q.payload 0 ≤ 7)
    (fun q u => if bitOf (f1 q.payload 1) 0 then
        updDeck (f1 q.payload 0) (fun y => { y with minCells := y.freeCells, minDesc := y.freeDesc, minEntries := y.freeEntries }) u
      else u) (fun q u => deckStatusResp (f1 q.payload 0) u) ∧
  Reports .trussStatusGet .trussStatusGet noPayload (fun _ u => trussStatusResp u) ∧
  Succeeds .egressConfigSet .egressConfigSet
    (fun q _ => q.payload.length = 8 ∧ 10 ≤ f4 q.payload 4 ∧ f4 q.payload 4 ≤ 1000000)
    (fun q u => setEgressCfg q.payload u) (fun _ _ => []) ∧
  Reports .egressConfigGet .egressConfigGet noPayload (fun _ u => enc [(2, u.dp.protClasses), (2, 0), (4, u.dp.sampleUs)]) ∧
  Succeeds .schedSet .schedSet (fun q _ => q.payload.length = 140 ∧ f1 q.payload 0 ≤ 127 ∧ schedOk q.payload)
    (fun q u => setSched q.payload u) (fun _ _ => []) ∧
  Reports .schedGet .schedGet (fun q _ => q.payload.length = 4 ∧ f1 q.payload 0 ≤ 127)
    (fun q u =>
      let h := shaperSetting (egressOf (f1 q.payload 0) u).shaper
      enc [(1, f1 q.payload 0), (1, b2n h.1), (2, 0), (4, h.2.1), (4, h.2.2)] ++
        (List.range 8).flatMap fun n => queueRecOf (queueOf (f1 q.payload 0) n u)) ∧
  Succeeds .gateListSet .gateListSet
    (fun q u => f1 q.payload 0 ≤ 127 ∧ isTrunk (f1 q.payload 0) u = false ∧ gateParamOk q.payload ∧ f1 q.payload 1 ≠ 1 ∧
      tbFieldOk q.payload 8 ∧ tbFieldOk q.payload 18 ∧ ((egressOf (f1 q.payload 0) u).pend.all fun d => !d.fromCommit) ∧
      (tbField q.payload 18 = 0 ∨ u.tb.now < tbField q.payload 18))
    (fun q u => updEgress (f1 q.payload 0) (fun y => { y with pend := some (gatePendOf q.payload
      (if tbField q.payload 18 = 0 then u.tb.now + tickNs u.sup.mode else tbField q.payload 18) false) }) u)
    (fun q u => enc [(1, b2n (egressOf (f1 q.payload 0) u).pend.isSome), (3, 0)]) ∧
  Succeeds .gateListSet .gateListSet
    (fun q u => f1 q.payload 0 ≤ 127 ∧ isTrunk (f1 q.payload 0) u = false ∧ gateParamOk q.payload ∧ f1 q.payload 1 = 1 ∧
      tbFieldOk q.payload 8 ∧ tbFieldOk q.payload 18 ∧ ((egressOf (f1 q.payload 0) u).pend.any fun d => !d.fromCommit) ∧
      (tbField q.payload 18 = 0 ∨ u.tb.now < tbField q.payload 18))
    (fun q u => updEgress (f1 q.payload 0) (fun y => { y with pend := none }) u) (fun _ _ => enc [(1, 2), (3, 0)]) ∧
  (∀ l, Reports .gateListGet .gateListGet
    (fun q u => q.payload.length = 4 ∧ f1 q.payload 0 ≤ 127 ∧ f1 q.payload 1 = 0 ∧ (egressOf (f1 q.payload 0) u).list = some l)
    (fun q u => gateListResp (f1 q.payload 0) 0 1 (entryAt (gatePos l (256 * u.tb.now)) 0 0 l.entries) l.takeover (some l))) ∧
  (∀ d, Reports .gateListGet .gateListGet
    (fun q u => q.payload.length = 4 ∧ f1 q.payload 0 ≤ 127 ∧ f1 q.payload 1 = 1 ∧ (egressOf (f1 q.payload 0) u).pend = some d)
    (fun q _ => gateListResp (f1 q.payload 0) 1 (if d.list.isSome then 2 else 3) 0xFFFF d.takeover d.list)) ∧
  Succeeds .gateListGet .gateListGet
    (fun q u => q.payload.length = 4 ∧ f1 q.payload 0 ≤ 127 ∧
      (f1 q.payload 1 = 0 ∧ (egressOf (f1 q.payload 0) u).list = none ∨ f1 q.payload 1 = 1 ∧ (egressOf (f1 q.payload 0) u).pend = none))
    (fun _ u => { u with freeCtr := u.freeCtr + 1 })
    (fun q u => gateListResp (f1 q.payload 0) (f1 q.payload 1) 0 (Config.freeNat u.freeCtr % 65536) 0 none) ∧
  Succeeds .queueStatusGet .queueStatusGet (fun q _ => q.payload.length = 4 ∧ f1 q.payload 0 ≤ 127 ∧ f1 q.payload 1 ≤ 7)
    (fun q u => if bitOf (f1 q.payload 2) 0 then
        updQueue (f1 q.payload 0) (f1 q.payload 1)
          (fun y => { y with depthHwm := 0, depthHwmAt := 0, delayHwm := 0, delayHwmAt := 0 }) u
      else u) (fun q u => queueStatusResp (f1 q.payload 0) (f1 q.payload 1) u)

/-- Chapter 14: each Span command succeeds and does what its entry says. (the model's choices: log entries 210 to 227) -/
def Obligations.SpanCommandsSucceed : Prop :=
  Succeeds .spanConfigSet .spanConfigSet
    (fun q u => q.payload.length = 16 ∧ spanCfgOk (spanCfgOf q.payload) ∧
      (spanCfgMoves u.span.cfg (spanCfgOf q.payload) = false ∨ u.span.state = .off ∨ u.span.state = .alone))
    (fun q u => setSpanCfg (spanCfgOf q.payload) u) (fun _ _ => []) ∧
  Reports .spanConfigGet .spanConfigGet noPayload (fun _ u => spanCfgBytes u.span.cfg) ∧
  Succeeds .spanJoin .spanJoin
    (fun q u => q.payload = [] ∧ u.span.state = .off ∧ u.span.cfg.spanId ≠ 0 ∧ jointHeld u = false)
    (fun _ u => enterProbe u) (fun _ _ => enc [(1, 0), (3, 0)]) ∧
  Reports .spanJoin .spanJoin (fun q u => q.payload = [] ∧ u.span.state ≠ .off) (fun _ _ => enc [(1, 1), (3, 0)]) ∧
  Succeeds .spanLeave .spanLeave (fun q u => q.payload = [] ∧ u.span.state ≠ .off)
    (fun q u => if spanJoined u then modeChanged .span .full .joinLost q.requestId (leaveJoin 1 true u) else leaveJoin 1 true u)
    (fun _ _ => enc [(1, 0), (3, 0)]) ∧
  Reports .spanLeave .spanLeave (fun q u => q.payload = [] ∧ u.span.state = .off) (fun _ _ => enc [(1, 1), (3, 0)]) ∧
  Reports .spanStatusGet .spanStatusGet noPayload (fun _ u => spanStatus u) ∧
  Succeeds .spanTargetSet .spanTargetSet (fun q u => q.payload.length = 4 ∧ spanJoined u ∧ f1 q.payload 0 ≤ 1)
    (fun q u => updSession q.session (fun y => { y with target := if f1 q.payload 0 = u.span.cfg.member then 0 else 1 }) u)
    (fun _ _ => [])

/-- Chapter 15: each DRAM command succeeds and does what its entry says. (the model's choices: log entries 228 to 232) -/
def Obligations.DramCommandsSucceed : Prop :=
  Reports .dramStatusGet .dramStatusGet noPayload (fun _ u =>
    let cs := [chan 0 u, chan 1 u, chan 2 u, chan 3 u]
    tb10 u.tb.now ++ be 2 0 ++ be 4 (flags (cs.flatMap fun x => (chCtrs x).map fun c => c.ovf)) ++ cs.flatMap chRecord) ∧
  (∀ r, Reports .dramTrainGet .dramTrainGet
    (fun q u => q.payload.length = 4 ∧ f1 q.payload 0 ≤ 3 ∧ chPowered (f1 q.payload 0) u ∧ (chan (f1 q.payload 0) u).train = some r)
    (fun q _ => enc [(1, f1 q.payload 0), (1, b2n (!r.pass)), (1, twos 1 r.tempC), (1, b2n r.retrain)] ++ tb10 r.trainedAt ++ be 2 0 ++
      padTo 60 (r.lanes.flatMap laneRecord))) ∧
  Succeeds .dramPolicySet .dramPolicySet (fun q _ => q.payload.length = 16 ∧ dramPolicyOk q.payload)
    (fun q u => setDramPolicy q.payload u) (fun _ _ => []) ∧
  Reports .dramPolicyGet .dramPolicyGet noPayload (fun _ u => dramPolicyResp u) ∧
  Succeeds .dramRetrain .dramRetrain
    (fun q u => q.payload.length = 4 ∧ f1 q.payload 0 ≤ 3 ∧ chPowered (f1 q.payload 0) u ∧ (chan (f1 q.payload 0) u).state ≠ .retraining)
    (fun q u => updChan (f1 q.payload 0) (fun x => { x with
        retrainDue := true
        dueSince := u.elapsed
        retrain := if bitOf (f1 q.payload 1) 0 then some ⟨retrainPoints, true, true, u.elapsed⟩ else x.retrain }) u) (fun _ _ => []) ∧
  Reports .dramErrorLogGet .dramErrorLogGet (fun q _ => q.payload.length = 8 ∧ 1 ≤ f1 q.payload 4 ∧ f1 q.payload 4 ≤ 32)
    (fun q u =>
      let es := (u.dram.errLog.filter fun e => decide (f4 q.payload 0 ≤ e.seq)).take (f1 q.payload 4)
      enc [(4, ((es.getLast?).map fun e => e.seq + 1).getD (f4 q.payload 0)), (1, es.length), (3, 0)] ++ es.flatMap dramLogRecord) ∧
  Succeeds .dramRead .dramRead
    (fun q u => q.payload.length = 12 ∧ f1 q.payload 0 ≤ 3 ∧ f4 q.payload 4 % 64 = 0 ∧ 1 ≤ f1 q.payload 8 ∧ f1 q.payload 8 ≤ 15 ∧
      chPowered (f1 q.payload 0) u ∧ f4 q.payload 4 + 64 * f1 q.payload 8 ≤ 2 ^ 32)
    (fun q u => bumpFree (forEach (badInRange (f1 q.payload 0) (f4 q.payload 4) (f1 q.payload 8) u)
      (fun p => dramUncorrectable (f1 q.payload 0) p.1 p.2 2) u))
    (fun q u => dramReadRecords (f1 q.payload 0) (f4 q.payload 4) (f1 q.payload 8) u)

/-- Chapter 16: each digest and key command succeeds and does what its entry says. (the model's choices: log entries 233 to 238) -/
def Obligations.KeyCommandsSucceed : Prop :=
  Reports .keyStatusGet .keyStatusGet noPayload (fun _ u => (List.range 16).flatMap fun n => slotBytes (slotOf n u)) ∧
  Succeeds .keyLoad (fun q => .keyLoad q false)
    (fun q u => f1 q.payload 0 ≠ 0 ∧ f1 q.payload 0 ≤ 15 ∧ 16 ≤ f1 q.payload 2 ∧ f1 q.payload 2 ≤ 128 ∧
      q.payload.length = 24 + f1 q.payload 2 ∧ underSlot0 q u ∧ f4 q.payload 4 = (slotOf (f1 q.payload 0) u).generation + 1 ∧
      keyCheckOk q.payload u)
    (fun q u => loadSlot q.payload 1 0 (countCompare true u))
    (fun q u => keyIdOf (unwrapKey q.payload (countCompare true u))) ∧
  Succeeds .keyClear .keyClear
    (fun q u => f1 q.payload 0 ≠ 0 ∧ f1 q.payload 0 ≤ 15 ∧ q.payload.length = 8 ∧ underSlot0 q u ∧
      f4 q.payload 4 = (slotOf (f1 q.payload 0) u).generation + 1)
    (fun q u => clearSlot (f1 q.payload 0) (f4 q.payload 4) 1 0 u) (fun _ _ => []) ∧
  Succeeds .digestRun .digestRun
    (fun q u => q.payload.length = 56 + f2 q.payload 4 ∧ digestFieldsOk q.payload ∧ bitOf (f1 q.payload 2) 0 ∧
      (3 ≤ f1 q.payload 0 → slotHoldsKey (f1 q.payload 1) u ∧ bitOf (slotOf (f1 q.payload 1) u).usage 3))
    (fun q u => countCompare (u.dig.katOk && decide ((digestOf q.payload u).take (f1 q.payload 3) = slice q.payload 8 (f1 q.payload 3))) u)
    (fun q u => enc [(1, b2n (!(u.dig.katOk &&
      decide ((digestOf q.payload u).take (f1 q.payload 3) = slice q.payload 8 (f1 q.payload 3))))), (1, 0), (2, 0)]) ∧
  Reports .digestRun .digestRun
    (fun q _ => q.payload.length = 56 + f2 q.payload 4 ∧ digestFieldsOk q.payload ∧ bitOf (f1 q.payload 2) 0 = false ∧ f1 q.payload 0 < 3)
    (fun q u => enc [(1, 2), (1, (digestOf q.payload u).length), (2, 0)] ++ digestOf q.payload u)

/-- Chapter 17: each field, GPIO and ADC command succeeds and does what its entry says. (the model's choices: log entries 239 to 251) -/
def Obligations.FieldCommandsSucceed : Prop :=
  Succeeds .fioConfigSet .fioConfigSet
    (fun q u => q.payload.length = 12 ∧ fioCfgOk q.payload 0 ∧ ¬ (f1 q.payload 1 = 3 ∧ wakeEdgeOn (f1 q.payload 0) u) ∧
      (f1 q.payload 1 = (fioOf (f1 q.payload 0) u).mode ∨ (fioOf (f1 q.payload 0) u).pulse = none))
    (fun q u => applyFioCfg false q.payload 0 u) (fun _ _ => []) ∧
  Reports .fioStatusGet .fioStatusGet noPayload (fun _ u =>
    tb10 u.tb.now ++ enc [(2, 0), (4, pinBits 8 (fun n => (fioOf n u).edges.ovf) + 256 * pinBits 8 (fun n =>
      (fioOf n u).latches.ovf || (fioOf n u).retries.ovf || (fioOf n u).conflicts.ovf))] ++
    (List.range 8).flatMap fun n => fioEntry n u) ∧
  Succeeds .fioOutputSet .fioOutputSet
    (fun q u => q.payload.length = 4 ∧ ((maskPins 8 (f1 q.payload 0)).all fun n => decide ((fioOf n u).mode = 3)) ∧
      ((maskPins 8 (f1 q.payload 0)).all fun n => (fioOf n u).pulse.isNone))
    (fun q u => forEach (maskPins 8 (f1 q.payload 0)) (fun n => updFio n (commandOutput (bitOf (f1 q.payload 1) n) u.elapsed)) u)
    (fun q u =>
      let v := forEach (maskPins 8 (f1 q.payload 0)) (fun n => updFio n (commandOutput (bitOf (f1 q.payload 1) n) u.elapsed)) u
      enc [(1, pinBits 8 fun n => conducts n v), (1, pinBits 8 fun n => (fioOf n v).latched), (2, 0)]) ∧
  (∀ g, Succeeds .fioPulse .fioPulse
    (fun q u => q.payload.length = 20 ∧ f1 q.payload 0 ≤ 7 ∧ f1 q.payload 1 ≤ 1 ∧ 1000 ≤ f4 q.payload 16 ∧ f4 q.payload 16 ≤ 3600000000 ∧
      startOk q.payload 4 u ∧ (fioOf (f1 q.payload 0) u).mode = 3 ∧ (fioOf (f1 q.payload 0) u).latched = false ∧
      (fioOf (f1 q.payload 0) u).pulse = none ∧ armedModeChange (f1 q.payload 0) u = false ∧ grantTimer 0xFF u = some g)
    (fun q u => updFio (f1 q.payload 0)
      (fun x => { x with pulse := some ⟨decide (f1 q.payload 1 = 1), startAt q.payload 4 u, f4 q.payload 16, g, false⟩ })
      (takeTimer .fio g (startAt q.payload 4 u) 0 u)) (fun _ _ => enc [(1, g), (3, 0)])) ∧
  Succeeds .fioClear .fioClear (fun q _ => q.payload.length = 4)
    (fun q u => forEach (maskPins 8 (f1 q.payload 0)) (fun n => updFio n (clearPin u.elapsed)) u) (fun _ _ => []) ∧
  Succeeds .gpioConfigSet .gpioConfigSet (fun q _ => q.payload.length = 8 ∧ gpioCfgOk q.payload 0)
    (fun q u => releaseUart0 (applyGpioCfg false q.payload 0 u)) (fun _ _ => []) ∧
  Succeeds .gpioWrite .gpioWrite (fun q _ => q.payload.length = 8)
    (fun q u => { u with io := { u.io with
      data := pinBits 32 fun n => if bitOf (f4 q.payload 0) n then bitOf (f4 q.payload 4) n else bitOf u.io.data n } })
    (fun q u => enc [(4, pinBits 32 fun n => bitOf (f4 q.payload 0) n && !gpioIsOut n u)]) ∧
  (∀ ext : BitVec 32, Succeeds .gpioRead (fun q => .gpioRead q ext) noPayload
    (fun _ u => { u with io := { u.io with ext := ext.toNat } })
    (fun _ u =>
      let v := { u with io := { u.io with ext := ext.toNat } }
      enc [(4, u.io.data), (4, gpioDir v), (4, padLevels v), (4, padLevels v), (4, pinBits 32 fun n => (gpioOf n v).alt)] ++
        tb10 u.tb.now ++ enc [(2, 0)])) ∧
  Succeeds .adcConfigSet .adcConfigSet
    (fun q _ => q.payload.length = 140 ∧ ((List.range 7).all fun c => adcCfgOk c q.payload (20 * c)))
    (fun q u => applyAdcCfg q.payload 0 u) (fun _ _ => []) ∧
  Reports .adcRead .adcRead noPayload (fun _ u => (List.range 7).flatMap fun c =>
    enc [(1, c), (1, adcStatus c u), (1, adcFlags c u), (1, 0)] ++ beInt 4 (adcOf c u).value ++ tb10 (adcOf c u).at0 ++
    enc [(2, 0), (4, (adcOf c u).faults.val)]) ∧
  (∀ g, Succeeds .adcCaptureSet .adcCaptureSet
    (fun q u => q.payload.length = 20 ∧ f1 q.payload 0 = 0 ∧ 1 ≤ f4 q.payload 16 ∧ f4 q.payload 16 ≤ 86400 ∧ startOk q.payload 4 u ∧
      u.io.capture = none ∧ grantTimer 0xFF u = some g)
    (fun q u =>
      let v := takeTimer .adc g (startAt q.payload 4 u) (f4 q.payload 16 * nsPerS) u
      { v with io := { v.io with capture := some g } }) (fun _ _ => enc [(1, g), (3, 0)])) ∧
  (∀ g, Succeeds .adcCaptureSet .adcCaptureSet
    (fun q u => q.payload.length = 20 ∧ f1 q.payload 0 = 1 ∧ u.io.capture = some g)
    (fun _ u => { u with timers := Tbl.set {} u.timers g {}, io := { u.io with capture := none } })
    (fun _ _ => enc [(1, 0xFF), (3, 0)]))

/-- Chapter 19: each counter, snapshot, monitor and log command succeeds and does what its entry says.
(the model's choices: log entries 269 to 275) -/
def Obligations.CounterCommandsSucceed : Prop :=
  Succeeds .countersGet .countersGet
    (fun q u => q.payload.length = 4 ∧ (u.sup.mode = .watch → f1 q.payload 0 = 2) ∧ setOk (f1 q.payload 0) (f1 q.payload 1))
    (fun q u => if f1 q.payload 0 = 2 then u else { u with cnt := { u.cnt with lost := false } })
    (fun q u => countersResp (f1 q.payload 0) (f1 q.payload 1) false (presentSnap u)) ∧
  Succeeds .eventCounterSet .eventCounterSet (fun q _ => q.payload.length = 8 ∧ evtCfgOk q.payload 0)
    (fun q u => applyEvtCfg q.payload 0 u) (fun _ _ => []) ∧
  Succeeds .snapshotTake .snapshotTake (fun q u => q.payload = [] ∧ chPowered 0 u) (fun _ u => storeSnap u)
    (fun _ u => enc [(4, u.cnt.nextSnapId)] ++ tb10 u.tb.now ++ enc [(2, 0)]) ∧
  (∀ x, Reports .snapshotRead .snapshotRead
    (fun q u => q.payload.length = 8 ∧ setOk (f1 q.payload 4) (f1 q.payload 5) ∧
      (u.cnt.snaps.find? fun x => decide (x.id = f4 q.payload 0)) = some x)
    (fun q _ => countersResp (f1 q.payload 4) (f1 q.payload 5) true x)) ∧
  (∀ g, Succeeds .snapshotScheduleSet .snapshotScheduleSet
    (fun q u => q.payload.length = 20 ∧ f1 q.payload 0 = 0 ∧ 60 ≤ f4 q.payload 16 ∧ f4 q.payload 16 ≤ 86400 ∧ startOk q.payload 4 u ∧
      schedTimer u = some g)
    (fun q u => startSched g q.payload 0 u) (fun _ _ => enc [(1, g), (3, 0)])) ∧
  Succeeds .snapshotScheduleSet .snapshotScheduleSet (fun q _ => q.payload.length = 20 ∧ f1 q.payload 0 = 1)
    (fun _ u => stopSched u) (fun _ _ => enc [(1, 0xFF), (3, 0)]) ∧
  Succeeds .bwConfigSet .bwConfigSet
    (fun q _ => q.payload.length = 4 ∧ 1000 ≤ f4 q.payload 0 ∧ f4 q.payload 0 ≤ 10000000)
    (fun q u => restartBw { u with cnt := { u.cnt with bwWindowUs := f4 q.payload 0 } }) (fun _ _ => []) ∧
  Succeeds .bwGet .bwGet (fun q _ => q.payload.length = 4 ∧ f1 q.payload 0 ≤ 127)
    (fun q u => if bitOf (f1 q.payload 1) 0 then { u with cnt := { u.cnt with
        bw := Tbl.upd {} u.cnt.bw (f1 q.payload 0) fun y => { y with rxPeak := 0, txPeak := 0, rxPeakAt := 0, txPeakAt := 0 } } }
      else u)
    (fun q u =>
      let y := Tbl.get {} u.cnt.bw (f1 q.payload 0)
      enc [(1, f1 q.payload 0), (1, b2n y.stepped), (2, 0), (4, u.cnt.bwWindowUs)] ++ tb10 y.lastStart ++
        enc [(2, 0), (8, y.rxLast), (8, y.txLast), (8, y.rxPeak), (8, y.txPeak)] ++ tb10 y.rxPeakAt ++ tb10 y.txPeakAt) ∧
  Succeeds .monitorSet .monitorSet (fun q _ => q.payload.length = 20 ∧ monCfgOk q.payload 0) (fun q u => applyMonCfg q.payload 0 u)
    (fun _ _ => []) ∧
  Reports .monitorGet .monitorGet noPayload (fun _ u => (List.range 16).flatMap fun n =>
    enc [(1, (monOf n u).kind), (1, monState (monOf n u)), (2, 0)] ++ beInt 8 (monOf n u).value ++ tb10 (monOf n u).evalAt ++
      enc [(2, 0), (4, (monOf n u).trips.val), (4, (monOf n u).skipped.val)]) ∧
  Reports .logRead .logRead
    (fun q u => q.payload.length = 8 ∧ f1 q.payload 0 = 0 ∧ 1 ≤ f2 q.payload 2 ∧ f2 q.payload 2 ≤ 64 ∧
      f4 q.payload 4 ≤ u.cnt.logWraps * 1024 + u.cnt.logHead)
    (fun q u => logResp (logRange (f4 q.payload 4) (f2 q.payload 2) (u.cnt.logWraps * 1024 + u.cnt.logHead) 1024)
      fun k => logBytes (Tbl.get {} u.cnt.log (k % 1024))) ∧
  Succeeds .logRead .logRead
    (fun q u => q.payload.length = 8 ∧ f1 q.payload 0 = 1 ∧ 1 ≤ f2 q.payload 2 ∧ f2 q.payload 2 ≤ 19 ∧ chPowered 0 u ∧
      f4 q.payload 4 ≤ u.cnt.archNext)
    (fun _ u => { u with freeCtr := u.freeCtr + 1 })
    (fun q u => logResp (logRange (f4 q.payload 4) (f2 q.payload 2) u.cnt.archNext 4194304) fun k => archRead k u) ∧
  Reports .strikeTallyGet .strikeTallyGet noPayload (fun _ u => enc [(1, u.cnt.tally.length), (3, 0)] ++ u.cnt.tally.flatMap fun w =>
    enc [(2, w.strikeId), (1, b2n w.opened), (1, 0)] ++ tb10 w.openedAt ++ tb10 w.endsAt ++
      enc ((List.range 8).map fun k => (4, Tbl.get 0 w.kinds k)))

/-- Chapter 18: each core, debug access and capture command succeeds and does what its entry says.
(the model's choices: log entries 252 to 268) -/
def Obligations.CoreCommandsSucceed : Prop :=
  Reports .coreStatusGet .coreStatusGet noPayload (fun _ u =>
    enc [(1, coreStateCode false u), (1, coreStateCode true u), (1, flags [u.dbg.opened, u.dbg.lockBroken, haltPending u]),
        (1, u.cap.state.code)] ++
      tb10 u.dbg.untilTb ++ enc [(2, 0), (4, u.dbg.lockCount), (4, u.dbg.denied), (4, u.cap.nextSeq), (4, u.cap.missed)]) ∧
  Succeeds .perfConfigSet .perfConfigSet
    (fun q u => q.payload.length = 12 ∧ perfOk q.payload ∧ coreUp (decide (f1 q.payload 0 = 1)) u)
    (fun q u =>
      let x : PerfCtr :=
        ⟨f1 q.payload 2, f1 q.payload 3, f1 q.payload 4, f4 q.payload 8, if f1 q.payload 4 = 2 then 2 ^ 48 - f4 q.payload 8 else 0⟩
      updCore (decide (f1 q.payload 0 = 1)) (fun c => { c with perf := Tbl.set {} c.perf (f1 q.payload 1) x }) u)
    (fun _ _ => []) ∧
  (∀ counts, Reports .perfRead (fun q => .perfRead q counts) (fun q _ => q.payload.length = 4 ∧ f1 q.payload 0 ≤ 1)
    (fun q u =>
      let c := coreDbg (decide (f1 q.payload 0 = 1)) u
      tb10 u.tb.now ++ be 6 0 ++ ((List.range 6).flatMap fun n => perfRecord (Tbl.get {} c.perf n) (counts.getD n 0)) ++
        enc [(8, c.kmpRequests), (4, c.samplesLost), (4, 0)])) ∧
  Reports .perfSampleGet .perfSampleGet
    (fun q _ => q.payload.length = 8 ∧ f1 q.payload 0 ≤ 1 ∧ 1 ≤ f2 q.payload 2 ∧ f2 q.payload 2 ≤ 48)
    (fun q u =>
      let xs := ((coreDbg (decide (f1 q.payload 0 = 1)) u).samples.filter fun x => decide (f4 q.payload 4 ≤ x.seq)).take (f2 q.payload 2)
      enc [(4, ((xs.getLast?).map fun x => inc32 x.seq).getD (f4 q.payload 4)), (1, xs.length), (3, 0)] ++ xs.flatMap sampleRecord) ∧
  Succeeds .debugAccessSet .debugAccessSet
    (fun q u => q.payload.length = 8 ∧ f1 q.payload 0 = 1 ∧ underSlot0 q u ∧ 60 ≤ f4 q.payload 4 ∧ f4 q.payload 4 ≤ 86400)
    (fun q u => raise .debugAccess q.requestId (enc [(1, 1), (1, 0)] ++ tb10 (u.tb.now + f4 q.payload 4 * nsPerS))
      { u with dbg := { u.dbg with
          opened := true, untilTb := u.tb.now + f4 q.payload 4 * nsPerS, endsAt := u.elapsed + f4 q.payload 4 * nsPerS } })
    (fun q u => tb10 (u.tb.now + f4 q.payload 4 * nsPerS) ++ be 2 0) ∧
  Succeeds .debugAccessSet .debugAccessSet (fun q _ => q.payload.length = 8 ∧ f1 q.payload 0 = 0)
    (fun q u => closeDebug 0 q.requestId u) (fun q u => tb10 (closeDebug 0 q.requestId u).dbg.untilTb ++ be 2 0) ∧
  Succeeds .debugFreeze .debugFreeze noPayload (fun q u => freezeTrigger .debugFreeze q.requestId u) (fun _ _ => []) ∧
  Succeeds .captureSet .captureSet
    (fun q _ => q.payload.length = 8 ∧ f1 q.payload 0 = 0 ∧ f1 q.payload 1 ≤ 127 ∧ f1 q.payload 2 ≤ 1 ∧ 64 ≤ f2 q.payload 6 ∧
      f2 q.payload 6 ≤ 10240)
    (fun q u => { u with cap := { u.cap with
        state := .running, port := f1 q.payload 1, egress := decide (f1 q.payload 2 = 1), stopWhenFull := bitOf (f1 q.payload 3) 0
        classMask := f2 q.payload 4, snapLen := f2 q.payload 6, nextSeq := 0, recs := [] } }) (fun _ _ => []) ∧
  Succeeds .captureSet .captureSet (fun q u => q.payload.length = 8 ∧ f1 q.payload 0 = 1 ∧ u.cap.state = .running)
    (fun q u => raise .captureDone q.requestId (enc [(1, 0), (4, u.cap.recs.length), (4, u.cap.missed)])
      { u with cap := { u.cap with state := .stopped } }) (fun _ _ => []) ∧
  (∀ r, Reports .captureRead .captureRead
    (fun q u => q.payload.length = 8 ∧ 1 ≤ f2 q.payload 6 ∧ f2 q.payload 6 ≤ 1200 ∧
      (u.cap.recs.find? fun r => decide (r.seq = f4 q.payload 0)) = some r)
    (fun q _ => capHeader r ++ slice r.bytes (f2 q.payload 4) (f2 q.payload 6)))

/-! ### The other rows: what each command does when it takes effect -/

/-- Chapter 6, the reads of the host window, a malformed SPI transaction among them: each answers and has the side effect its register
gives it (R66, R216, R217, R219, R222, R223, R225, R238, R239). (the model's choices: log entries 97 to 111) -/
def Obligations.HostReadsAnswer : Prop :=
  (∀ path off w, Takes (fun t => .unmappedRead t path off w)
    (fun u => pathUp path u ∧ unaligned off.toNat w false = false ∧ windowWord path (off.toNat % 0x8000 / 4 * 4) u = none)
    (fun u => emit (.hostRead path (List.replicate (widthBytes w) 0)) (logAccess 3 path false (widthCode w) off.toNat u))) ∧
  (∀ path off w uneven, Takes (fun t => .unalignedRead t path off w uneven)
    (fun u => pathUp path u ∧ unaligned off.toNat w uneven)
    (fun u => emit (.hostRead path (List.replicate (widthBytes w) 0xFF)) (logAccess 2 path false (widthCode w) off.toNat u))) ∧
  (∀ cmd off cut, Takes (fun t => .malformedSpiTransaction t cmd off cut)
    (fun u => pathUp .spi u ∧ (cut ∨ cmd.toNat % 4 = 3 ∨ cmd.toNat / 4 % 32 ≠ 0))
    (logAccess 6 .spi (!bitOf cmd.toNat 7) (cmd.toNat % 4) off.toNat)) ∧
  RegReads 0x0014 .supplyStatus (fun v _ => v) (fun _ u => { u with sup := { u.sup with vinMinMv := u.sup.vinMv } }) ∧
  RegReads 0x0024 .accessErr (fun v _ => v) (fun _ u => { u with host := { u.host with err := {} } }) ∧
  RegReads 0x0200 .timeLatch (fun _ u => u.tb.now % nsPerS) (fun _ u => takeSnap 0 u) ∧
  RegReads 0x0228 .fence (fun v _ => v)
    (fun p u => { u with host := { u.host with inbound := u.host.inbound.filter fun x => decide (x.1 ≠ p) } })

/-- Chapter 6, the writes of the host window: each form that the window takes writes its register, and each is discarded and logged
through the peek alias (R219, R221, R224, R226, R227, R229, R231, R233 to R238, R249). (the model's choices: log entries 97 to 111) -/
def Obligations.HostWritesTakeEffect : Prop :=
  (∀ path off w data v, Takes (fun t => .hostWindowWrite t path off w false data)
    (fun u => pathUp path u ∧ off.toNat < 0x8000 ∧ off.toNat % widthBytes w = 0 ∧ windowWord path (off.toNat / 4 * 4) u = some v ∧
      (w = .w32 ∨ byteWritable (off.toNat / 4 * 4)) ∧
      (isRingReg (off.toNat / 4 * 4) ∧ u.host.rings.enable → u.host.rings.ownerSpi = decide (path = .spi)) ∧
      settingLocked (off.toNat / 4 * 4) u = false)
    (fun u => writeWord path (off.toNat / 4 * 4) (mergeBytes v (off.toNat % 4) ((le 4 data.toNat).take (widthBytes w)))
      (noteWrite path off.toNat ((le 4 data.toNat).take (widthBytes w)) u))) ∧
  RegWrites 0x0210 1 .takeSnapshot ∧ RegWrites 0x0210 2 .armPps ∧ RegWrites 0x0028 0 .intCause ∧ RegWrites 0x002C 0 .intMask ∧
  RegWrites 0x0220 2 .quiesceReq ∧ RegWrites 0x0100 1 .ringEnable ∧ RegWrites 0x0100 4 .ringReset ∧ RegWrites 0x0114 0 .reqTail ∧
  RegWrites 0x012C 0 .rspHead

/-- Chapter 6, the rings and the PCIe link: each event takes effect (R228 to R232, R236, R242, R245, R249).
(the model's choices: log entries 97 to 111) -/
def Obligations.RingsAndLinkRun : Prop :=
  (∀ t s entry, let u := advance t s
    let e := fetchedEntry entry u
    let u1 := { u with host := { u.host with rings := { u.host.rings with reqHead := u.host.rings.reqHead + 1 } } }
    let u2 := if u.host.rings.reqHead + 1 = u.host.rings.reqTail then setCause causeReqDrained u1 else u1
    mayFetch u →
      exec (.requestEntryFetch t entry) s = .next (
        if 24 ≤ leVal (slice e 0 2) ∧ leVal (slice e 0 2) ≤ 1320 ∧ leVal (slice e 2 2) = u.host.rings.reqHead.toNat then
          messageArrives t ⟨ringTransport u, 0, 0, false⟩ (slice e 8 (leVal (slice e 0 2))) u2
        else countDiscard (transportNum (ringTransport u)) (fun c => { c with framing := c.framing.add32 1 }) u2)) ∧
  (∀ m l, Takes (fun t => .responseEntryWrite t)
    (fun u => u.host.rings.waiting = m :: l ∧ ringsServed u ∧ (u.host.rings.rspTail - u.host.rings.rspHead).toNat < rspEntries u.host.rings)
    (fun u =>
      let b := ringEntry u.host.rings.rspTail.toNat m
      let at0 := 0x2000 + 2048 * (u.host.rings.rspTail.toNat % rspEntries u.host.rings)
      noteQuiesced (setCause causeRspReady (updHost (fun h =>
        { h with
          buffer := if u.host.rings.locBuffer then Mem.write 0 h.buffer at0 b else h.buffer
          rings := { u.host.rings with rspTail := u.host.rings.rspTail + 1, waiting := l } })
        (emit (.ringEntry u.host.rings.rspTail.toNat b) u))))) ∧
  Takes (fun t => .ringDmaFault t) (fun u => u.host.rings.enable ∧ u.host.rings.locBuffer = false)
    (fun u => setCause causeRingFault (raise .hostRingFault 0 (enc [(1, 2), (1, b2n u.host.rings.ownerSpi)])
      { u with host := { u.host with rings := { u.host.rings with enable := false, fault := 2 } } })) ∧
  Takes (fun t => .perstN t true) (fun _ => True)
    (fun u => updHost (fun h => { h with hostWrites := 0 }) (pcieReset { u with host := { u.host with perst := true } })) ∧
  Takes (fun t => .perstN t false) (fun _ => True) (fun u => { u with host := { u.host with perst := false } }) ∧
  Takes (fun t => .pcieLinkDown t) (fun u => u.host.linkUp)
    (fun u => updHost (fun h => { h with linkUp := false, linkWidth := 0, linkRate := 0 })
      (raise .hostLink 0 (enc [(1, 0), (1, (pcieReset u).host.linkWidth), (1, (pcieReset u).host.linkRate)]) (pcieReset u))) ∧
  (∀ width rate msi busMaster, Takes (fun t => .pcieLinkUp t width rate msi busMaster)
    (fun u => (u.sup.mode = .keep ∨ u.sup.mode = .full ∨ u.sup.mode = .span ∨ u.sup.mode = .freeze) ∧ u.host.perst = false ∧
      u.host.linkUp = false)
    (fun u => raise .hostLink 0 (enc [(1, 1), (1, width), (1, rate)]) { u with host := { u.host with
      linkUp := true, linkWidth := width, linkRate := rate, msiMode := msi.val, busMaster := busMaster } }))

/-- Chapter 5, frames, sessions and events: each arrival and each timer of the mailbox takes effect (R145 to R147, R152 to R158, R174 to
R186, R199, R200, R308 to R312). (the model's choices: log entries 69 to 96, log entries 122 to 135) -/
def Obligations.MailboxEventsRun : Prop :=
  (∀ t s p raw m, transportServed (uartOf p) (advance t s) → raw ≠ [] → uartMessage raw = some m →
    exec (.uartFrame t p raw) s = .next (messageArrives t ⟨uartOf p, 0, 0, false⟩ m (advance t s))) ∧
  (∀ p raw, raw ≠ [] → uartMessage raw = none → Takes (fun t => .uartFrame t p raw) (fun u => transportServed (uartOf p) u)
    (countDiscard (transportNum (uartOf p)) fun c => { c with framing := c.framing.add32 1 })) ∧
  (∀ p gap, Takes (fun t => .rxGap t p gap) (fun u => transportServed (uartOf p) u ∧ u.kmp.rxGapMs < gap)
    (countDiscard (transportNum (uartOf p)) fun c => { c with framing := c.framing.add32 1 })) ∧
  (∀ t s raw, let u := advance t s
    let n := if u.elapsed / nsPerS = u.ports.m0.second then u.ports.m0.accepted else 0
    m0Runs u → transportServed .m0 u → n < m0Limit →
      exec (.m0Frame t raw) s = .next (m0Accept t raw
        { u with ports := { u.ports with m0 := { u.ports.m0 with second := u.elapsed / nsPerS, accepted := n + 1 } } })) ∧
  (∀ t s raw, let u := advance t s
    m0Runs u → transportServed .m0 u → u.ports.m0.second = u.elapsed / nsPerS → m0Limit ≤ u.ports.m0.accepted →
      exec (.m0Frame t raw) s = .next (countDiscard 2 (fun c => { c with rate := c.rate.add32 1 }) u)) ∧
  (∀ n x, Takes (fun t => .eventSend t n) (fun u => findSession n u = some x ∧ destServed x.dest u ∧ kmpHalted u = false)
    (fun u => sendNext x u)) ∧
  (∀ n x seq a l, Takes (fun t => .eventRetry t n)
    (fun u => findSession n u = some x ∧ x.sent = (seq, a) :: l ∧ a + msNs x.waitMs ≤ u.elapsed ∧ destServed x.dest u ∧
      kmpHalted u = false)
    (fun u => resend x seq u)) ∧
  Takes (fun t => .cacheExpiry t) (fun _ => True) (fun u => { u with kmp := { u.kmp with
      ctlCache := liveCache u.elapsed u.kmp.ctlCache
      openCache := liveCache u.elapsed u.kmp.openCache
      recoveryCache := liveCache u.elapsed u.kmp.recoveryCache
      sessions := u.kmp.sessions.map fun x => { x with cache := liveCache u.elapsed x.cache } } }) ∧
  (∀ n x, Takes (fun t => .sessionIdle t n)
    (fun u => findSession n u = some x ∧ x.controlling = false ∧ x.lastRequestAt + sNs 900 ≤ u.elapsed)
    (fun u => endSession n 2 0 u)) ∧
  (∀ tr r, Takes (fun t => .evTransportReverted t tr)
    (fun u => (u.kmp.reverts.find? fun r => decide (r.transport = tr)) = some r ∧ r.since + sNs 60 ≤ u.elapsed ∧
      confirmedSince r u = false)
    (fun u => raise .transportReverted 0 (enc [(1, transportNum tr)]) (restoreTransport r
      { u with kmp := { u.kmp with reverts := u.kmp.reverts.filter fun x => decide (x.transport ≠ tr) } })))

/-- Chapter 5, a commit: the build ends and the epoch comes (R192, R193, R210, R211). (the model's choices: log entries 69 to 96) -/
def Obligations.CommitsTakeEffect : Prop :=
  (∀ c, Takes (fun t => .commitArmed t true) (fun u => u.kmp.building = some c ∧ kmpHalted u = false) (buildDone c)) ∧
  (∀ c, Takes (fun t => .commitArmed t false)
    (fun u => u.kmp.building = some c ∧ kmpHalted u = false ∧ spanFollows u = false)
    (fun u => raise .commitFailed c.requestId (enc [(4, c.stageId), (1, 0)]) (tellPartner { u with kmp := { u.kmp with
      building := none, built := false, partnerBuilt := false
      stage := u.kmp.stage.map fun g => { g with phase := .verified } } }))) ∧
  (∀ c, Takes (fun t => .epochReached t true)
    (fun u => u.kmp.committed = some c ∧ commitDue c u ∧ loadsDone u ∧ kmpHalted u = false ∧ kmpHaltPends u = false)
    (fun u =>
      let late := !c.onCompletion && decide (c.epoch + tickNs u.sup.mode ≤ u.tb.now)
      switchCommit c late (if late then u.tb.now - c.epoch else 0) u)) ∧
  (∀ c, Takes (fun t => .epochReached t false) (fun u => u.kmp.committed = some c ∧ commitDue c u)
    (fun u => raise .commitFailed c.requestId (enc [(4, c.stageId), (1, 1)])
      (dropPending (killRecord c.slot { u with boot := { u.boot with held := none } }))))

/-- Chapters 2 and 3, the Abutment and the wake sources: each takes effect (R43, R48, R72 to R75, R94, R760).
(the model's choices: log entries 18 to 37, log entries 38 to 51) -/
def Obligations.WakesTakeEffect : Prop :=
  (∀ mv bankA33 bankB33 prtad, 4500 ≤ mv → Takes (fun t => .abutmentStart t mv bankA33 bankB33 prtad) (fun u => u.sup.mode = .off)
    (fun u =>
      let u1 := { u with
        sup := { u.sup with mode := .shelf, lastCause := .powerOn }
        io := { u.io with bankA33 := bankA33, bankB33 := bankB33, prtad := prtad.val }
        wake := { u.wake with modeBefore := .off, waiting := false, byShed := false } }
      let u2 := if u.rtc.blockGood then u1 else coldStart u1
      setVin mv { u2 with sup := { u2.sup with modeSince := stamp u2 } })) ∧
  (∀ mv, mv < 4200 → Takes (fun t => .abutmentReset t mv) (fun u => u.sup.mode = .shelf) (abutmentReset mv)) ∧
  (∀ mv, mv < 2800 → Takes (fun t => .retentionLost t mv) (fun u => u.sup.mode = .off)
    (fun u => { u with
      sw := { u.sw with landMv := mv }
      rtc := {}
      boot := { u.boot with bootCount := 0 }
      cnt := { u.cnt with log := [], logHead := 0, logWraps := 0 } })) ∧
  (∀ vin, Takes (fun t => .vinReachesWatchOn t vin)
    (fun u => let v := setVin vin u
      abutmentOn u ∧ atRest v ∧ waking v = false ∧ v.sup.th.watchOn ≤ vinEff v ∧ v.wake.modeBefore = .off)
    (fun u => startWake .powerOn none (setVin vin u))) ∧
  (∀ level mv, Takes (fun t => .wakePin t level mv)
    (fun u => abutmentOn u ∧ wakeEnabled 0 (setVin mv u) ∧ level = (setVin mv u).wake.activeHigh) (fun u => wakeBy 0 (setVin mv u))) ∧
  (∀ pin rising mv, Takes (fun t => .fieldInputEdgeWake t pin rising mv)
    (fun u => abutmentOn u ∧ wakeEnabled 1 (setVin mv u) ∧ edgeEnabled pin rising (setVin mv u) ∧ (fioOf pin (setVin mv u)).mode = 1)
    (fun u => wakeBy 1 (setVin mv u))) ∧
  (∀ vin, Takes (fun t => .vinRestore t vin)
    (fun u => abutmentOn u ∧ wakeEnabled 3 (setVin vin u) ∧ (setVin vin u).wake.modeBefore ≠ .off) (fun u => wakeBy 3 (setVin vin u))) ∧
  Takes (fun t => .rtcAlarm t)
    (fun u => abutmentOn u ∧ u.sup.mode ≠ .shelf ∧ u.rtc.alarmS ≠ 0 ∧ u.rtc.alarmS ≤ rtcSeconds u)
    (fun u => raise .rtcAlarm 0 (be 6 u.rtc.alarmS) { u with rtc := { u.rtc with alarmS := alarmAfter (rtcSeconds u) u.rtc } }) ∧
  (Takes (fun t => .rtcAlarm t)
    (fun u => u.sup.mode = .shelf ∧ u.rtc.alarmS ≠ 0 ∧ u.rtc.alarmS ≤ rtcSeconds u ∧ wakeEnabled 2 u)
    (fun u => wakeBy 2 { u with rtc := { u.rtc with alarmS := alarmAfter (rtcSeconds u) u.rtc } })) ∧
  (∀ pin mv, Takes (fun t => .wettingSample t pin mv)
    (fun u => atRest u ∧ (fioOf pin u).mode = 2 ∧ (fioOf pin u).wetLevel = some (senseLevel (fioOf pin u) mv))
    (fun u => updFio pin (fun p => { p with
      mv := mv, raw := senseLevel (fioOf pin u) mv, wetLevel := some (senseLevel (fioOf pin u) mv) }) u))

/-- A wake source that is enabled starts a Keystone run where VIN has reached ON(Watch), and is deferred and reported below it (R72 to
R75, R91). (the model's choices: log entries 18 to 37) -/
def Obligations.WakeSourceStartsRun : Prop :=
  ∀ src s, atRest s → waking s = false →
    (s.sup.th.watchOn ≤ vinEff s → wakeBy src s = startWake .wake (some src) s ∧ waking (startWake .wake (some src) s) = true) ∧
    (vinEff s < s.sup.th.watchOn → wakeBy src s = raise .wakeDeferred 0 (enc [(1, src), (2, s.sw.landMv)])
      { s with wake := { s.wake with waiting := true, waitingSource := src } })

/-- Chapter 2, the modes: each supply event takes effect (R33 to R43, R62 to R68, R142). (the model's choices: log entries 18 to 37) -/
def Obligations.SupplyEventsRun : Prop :=
  (∀ vin, Takes (fun t => .vinBelowOff t vin) (fun u => abutmentOn u) (setVin vin)) ∧
  (∀ vin low a b, Takes (fun t => .rideThrough t vin low)
    (fun u => abutmentOn u ∧ (setVin vin u).sup.dip = some (a, b) ∧ shedUnderWay u = false)
    (fun u => raise .rideThrough 0 (enc [(4, (b - a) / 1000), (2, low)])
      { setVin vin u with sup := { (setVin vin u).sup with dip := none } })) ∧
  (∀ vin vhold, Takes (fun t => .sheddingStep t vin vhold)
    (fun u => let v := setVhold vhold (setVin vin u)
      abutmentOn u ∧ runInProgress v = false ∧ bootRuns v = false ∧ shedDue v.sup.mode v ∧ v.sup.transition = none)
    (fun u => downAndOn .vinLow 0 (setVhold vhold (setVin vin u)))) ∧
  (∀ vhold, Takes (fun t => .holdFloorCrossing t vhold)
    (fun u => runInProgress u = false ∧ bootRuns u = false ∧ vhold < holdFloor u.sup.mode ∧ u.sup.transition = none)
    (fun u =>
      let v := startDown .holdFloor 0 (raise .holdLow 0 (enc [(1, u.sup.mode.code), (2, vhold)])
        { u with sup := { u.sup with vholdMv := vhold } })
      if v.sup.transition.isNone then afterStep v else v)) ∧
  (∀ vin vhold n, Takes (fun t => .climb t vin vhold)
    (fun u => let v := setVhold vhold (setVin vin u)
      abutmentOn u ∧ mayClimb v ∧ v.sup.deferred = none ∧ climbTarget v = some n)
    (fun u => startClimb (modeOfCode n) .climb 0 (setVhold vhold (setVin vin u)))) ∧
  (∀ vin x, Takes (fun t => .climbAbandoned t vin)
    (fun u => abutmentOn u ∧ climbOf (setVin vin u) = some x ∧ shedDue x.dst (setVin vin u))
    (fun u => modeRefused x.dst x.reqId (undoClimb x (setVin vin u)))) ∧
  (∀ x, Takes (fun t => .transitionComplete t)
    (fun u => u.sup.transition = some x ∧ isClimb x = false ∧ x.dst = .freeze)
    (fun u => afterStep (completeFreeze x u))) ∧
  (∀ x, Takes (fun t => .transitionComplete t)
    (fun u => u.sup.transition = some x ∧ isClimb x ∧ x.climbStep = 4) (fun u => afterStep (completeClimb x u))) ∧
  (∀ x, Takes (fun t => .transitionComplete t)
    (fun u => u.sup.transition = some x ∧ x.dst = .watch ∧ (x.src = .shelf ∨ x.src = .watch) ∧ watchReady u) (enterWatch x)) ∧
  (∀ x, Takes (fun t => .transitionComplete t)
    (fun u => u.sup.transition = some x ∧ (x.src = .full ∧ x.dst = .keep ∨ x.src = .keep ∧ x.dst = .watch ∨
      x.src = .freeze ∧ x.dst = .watch ∨ x.src = .watch ∧ x.dst = .shelf))
    (fun u => afterStep (completeDown x u)))

/-- Chapter 2, strikes, the input switch and the outputs: each event takes effect (R44 to R51, R76 to R78, R750 to R757).
(the model's choices: log entries 18 to 37) -/
def Obligations.StrikesAndSwitchesRun : Prop :=
  (∀ mv, Takes (fun t => .surgeTrigger t mv) (fun u => abutmentOn u ∧ u.strike.surgeMv < mv)
    (fun u => strikeTrigger 0 (setVin mv u).elapsed (setVin mv u))) ∧
  (∀ mv, Takes (fun t => .slewTrigger t mv) (fun u => abutmentOn u) (fun u => strikeTrigger 1 u.elapsed (setVin mv u))) ∧
  Takes (fun t => .evStrikeClose t)
    (fun u => u.strike.opened ∧ u.strike.endsElapsed ≤ u.elapsed ∧ (closeStrike u).sup.deferred = none) closeStrike ∧
  (∀ vin, 60000 < vin → Takes (fun t => .inputSwitchOpen t vin) (fun u => abutmentOn u ∧ (setVin vin u).sw.ovCut = false)
    (fun u => raise .overvoltage 0 (enc [(1, 1), (2, vin)])
      (compareVin { setVin vin u with sw := { (setVin vin u).sw with ovCut := true } }))) ∧
  (∀ vin, 41000 < vin → Takes (fun t => .overvoltageTimeout t vin) (fun u => abutmentOn u ∧ (setVin vin u).sw.ovCut = false)
    (fun u => raise .overvoltage 0 (enc [(1, 1), (2, vin)])
      (compareVin { setVin vin u with sw := { (setVin vin u).sw with ovCut := true } }))) ∧
  (∀ vin, vin < 40000 → Takes (fun t => .inputSwitchClose t vin) (fun u => abutmentOn u ∧ (setVin vin u).sw.ovCut)
    (fun u => raise .overvoltage 0 (enc [(1, 0), (2, vin)])
      (compareVin { setVin vin u with sw := { (setVin vin u).sw with ovCut := false } }))) ∧
  (∀ die, 13000 < die → Takes (fun t => .thermalCut t die) (fun u => abutmentOn u ∧ u.sw.thermalCut = false)
    (fun u => raise .thermalCut 0 ([1] ++ beInt 4 die) (compareVin { u with sw := { u.sw with thermalCut := true } }))) ∧
  (∀ die, die < 11000 → Takes (fun t => .thermalRelease t die) (fun u => abutmentOn u ∧ u.sw.thermalCut)
    (fun u => raise .thermalCut 0 ([0] ++ beInt 4 die) (compareVin { u with sw := { u.sw with thermalCut := false } }))) ∧
  (∀ n, Takes (fun t => .vioFault t n) (fun u => vioPowered u ∧ (vioOf n u).offAt = none)
    (fun u => raise .vioFault 0 (enc [(1, n), (1, 0)]) (setVio n ⟨some u.elapsed⟩ u))) ∧
  (∀ n holds, Takes (fun t => .vioRetry t n holds) (fun u => vioPowered u ∧ heldFor (vioOf n u).offAt nsPerS u.elapsed)
    (fun u => raise .vioFault 0 (enc [(1, n), (1, b2n holds)]) (setVio n ⟨if holds then none else some u.elapsed⟩ u)))

/-- Chapter 4, the start: clock failures, the Keystone run, the configuration and the watchdogs take effect (R110 to R127, R132, R138,
R140). (the model's choices: log entries 52 to 68) -/
def Obligations.StartEventsRun : Prop :=
  Takes (fun t => .referenceStartFail t) (fun u => waking u ∧ u.clk.refRetries < 3)
    (fun u =>
      let v := clockFailed clkReference u
      { v with clk := { v.clk with refFailedAt := some u.elapsed } }) ∧
  Takes (fun t => .referenceRetry t) (fun u => atRest u ∧ heldFor u.clk.refFailedAt (sNs 1) u.elapsed)
    (fun u => { u with clk := { u.clk with refFailedAt := none, refRetries := u.clk.refRetries + 1 } }) ∧
  (∀ n, Takes (fun t => .evClockFail t n) (fun u => timeRuns u ∧ climbNeeds n.val u = false ∧ (n.val < 5 ∨ 9 ≤ n.val))
    (fun u => raise .clockFail 0 (enc [(1, n), (1, u.sup.mode.code)]) u)) ∧
  (∀ n, Takes (fun t => .evClockFail t n) (fun u => timeRuns u ∧ climbNeeds n.val u = false ∧ 5 ≤ n.val ∧ n.val < 9)
    (fun u => groupOff (n.val - 5) (clockFailed n.val u))) ∧
  (∀ ago kat, Takes (fun t => .bankVerdict t ago kat)
    (fun u => (beginRun ago u).clk.reference ∧ (beginRun ago u).boot.loading.isSome)
    (fun u => judgeBank (readOnce kat (beginRun ago u)))) ∧
  (∀ ago, Takes (fun t => .flashNotAnswering t ago)
    (fun u => (beginRun ago u).clk.reference ∧ (beginRun ago u).boot.loading.isSome ∧ (beginRun ago u).boot.dirRead = false)
    (fun u => enterRecovery 1 (beginRun ago u))) ∧
  (∀ good items n l, Takes (fun t => .configLoad t good items)
    (fun u => u.clk.reference ∧ u.boot.awaitConfig ∧ u.boot.loading = none ∧ u.boot.chosen = false ∧ u.boot.recovery = false ∧
      u.dbg.watch.halted = false ∧ configOrder u = n :: l)
    (fun u =>
      let pass := good && u.dig.katOk && u.dig.slot0Ok
      if pass then configChosen n (items.map fun e => ⟨e.1, e.2⟩) (countCompare pass u) else configFails n (countCompare pass u))) ∧
  Takes (fun t => .controlPreload t)
    (fun u => u.sup.mode = .watch ∧ u.boot.awaitConfig = false ∧ u.boot.recovery = false ∧ u.boot.preloaded = false ∧
      u.dbg.watch.halted = false ∧ controlTagOk u.boot.bankB u)
    (fun u => countCompare true { u with boot := { u.boot with preloaded := true } }) ∧
  Takes (fun t => .autoConfirm t)
    (fun u => timeRuns u ∧ bootRuns u = false ∧ onTrial u ∧ (dirOf u).autoConfirm ∧ u.boot.watchAt + sNs 900 ≤ u.elapsed)
    (confirmBank true 0) ∧
  (∀ control, Takes (fun t => .watchdog t control)
    (fun u => coreUp (!control) u ∧ (coreDbg (!control) u).halted = false ∧ timeRuns u)
    (restartRun (if control then .controlWatchdog else .watchWatchdog)))

/-- Chapter 3, time: edges, messages, losses and timers take effect (R82 to R96, R99 to R104).
(the model's choices: log entries 38 to 51) -/
def Obligations.TimeEventsRun : Prop :=
  Takes (fun t => .rtcFail t) (fun u => u.sup.mode ≠ .off ∧ u.rtc.running)
    (fun u => raise .clockFail 0 (enc [(1, 0), (1, u.sup.mode.code)]) { u with
      tb := { u.tb with rtcFail := true }
      rtc := { u.rtc with ticks := rtcTicks u, since := u.elapsed, running := false, valid := false } }) ∧
  Takes (fun t => .ppsEdge t) (fun u => timeRuns u ∧ ppsOverdue u = false ∧ (ppsPulse u).host.snap.armPps = false) ppsPulse ∧
  Takes (fun t => .ppsEdge t) (fun u => timeRuns u ∧ ppsOverdue u = false ∧ (ppsPulse u).host.snap.armPps)
    (fun u => takeSnap 2 { ppsPulse u with host := { (ppsPulse u).host with snap := { (ppsPulse u).host.snap with armPps := false } } }) ∧
  Takes (fun t => .ppsLoss t) (fun u => heldFor u.disc.lastPpsAt (msNs 1100) u.elapsed)
    (fun u => loseSource .pps { u with tb := { u.tb with ppsPresent := false }, disc := { u.disc with lastPpsAt := none } }) ∧
  (∀ port domain interval off, Takes (fun t => .syncMessage t port domain interval off)
    (fun u => timeRuns u ∧ (sourceOrder u).contains .ptp ∧ port = u.tb.ptpPort ∧ domain = u.tb.ptpDomain ∧ ptpPortUp u ∧
      followsTime u = false ∧ syncOverdue u = false)
    (fun u => measure .ptp off { u with disc := { u.disc with lastSyncAt := some u.elapsed, syncIntervalNs := interval } })) ∧
  Takes (fun t => .ptpLoss t) (fun u => heldFor u.disc.lastSyncAt (4 * u.disc.syncIntervalNs) u.elapsed) (loseSource .ptp) ∧
  Takes (fun t => .holdoverExpiry t)
    (fun u => u.tb.quality = .holdover ∧ heldFor u.disc.holdoverSince (sNs u.tb.holdoverS) u.elapsed ∧ followsTime u = false)
    (setQuality .free) ∧
  Takes (fun t => .rtcAlign t) (fun u => onSecond u ∧ aligns u.tb.quality ∧ u.rtc.running)
    (fun u =>
      let v := setRtc (u.tb.now / nsPerS * 32768) u
      { v with rtc := { v.rtc with alignedS := u.tb.now / nsPerS, valid := true } }) ∧
  (∀ g, Takes (fun t => .timerFire t g)
    (fun u => (timerOf g u).owner = .kmp ∧ (timerOf g u).armed ∧ (timerOf g u).next ≤ u.tb.now ∧ tickNs u.sup.mode ≠ 0)
    (fun u => raise .timerFire 0 (enc [(1, g), (4, sat32 (timerMissed (timerOf g u) u.tb.now))])
      (flipTout g (setTimer g (firedTimer (timerOf g u) u.tb.now) u)))) ∧
  (∀ present, Takes (fun t => .tenMhzPresent t present) (fun _ => True) (fun u => { u with tb := { u.tb with tenMhz := present } })) ∧
  Takes (fun t => .ppsOut t) (fun u => onSecond u ∧ ppsDriven u)
    (fun u => emit (.pin pinPpsOut true) { u with disc := { u.disc with ppsOutHigh := true } })

/-- Chapters 2, 5, 11 and 14, a climb: each of its steps takes effect (R128 to R131, R193, R592, R594).
(the model's choices: log entries 18 to 37, log entries 69 to 96, log entries 210 to 227) -/
def Obligations.ClimbStepsRun : Prop :=
  (∀ x, Takes (fun t => .clocksLocked t true)
    (fun u => climbOf u = some x ∧ x.climbStep = 0 ∧ x.src = .watch ∧ u.dbg.watch.halted = false ∧ u.boot.preloaded)
    (fun u => clocksRun x (countCompare true u))) ∧
  (∀ x c sweep, Takes (fun t => .dramTraining t c sweep)
    (fun u => climbOf u = some x ∧ x.climbStep = 1 ∧ (climbChannels x).contains c.val ∧ chPowered c u = false ∧
      chPowered c (trainChannel c sweep u))
    (fun u => climbOn (if c.val = 0 then archiveLog (trainChannel c sweep u) else trainChannel c sweep u))) ∧
  (∀ x items, Takes (fun t => .sectionStreamed t false true items)
    (fun u => climbOf u = some x ∧ x.climbStep = 2 ∧ x.src = .watch ∧ u.boot.streamedKeep = false ∧ u.boot.slot.isSome ∧
      ctlHalted u = false)
    (fun u =>
      let v := configLoaded 1 (applySection 1 (itemsInForce (countCompare true u)) (countCompare true u))
      climbOn { v with boot := { v.boot with streamedKeep := true } })) ∧
  (∀ x, Takes (fun t => .tablesInstalled t) (fun u => climbOf u = some x ∧ x.climbStep = 3 ∧ ctlHalted u = false)
    (climbTo 4 .forming)) ∧
  (∀ c, Takes (fun t => .searchLoaded t) (fun u => u.kmp.committed = some c ∧ u.cls.loading)
    (fun u => trySwitch false (raise .searchLoaded 0 (enc [(4, c.stageId),
        (4, flags ((List.range 32).map fun k => ((searchItems c.items u).flatMap loadBanks).contains k))])
      { u with cls := { u.cls with loading := false } }))) ∧
  (∀ c, Takes (fun t => .evTableLoaded t) (fun u => u.kmp.committed = some c ∧ u.fwd.loading)
    (fun u => trySwitch false (raise .tableLoaded 0 (enc [(4, c.stageId),
        (1, flags ((List.range 8).map fun k =>
          (((commitItems c u).filter fun i => decide (i.typ = 0x0410)).map fun i => f1 i.data 0).contains (k + 1)))])
      { u with fwd := { u.fwd with loading := false } })))

/-- Chapter 7: the events of a lane take effect (R255 to R287). (the model's choices: log entries 112 to 121) -/
def Obligations.LaneEventsRun : Prop :=
  (∀ l peak, Takes (fun t => .cdrLock t l peak)
    (fun u => (laneOf l u).rx = .active ∧ (laneOf l u).cdr = false ∧ (laneOf l u).warm = false)
    (fun u => startAlign l (rxLockEvent l true false (updLane l (fun y => { y with warm := false })
      (updLane l (fun y => if y.warm then { y with cdr := true, signal := true, lockedSince := u.tb.now } else { y with
        cdr := true, signal := true, lockedSince := u.tb.now
        ctle := if y.cfg.ctleFixed then y.cfg.ctlePeak else peak.val
        dfe := List.replicate 12 0, railSince := List.replicate 12 none, dfeRail := false }) u))))) ∧
  (∀ l signal, Takes (fun t => .cdrLoss t l signal) (fun u => (laneOf l u).cdr)
    (fun u => updLane l (fun y => { y with signal := signal }) (loseCdr l u))) ∧
  (∀ l, Takes (fun t => .acquisitionRetry t l)
    (fun u => (laneOf l u).rx = .active ∧ (laneOf l u).cdr = false ∧ (laneOf l u).acqAt + msNs 20 ≤ u.elapsed)
    (fun u => updLane l (fun y => { y with acqAt := u.elapsed, warm := false }) u)) ∧
  (∀ l, Takes (fun t => .warmWakeTimeout t l)
    (fun u => (laneOf l u).rx = .active ∧ (laneOf l u).cdr = false ∧ (laneOf l u).warm ∧ (laneOf l u).rxActiveAt + usNs 100 ≤ u.elapsed)
    (fun u => updLane l (fun y => { y with warm := false, acqAt := u.elapsed }) u)) ∧
  (∀ l up, Takes (fun t => .dfeAdapt t l up) (fun u => (laneOf l u).cdr ∧ adaptPaused (laneOf l u) u.elapsed = false)
    (fun u => updLane l (fun y => { y with
      dfe := stepTaps up y.dfe, railSince := railTimes u.elapsed (stepTaps up y.dfe) y.railSince }) u)) ∧
  (∀ l tap, Takes (fun t => .dfeRail t l tap)
    (fun u => heldFor ((laneOf l u).railSince.getD tap none) (msNs 1) u.elapsed ∧ (laneOf l u).dfeRail = false)
    (fun u => raise .laneEqRail 0 (enc [(1, l), (1, tap.val + 1)]) (updLane l (fun y => { y with dfeRail := true }) u))) ∧
  (∀ l inverted, Takes (fun t => .prbsLock t l inverted) (fun u => checkerRuns (laneOf l u) ∧ (laneOf l u).test.locked = false)
    (fun u => updLane l (fun y => { y with test := { y.test with locked := true, inverted := inverted, lockedAt := u.elapsed } }) u)) ∧
  (∀ l errs, 512 < errs → Takes (fun t => .prbsLockLoss t l errs) (fun u => (laneOf l u).test.locked)
    (fun u => updLane l (fun y => { y with test := { y.test with lockLoss := y.test.lockLoss.add32 1 } })
      (prbsStop l (takeErrors l errs (if strikeOpen u then errs else 0) u)))) ∧
  (∀ eyes, Takes (fun t => .evLaneEyeDone t eyes) (fun u => u.lanes.scan.isSome) (endScan false (eyes.take 3))) ∧
  (∀ l expected wrong stuff, Takes (fun t => .cwComma t l expected wrong stuff) (fun _ => True)
    (fun u => commaStep l expected wrong (updLane l (fun y => { y with stuffErr := y.stuffErr.add32 stuff }) u))) ∧
  (∀ l, Takes (fun t => .commonModeTrigger t l) (fun u => detectorsAct (laneOf l u) u.elapsed ∧ bitOf (laneOf l u).cfg.impairEn 0)
    (fun u => laneTrigger l u.elapsed (updLane l (fun y => { y with cmTriggers := y.cmTriggers.add32 1 }) u))) ∧
  (∀ l loss, 10 ≤ loss → Takes (fun t => .burstTrigger t l loss)
    (fun u => detectorsAct (laneOf l u) u.elapsed ∧ bitOf (laneOf l u).cfg.impairEn 1 ∧ loss ≤ usNs (laneOf l u).cfg.burstMaxUs)
    (fun u => laneTrigger l (u.elapsed - loss) (updLane l (fun y => { y with burstTriggers := y.burstTriggers.add32 1 }) u))) ∧
  (∀ l, Takes (fun t => .quarantineExit t l)
    (fun u => (laneOf l u).quarantine ∧ heldFor (laneOf l u).triggers.head? (sNs 60) u.elapsed)
    (fun u => raise .laneQuarantine 0 (enc [(1, l), (1, 0)]) (updLane l (fun y => { y with quarantine := false }) u))) ∧
  (∀ l, Takes (fun t => .evLaneFault t l true) (fun u => (laneOf l u).tx = .off ∧ (laneOf l u).txGoal ≠ .off)
    (fun u => raise .laneFault 0 (enc [(1, l), (1, 0)]) (refreshRef l (updLane l (fun y => { y with txGoal := .off }) u)))) ∧
  (∀ l, Takes (fun t => .evLaneFault t l false) (fun u => (laneOf l u).rx = .off ∧ (laneOf l u).rxGoal ≠ .off)
    (fun u => raise .laneFault 0 (enc [(1, l), (1, 1)]) (refreshRef l (updLane l (fun y => { y with rxGoal := .off }) u)))) ∧
  (∀ l, Takes (fun t => .lanePllLock t l true) (fun u => (laneOf l u).tx = .off ∧ (laneOf l u).txGoal ≠ .off)
    (fun u => updLane l (fun y => { y with tx := y.txGoal, txGoal := .off }) u)) ∧
  (∀ l, Takes (fun t => .lanePllLock t l false) (fun u => (laneOf l u).rx = .off ∧ (laneOf l u).rxGoal = .active) (rxActivate l false))

/-- Chapter 8: the events of a port and of its optics take effect, and a received frame is checked, counted and passed on (R291 to
R313). (the model's choices: log entries 122 to 135) -/
def Obligations.PortEventsRun : Prop :=
  (∀ p anDone fd, Takes (fun t => .linkUp t p anDone fd)
    (fun u => linkCanRise p u ∧ (portOf p u).link = false ∧ ((portOf p u).an = false ∨ fd))
    (fun u => portGoesUp p ((portOf p u).an && anDone) u)) ∧
  (∀ p cause, Takes (fun t => .linkDown t p cause) (fun u => (portOf p u).typ ≠ 0) (portGoesDown p cause)) ∧
  (∀ p raw fec age trie, Takes (fun t => .rxFrame t p raw false fec age trie)
    (fun u => macReceives p u ∧ 64 ≤ raw.length ∧ raw.length ≤ (portOf p u).maxFrame ∧ fcsGood raw ∧
      f2 raw 12 ≠ 0x8808)
    (fun u =>
      let v := countAccepted p raw.length (countFec p fec u)
      ingress p raw (rxStamp p age v) trie (bumpFree (trieSide p raw trie v)))) ∧
  (∀ p raw damaged fec age trie, Takes (fun t => .rxFrame t p raw damaged fec age trie) (fun u => macReceives p u ∧ raw.length < 64)
    (fun u => updPortCtrs p (fun c => { c with runts := c.runts.add64 1 }) (countFec p fec u))) ∧
  (∀ p d, Takes (fun t => .opticsPoll t p (.ok d)) (fun u => controlRuns u ∧ (cageOf p u).mapped ∧ masterBusy p u = false)
    (fun u => pollFound p true (f1 d 0) (i2cAccess p false 0 0 [] (ansFor (cageOf p u) (.ok d)) u))) ∧
  (∀ p, Takes (fun t => .opticsStep t p 1) (fun u => controlRuns u ∧ (cageOf p u).step ≠ 0 ∧ masterBusy p u = false)
    (fun u => opticsEvent p (cageOf p u).step 1 (updCage p (fun y => { y with step := 0 }) (stepWrite p (cageOf p u).step u)))) ∧
  (∀ p, Takes (fun t => .opticsStep t p 0) (fun u => controlRuns u ∧ (cageOf p u).step ≠ 0 ∧ masterBusy p u = false)
    (fun u => opticsEvent p (cageOf p u).step 0 (updCage p (fun y => { y with
      step := if y.step = 5 then 0 else y.step + 1, ready := decide (y.step = 5) }) (stepWrite p (cageOf p u).step u)))) ∧
  (∀ m p, Takes (fun t => .i2cTimeout t m) (fun u => (Tbl.get {} u.ports.master m).held = some (.poll p))
    (fun u => { u with ports := { u.ports with
      master := Tbl.upd {} u.ports.master m (fun _ => { held := none, recover := true }) } })) ∧
  (∀ m w q, Takes (fun t => .i2cTimeout t m) (fun u => (Tbl.get {} u.ports.master m).held = some (.kmp w q))
    (fun u =>
      let v := { u with ports := { u.ports with master := Tbl.upd {} u.ports.master m (fun _ => { held := none, recover := true }) } }
      finish (if w then Cmd.opticsWrite else Cmd.opticsRead).row.code q (findSession q.session v) false Err.i2cTimeout.code [] v))

/-- Chapter 9: what a Causeway link receives, its timers and its slots take effect (R321 to R357).
(the model's choices: log entries 136 to 153) -/
def Obligations.CausewayEventsRun : Prop :=
  (∀ l data, Takes (fun t => .cwInit t l data) (fun u => cwHears l u) (fun u => cwAfter l (receiveInit l (initOf data) u))) ∧
  (∀ l, Takes (fun t => .cwInitSend t l) (fun u => (linkOf l u).state = .init ∨ (linkOf l u).state = .hold ∧ lineGood l u)
    (queueInit l)) ∧
  (∀ l raw cws hit trie, Takes (fun t => .replayFrame t l raw cws hit trie) (fun u => (linkOf l u).joint ∧ cwHears l u)
    (fun u => cwAfter l (jointUnit l raw trie u))) ∧
  (∀ l raw hit trie, Takes (fun t => .replayFrame t l raw [] hit trie) (fun u => (linkOf l u).joint = false ∧ cwHears l u)
    (fun u => trunkFrame l raw hit trie (bumpFree u))) ∧
  (∀ l seq strike, Takes (fun t => .cwAck t l seq strike) (fun u => cwHears l u ∧ (linkOf l u).joint)
    (fun u => ackTo l seq.toNat (peerStrikeNote l strike u))) ∧
  (∀ l seq, Takes (fun t => .cwNak t l seq) (fun u => cwHears l u ∧ (linkOf l u).joint) (fun u => cwAfter l (nakTo l seq.toNat u))) ∧
  (∀ l seq, Takes (fun t => .replayMark t l seq) (fun u => cwHears l u ∧ (linkOf l u).joint)
    (takeCtrl l (ctrlUnit true 4 (be 2 seq.toNat)))) ∧
  (∀ l data, Takes (fun t => .cwCredit t l data) (fun u => cwHears l u) (takeCredit l data)) ∧
  (∀ l, Takes (fun t => .ackTimer t l)
    (fun u => (linkOf l u).joint ∧ (linkOf l u).state = .up ∧ heldFor (linkOf l u).ackSince 500 u.elapsed) (sendAck l)) ∧
  (∀ l, Takes (fun t => .nakRepeat t l) (fun u => (linkOf l u).joint ∧ (linkOf l u).state = .up ∧ (linkOf l u).replayWait ∧
      heldFor (linkOf l u).nakAt 2000 u.elapsed) (sendNak l)) ∧
  (∀ l, Takes (fun t => .creditTimer t l)
    (fun u => (linkOf l u).state = .up ∧ heldFor (linkOf l u).creditSince 1000 u.elapsed) (sendCredit l)) ∧
  (∀ l k rest, Takes (fun t => .replayTimer t l)
    (fun u => (linkOf l u).kept = k :: rest ∧ (linkOf l u).state = .up ∧ k.sentAt + k.timerNs ≤ u.elapsed ∧
      (linkOf l u).replayFrom ≠ some k.seq)
    (fun u => cwAfter l (startReplay l k.seq (updLink l (fun y => { y with nakFrom := none }) u)))) ∧
  (∀ l, Takes (fun t => .peerStrikeTimeout t l) (fun u => heldFor (linkOf l u).peerStrikeAt (msNs 10) u.elapsed)
    (fun u => updLink l (fun y => { y with peerStrikeAt := none }) u)) ∧
  (∀ l, Takes (fun t => .fecLock t l)
    (fun u => cwActive l u ∧ (linkOf l u).joint = false ∧ (laneOf l u).align = .locked ∧ (linkOf l u).fecLock = false)
    (fun u => lineUp l (updLink l (fun y => { y with fecLock := true, fecRun := 0 }) u))) ∧
  (∀ l, Takes (fun t => .lineLoss t l)
    (fun u => cwActive l u ∧ (linkOf l u).state = .up ∧ heldFor (linkOf l u).lostSince (usNs (linkOf l u).downUs) u.elapsed)
    (fun u => cwAfter l (enterHold l (if (laneOf l u).align = .locked then 2 else 1) u))) ∧
  (∀ l, Takes (fun t => .graceEnd t l)
    (fun u => (linkOf l u).state = .hold ∧ (linkOf l u).graceAt.isSome ∧ graceRuns (linkOf l u) u.elapsed = false)
    (fun u => cwRestart l 5 (cwFlush l false u))) ∧
  (∀ l v, Takes (fun t => .frameSlot t l)
    (fun u => let w := if 128 ≤ l.val then dealCells u else u
      cwActive l u ∧ (laneOf l u).tx = .active ∧ replaySlot l (if (linkOf l w).state = .up then noteStalls l w else w) = some v)
    (fun _ => v)) ∧
  (∀ l, Takes (fun t => .frameSlot t l)
    (fun u => let w := if 128 ≤ l.val then dealCells u else u
      cwActive l u ∧ (laneOf l u).tx = .active ∧ replaySlot l (if (linkOf l w).state = .up then noteStalls l w else w) = none)
    (fun u =>
      let w := if 128 ≤ l.val then dealCells u else u
      let v := if (linkOf l w).state = .up then noteStalls l w else w
      if (linkOf l v).joint then jointSlot l v else trunkSlot l v))

/-- Chapters 10 and 11: the refills, the slow path, the scrubs and the learning of the pipelines take effect (R401 to R442).
(the model's choices: log entries 154 to 166, log entries 167 to 182) -/
def Obligations.TableEventsRun : Prop :=
  Takes (fun t => .meterRefill t) (fun u => refillDue u.cls.lastMeterRefill u)
    (fun u => { u with cls := { u.cls with
      meter := u.cls.meter.map (fun p => (p.1, refillMeter p.2)), lastMeterRefill := some u.tb.now } }) ∧
  Takes (fun t => .puntRefill t) (fun u => refillDue u.cls.lastPuntRefill u)
    (fun u =>
      let v := forEach (List.range 8) (fun c s => updPunt c (fun y =>
        { y with tokens := min (y.tokens + y.rate * 1024) (puntTokens y.burst) }) s) u
      { v with cls := { v.cls with lastPuntRefill := some u.tb.now } }) ∧
  Takes (fun t => .followExpiry t) (fun _ => True)
    (fun u => forEach (u.cls.follow.map Prod.fst) (fun i s =>
      { s with cls := { s.cls with follow := Tbl.upd [] s.cls.follow i (liveFollow s.elapsed) } }) u) ∧
  (∀ trie h, Takes (fun t => .reinjected t trie) (fun u => dataPlaneMode u.sup.mode ∧ ctlHalted u = false ∧ missReady u = some h)
    (reinject h trie)) ∧
  (∀ trie l, Takes (fun t => .reinjected t trie)
    (fun u => dataPlaneMode u.sup.mode ∧ ctlHalted u = false ∧ missReady u = none ∧ datagramReady u = some l) (reinjectDatagram l trie)) ∧
  Takes (fun t => .holdExpired t) (fun _ => True)
    (fun u => { u with cls := { u.cls with
      held := u.cls.held.filter (fun h => !holdOver h u)
      holdExpired := u.cls.holdExpired.add64 (u.cls.held.filter fun h => holdOver h u).length } }) ∧
  (∀ b e, Takes (fun t => .searchScrub t b e)
    (fun u => dataPlaneMode u.sup.mode ∧ (bankOf b u).list ≠ 0xFF ∧ e.val < bankEntries (bankOf b u).profile ∧
      (Tbl.get {} (bankOf b u).entries e).parityBad = false)
    (fun u =>
      let v := updBank b (fun y => { y with entries := Tbl.upd {} y.entries e (fun x => { x with parityBad := true }) }) u
      { v with cls := { v.cls with parityEvents := inc16 v.cls.parityEvents } })) ∧
  (∀ b e repaired, Takes (fun t => .evSearchError t b e repaired)
    (fun u => (Tbl.get {} (bankOf b u).entries e).parityBad ∧ dataPlaneMode u.sup.mode ∧ ctlHalted u = false)
    (fun u => raise .searchError 0 (enc [(1, b), (2, e), (1, b2n repaired)]) (if repaired then
        updBank b (fun y => { y with entries := Tbl.upd {} y.entries e (fun x => { x with parityBad := false }) }) u else u))) ∧
  (∀ w, Takes (fun t => .learnWindowEnd t) (fun u => (u.fwd.windows.find? fun w => decide (w.start + windowNs ≤ u.tb.now)) = some w)
    (fun u => postResult w { u with fwd := { u.fwd with windows := u.fwd.windows.filter fun x => decide (x ≠ w) } })) ∧
  (∀ r rest, Takes (fun t => .learnResult t)
    (fun u => u.fwd.results = r :: rest ∧ dataPlaneMode u.sup.mode ∧ ctlHalted u = false)
    (fun u => applyLearn r { u with fwd := { u.fwd with results := rest } })) ∧
  Takes (fun t => .agingSweep t) (fun u => spanFollows u = false ∧ dataPlaneMode u.sup.mode ∧ u.fwd.ageS ≠ 0)
    (fun u =>
      let gone := dynamicKeys (aged u) u
      let v := removeDynamic (aged u) u
      forEach gone (fun k s => mirror 4 (enc [(2, k.1), (6, k.2.1)]) s) { v with fwd := { v.fwd with
        learnCtrs := Tbl.upd {} v.fwd.learnCtrs 4 (fun c => c.add64 gone.length) } }) ∧
  (∀ g i double, Takes (fun t => .tableScrub t g i double) (fun u => dataPlaneMode u.sup.mode) (tableCheckFails g i double)) ∧
  (∀ g i ok, Takes (fun t => .tableRepair t g i ok)
    (fun u => badOf g i u = some true ∧ dataPlaneMode u.sup.mode ∧ ctlHalted u = false)
    (fun u => tableErrorEvent g i 1 ok (if ok then setBad g i false u else u)))

/-- Chapters 12 and 13: the slots of the Truss, the resequencers and the transmitters take effect (R461 to R487, R501 to R516).
(the model's choices: log entries 183 to 193, log entries 194 to 209) -/
def Obligations.TrussAndEgressRun : Prop :=
  (∀ k slot d, Takes (fun t => .cellLaunch t k slot)
    (fun u => trussRuns u ∧ u.dp.slot ≤ slot ∧ (enterSlot slot u).dp.slotLaunched.contains k.val = false ∧
      launchChoice k ((k + slot) % 8) (enterSlot slot u) = some d)
    (fun u =>
      let v := enterSlot slot u
      launchCell k ((k + slot) % 8) d { v with dp := { v.dp with slotLaunched := k.val :: v.dp.slotLaunched } })) ∧
  (∀ m slot c, Takes (fun t => .planeTransfer t m slot 0)
    (fun u => trussRuns u ∧ u.dp.slot ≤ slot ∧ (enterSlot slot u).dp.slotSent.contains m.val = false ∧
      transferChoice m ((m + slot) % 8) slot (enterSlot slot u) = some c)
    (fun u =>
      let v := enterSlot slot u
      updDeck ((m + slot) % 8) (fun y => { y with arriving := y.arriving ++ [(c.pipe, c.cell)] })
        (updPlane m (fun y => { y with cells := y.cells.erase c })
          { v with dp := { v.dp with slotSent := m.val :: v.dp.slotSent } }))) ∧
  (∀ d k c rest, Takes (fun t => .cellArrival t d) (fun u => (deckOf d u).arriving = (k, c) :: rest ∧ trussRuns u)
    (fun u => reseqCell d k c (updDeck d (fun y => { y with arriving := rest }) u))) ∧
  (∀ d k h, Takes (fun t => .reseqTimeout t d k)
    (fun u => dataPlaneMode u.sup.mode ∧ ((reseqOf d k u).held.any fun h => decide (h.at0 + reseqHold ≤ u.elapsed)) ∧
      lowestHeld (reseqOf d k u) = some h)
    (fun u => skipTo d k h.cell.seq (updDeck d (fun y => { y with timeouts := y.timeouts.add64 1 }) u))) ∧
  (∀ p, Takes (fun t => .transmissionStart t p) (fun u => schedRuns p u ∧ (egressOf p u).sending = none)
    (fun u => startNext p (256 * u.tb.now) (256 * u.elapsed) u)) ∧
  (∀ p x, Takes (fun t => .transmissionEnd t p)
    (fun u => (egressOf p u).sending = some x ∧ x.endAt ≤ 256 * u.elapsed ∧ schedRuns p (endSending p u))
    (fun u => if 256 * u.elapsed < x.endAt + 512 then startNext p x.endTb x.endAt (endSending p u)
      else startNext p (256 * u.tb.now) (256 * u.elapsed) (endSending p u))) ∧
  Takes (fun t => .shaperRefill t) (fun u => refillDue u.dp.lastRefill u)
    (fun u => { u with dp := { u.dp with
      queue := (u.dp.queue.map fun p => (p.1, { p.2 with shaper := refillShaper u.elapsed p.2.shaper })).filter fun p => decide (p.2 ≠ {})
      egress := (u.dp.egress.map fun p => (p.1, { p.2 with shaper := refillShaper u.elapsed p.2.shaper })).filter fun p => decide (p.2 ≠ {})
      lastRefill := some u.tb.now } }) ∧
  (∀ p d, Takes (fun t => .evGateTakeover t p)
    (fun u => (egressOf p u).pend = some d ∧ u.tb.quality ≠ .unset ∧ d.takeover ≤ u.tb.now ∧ d.fromCommit = false)
    (fun u => switchGate p 0 false (u.tb.now - d.takeover) (d.list.map fun l => { l with takeover := d.takeover }) u)) ∧
  Takes (fun t => .samplePeriodEnd t)
    (fun u => dataPlaneMode u.sup.mode ∧ u.tb.now % usNs u.dp.sampleUs = 0 ∧ u.dp.lastSample ≠ some u.tb.now)
    (fun u => { u with dp := { u.dp with
      queue := (u.dp.queue.map fun p => (p.1, sampleQueue (u.dp.periods + 1) p.2)).filter fun p => decide (p.2 ≠ {})
      periods := u.dp.periods + 1
      lastSample := some u.tb.now } })

/-- Chapter 14: the join, the election, the split and what passes between the members take effect (R541 to R575).
(the model's choices: log entries 210 to 227) -/
def Obligations.SpanEventsRun : Prop :=
  Takes (fun t => .probeTimeout t) (fun u => u.span.state = .probe ∧ u.span.enteredAt + sNs 2 ≤ u.elapsed) (goAlone 0) ∧
  Takes (fun t => .aloneProbe t) (fun u => u.span.state = .alone ∧ u.span.probing = false ∧ u.span.probeAt + sNs 10 ≤ u.elapsed)
    (fun u => wakeJoint .active { u with span := { u.span with probing := true, probeAt := u.elapsed } }) ∧
  Takes (fun t => .aloneProbeEnd t) (fun u => u.span.state = .alone ∧ u.span.probing ∧ u.span.probeAt + msNs 25 ≤ u.elapsed)
    (fun u => wakeJoint .sleep { u with span := { u.span with probing := false } }) ∧
  Takes (fun t => .linkTimeout t) (fun u => u.span.state = .link ∧ u.span.enteredAt + sNs 12 ≤ u.elapsed) (goAlone 1) ∧
  Takes (fun t => .electionRoundTimeout t) (fun u => u.span.state = .elect ∧ u.span.roundAt + msNs 100 ≤ u.elapsed)
    (fun u => startRound (inc16 u.span.round) u) ∧
  (∀ c, Takes (fun t => .spanClaim t (some c)) (fun u => u.span.state = .elect ∧ c.round = u.span.round ∧ claimMismatch c u = none)
    (decideRound c)) ∧
  (∀ c k v, Takes (fun t => .spanClaim t (some c))
    (fun u => (u.span.state = .link ∨ u.span.state = .elect ∧ c.round = u.span.round) ∧ claimMismatch c u = some (k, v))
    (spanMismatch k v)) ∧
  (∀ round serial, Takes (fun t => .spanDecide t round serial) (fun u => u.span.state = .elect ∧ round.toNat = u.span.round)
    (takeRole serial.toNat false)) ∧
  (∀ off items, off.natAbs ≤ 20 → Takes (fun t => .syncComplete t off items) (fun u => u.span.state = .sync)
    (fun u => enterJoined items { u with span := { u.span with timeOffset := off } })) ∧
  Takes (fun t => .heartbeat t false) (fun u => spanJoined u) (sendVc0 .heartbeat) ∧
  Takes (fun t => .heartbeat t true) (fun u => spanJoined u ∧ heartbeatLost u = false)
    (fun u => { u with span := { u.span with heartbeatAt := u.elapsed } }) ∧
  Takes (fun t => .evSpanSplit t 2 false) (fun u => spanJoined u ∧ heldFor u.span.lowSince (msNs u.span.cfg.lossMs) u.elapsed)
    (splitAuto 2) ∧
  Takes (fun t => .evSpanSplit t 3 false) (fun u => spanJoined u ∧ heartbeatLost u) (splitAuto 3) ∧
  Takes (fun t => .evSpanSplit t 4 false) (fun u => spanJoined u) (splitAuto 4) ∧
  Takes (fun t => .evSpanSplit t 5 false) (fun u => spanJoined u) (splitAuto 5) ∧
  Takes (fun t => .evSpanSplit t 5 true) (fun _ => True) (quitJoin 5) ∧
  (∀ kind payload, Takes (fun t => .mirrorUpdate t kind payload) (fun u => spanFollows u)
    (fun u => countSpan 8 1 (applyMirror kind payload u))) ∧
  (∀ t s r, spanLeads (advance t s) → exec (.relayedMessage t r) s = .next (leaderTakes t r (advance t s))) ∧
  (∀ r, Takes (fun t => .relayedMessage t r) (fun u => spanLeads u = false ∧ spanFollows u) (followerTakes r)) ∧
  (∀ k d seq sop eop pkt, Takes (fun t => .remoteCell t k d seq sop eop pkt) (fun u => spanJoined u)
    (fun u => remoteCell k d ⟨seq.toNat, sop, eop, pkt⟩ (countSpan 2 1 u))) ∧
  (∀ k d h, Takes (fun t => .spanReseqTimeout t k d)
    (fun u => ((remoteOf k d u).held.any fun h => decide (h.at0 + usNs u.span.cfg.reseqUs ≤ u.elapsed)) ∧
      lowestRemote (remoteOf k d u) = some h)
    (fun u => skipRemoteTo k d h.cell.seq (countSpan 5 1 u))) ∧
  (∀ off quality, off.natAbs ≤ 20 → Takes (fun t => .spanTimingExchange t off quality) (fun u => followsTime u)
    (fun u => setQuality (Quality.ofCode quality)
      { u with span := { u.span with timeOffset := off, leaderQuality := Quality.ofCode quality } }))

/-- Chapter 15: the events of a DRAM channel take effect (R585 to R602). (the model's choices: log entries 228 to 232) -/
def Obligations.DramEventsRun : Prop :=
  (∀ c busy, Takes (fun t => .refresh t c busy)
    (fun u => chPowered c u ∧ (chan c u).stopped = false ∧ (chan c u).lastRefresh + refreshNs (chan c u) ≤ u.elapsed)
    (fun u => updChan c (fun y => { y with
      lastRefresh := u.elapsed
      postponed := if busy ∧ y.postponed < 4 then y.postponed + 1 else if busy then y.postponed else 0 }) u)) ∧
  (∀ temps, Takes (fun t => .tempRead t temps) (fun _ => True)
    (forEach ((List.range 4).zip temps) (fun e s => if chPowered e.1 s then evalSource 3 e.1 e.2 (readTemp e.1 e.2 s) else s))) ∧
  (∀ c ns sweep, Takes (fun t => .retrainSlice t c ns sweep)
    (fun u => dataPlaneMode u.sup.mode ∧ chPowered c u ∧ u.dbg.modeWrite ≠ some c.val ∧ sliceMayRun (chan c u) ns u.elapsed)
    (runSlice c sweep)) ∧
  (∀ c, Takes (fun t => .retrainWaitExpiry t c)
    (fun u => dataPlaneMode u.sup.mode ∧ (chan c u).retrainDue ∧ (chan c u).dueSince + sNs u.dram.retrainWaitS ≤ u.elapsed)
    (fun u => updChan c (fun y => { y with
      retrain := some { y.retrain.getD ⟨retrainPoints, false, false, u.elapsed⟩ with everyMs := true } }) u)) ∧
  (∀ c a, Takes (fun t => .retrainRepeat t c)
    (fun u => (chan c u).repeatAt = some a ∧ a ≤ u.elapsed ∧ dataPlaneMode u.sup.mode ∧ chPowered c u)
    (fun u => updChan c (fun y => { y with repeatAt := none, retrainDue := true, dueSince := u.elapsed }) u)) ∧
  (∀ c line status beats, Takes (fun t => .dramScrub t c line status beats)
    (fun u => climbOf u = none ∧ dataPlaneMode u.sup.mode ∧ chPowered c u ∧ u.dbg.modeWrite ≠ some c.val)
    (fun u => scrubStep c (line.toNat * 64) (scrubLine c (line.toNat * 64) status.val beats.toNat u))) ∧
  (∀ c region, Takes (fun t => .caAlert t c region false) (fun u => climbOf u = none ∧ chPowered c u)
    (fun u => updChan c (fun y => { y with stopped := true, caAlerts := y.caAlerts.add32 1 }) u)) ∧
  (∀ c, Takes (fun t => .alertNHigh t c) (fun u => chPowered c u ∧ (chan c u).stopped)
    (fun u => updChan c (fun y => { y with stopped := false, reissuing := true }) u)) ∧
  (∀ c r clean, Takes (fun t => .routeRepair t c clean)
    (fun u => (u.dram.repairs.find? fun r => r.channel == c.val) = some r ∧ dataPlaneMode u.sup.mode ∧ ctlHalted u = false)
    (finishRepair r clean)) ∧
  (∀ c, Takes (fun t => .copyRebuild t c) (fun u => dataPlaneMode u.sup.mode ∧ (chan c u).rebuild)
    (fun u => updChan c (fun y => { y with rebuild := false }) u))

/-- Chapter 17: the events of the field pins and of the converter take effect (R641 to R674).
(the model's choices: log entries 239 to 251) -/
def Obligations.FieldEventsRun : Prop :=
  (∀ pin mv, Takes (fun t => .fioInputChange t pin mv) (fun u => fieldRuns u)
    (fun u => updFio pin (movePin mv (settleInput pin u).elapsed (settleInput pin u).tb.now) (settleInput pin u))) ∧
  (∀ pin, Takes (fun t => .debounce t pin) (fun u => fieldRuns u) (settleInput pin)) ∧
  (∀ pin, Takes (fun t => .currentLimit t pin true) (fun u => fieldRuns u ∧ (fioOf pin u).mode = 3 ∧ (fioOf pin u).on)
    (fun u => updFio pin (fun p => retest u.elapsed
      { p with limitSince := some (p.limitSince.getD u.elapsed), retryAt := none }) u)) ∧
  (∀ pin, Takes (fun t => .currentLimit t pin false) (fun u => fieldRuns u ∧ (fioOf pin u).mode = 3 ∧ (fioOf pin u).on)
    (fun u => recoverOutput pin (updFio pin (fun p => retest u.elapsed { p with limitSince := none }) u))) ∧
  (∀ pin, Takes (fun t => .overcurrentLatch t pin) (fun u => fieldRuns u ∧ (fioOf pin u).mode = 3 ∧ (fioOf pin u).on ∧
      heldFor (fioOf pin u).limitSince (usNs 200) u.elapsed)
    (fun u => fioFault pin 0 (tallyAdd 7 1 (updFio pin (latchOff u.elapsed) u)))) ∧
  (∀ pin, Takes (fun t => .outputRetry t pin)
    (fun u => let p := fioOf pin u
      fieldRuns u ∧ p.mode = 3 ∧ p.latched ∧ p.retry ∧ p.on = false ∧ p.commanded ∧ driveOf p ∧ p.retryNum < retryInstant p u.elapsed)
    (fun u => updFio pin (fun p => { p with
      on := true
      retries := p.retries.add32 1
      retryNum := retryInstant p u.elapsed
      retryAt := some u.elapsed }) u)) ∧
  (∀ pin, Takes (fun t => .readbackConflict t pin)
    (fun u => fieldRuns u ∧ (fioOf pin u).conflict = false ∧ testHeld false (fioOf pin u) u.elapsed)
    (fun u => fioFault pin 1 (updFio pin (fun p => { p with
      conflict := true, conflictSticky := true, conflicts := p.conflicts.add32 1 }) u))) ∧
  (∀ pin, Takes (fun t => .conflictClear t pin)
    (fun u => fieldRuns u ∧ (fioOf pin u).conflict ∧ testHeld true (fioOf pin u) u.elapsed)
    (fun u => fioFault pin 3 (updFio pin (fun p => { p with conflict := false }) u))) ∧
  (∀ pin x, Takes (fun t => .pulseStart t pin)
    (fun u => (fioOf pin u).pulse = some x ∧ timerDue .fio x.timer u ∧ x.active = false)
    (fun u => setTimer x.timer { timerOf x.timer u with next := x.start + usNs x.widthUs }
      (updFio pin (fun p => redrive u.elapsed { p with pulse := some { x with active := true } }) u))) ∧
  (∀ pin x, Takes (fun t => .pulseEnd t pin) (fun u => (fioOf pin u).pulse = some x ∧ timerDue .fio x.timer u ∧ x.active)
    (fun u => setTimer x.timer {} (updFio pin (fun p => redrive u.elapsed { p with pulse := none }) u))) ∧
  (∀ low high, Takes (fun t => .vinConversion t low high) (fun u => adcRuns u)
    (fun u =>
      let r := vinResult u.io.vinPrev low.toNat high.toNat
      let v := takeSample 0 r (u.tb.now / usNs 100 * usNs 100) u
      { v with
        io := { v.io with vinPrev := some r.value.toNat }
        sup := { v.sup with vinMv := r.value.toNat, vinMinMv := min v.sup.vinMinMv r.value.toNat } })) ∧
  (∀ c openTest code value, c ≠ 0 → Takes (fun t => .adcConversion t c openTest code value) (fun u => adcRuns u ∧ adcEnabled c u)
    (fun u => takeSample c (adcResult c (adcOf c u) openTest code.toNat value u.freeCtr) (adcStart c u.tb.now)
      { u with freeCtr := u.freeCtr + 1 })) ∧
  (∀ g, Takes (fun t => .adcCapture t) (fun u => u.io.capture = some g ∧ timerDue .adc g u)
    (fun u => raise .adcCapture 0 ((List.range 7).flatMap fun c =>
        enc [(1, adcStatus c u), (1, adcFlags c u)] ++ beInt 4 (adcOf c u).value)
      (setTimer g (firedTimer (timerOf g u) u.tb.now) u))) ∧
  (∀ b, Takes (fun t => .uart0Cts t b) (fun _ => True)
    (fun u => releaseUart0 { u with io := { u.io with ext := setBit u.io.ext 1 (!b) } }))

/-- Chapters 18 and 19: the schedules and windows of the counters take effect (R718 to R733).
(the model's choices: log entries 269 to 275) -/
def Obligations.CounterEventsRun : Prop :=
  (∀ x, Takes (fun t => .snapshotScheduleFire t)
    (fun u => u.cnt.sched = some x ∧ timerDue .snapshot x.timer u ∧
      ch0Powered (setTimer x.timer (firedTimer (timerOf x.timer u) u.tb.now) u))
    (fun u => storeSnap (setTimer x.timer (firedTimer (timerOf x.timer u) u.tb.now) u))) ∧
  Takes (fun t => .bwWindowEnd t)
    (fun u => dataPlaneMode u.sup.mode ∧ u.cnt.bwStart + usNs u.cnt.bwWindowUs ≤ u.tb.now)
    (fun u => evalBw { endBwWindow false u with cnt := { (endBwWindow false u).cnt with
      bwStart := u.cnt.bwStart + usNs u.cnt.bwWindowUs } }) ∧
  (∀ n, Takes (fun t => .monitorWindowEnd t n) (fun u => monitorsRun u ∧ (monOf n u).kind = 1) (endMonWindow n)) ∧
  (∀ w k task pc, Takes (fun t => .perfOverflow t w k task pc)
    (fun u => let x := Tbl.get {} (coreDbg w u).perf k.val
      coreUp w u ∧ (coreDbg w u).halted = false ∧ (bitOf x.mask task.val ∨ x.event = 1) ∧ x.mode = 2)
    (fun u => updCore w (addSample k.val task.val pc.toNat u.tb.now) u)) ∧
  (∀ w k task pc, Takes (fun t => .perfOverflow t w k task pc)
    (fun u => let x := Tbl.get {} (coreDbg w u).perf k.val
      coreUp w u ∧ (coreDbg w u).halted = false ∧ (bitOf x.mask task.val ∨ x.event = 1) ∧ x.mode = 1)
    (fun u =>
      let x := Tbl.get {} (coreDbg w u).perf k.val
      updCore w (fun c => { c with perf := Tbl.set {} c.perf k.val { x with value := (x.value + 2 ^ 48) % 2 ^ 64 } }) u))

/-- Chapter 18: the instructions of the TAP and the operations of the debug access register take effect (R685 to R693, R710, R711).
(the model's choices: log entries 252 to 268) -/
def Obligations.DebugRowsRun : Prop :=
  let shift (f : State → State) (i : Nat → Instr) : Prop :=
    Takes i (fun u => u.dbg.opened ∧ u.dbg.tap = .dbg ∧ u.sup.mode ≠ .off) (fun u => f (emit (.tdo (captureField u.dbg)) u))
  let loads (ir : TapIr) (i : Nat → Instr) : Prop :=
    Takes i (fun u => u.sup.mode ≠ .off ∧ u.dbg.opened) (fun u => { u with dbg := { u.dbg with tap := ir } })
  loads .extest (fun t => .extest t) ∧ loads .clamp (fun t => .clamp t) ∧ loads .highz (fun t => .highz t) ∧
  loads .dbg (fun t => .dbg t) ∧
  Takes (fun t => .idcode t) (fun u => u.sup.mode ≠ .off)
    (fun u => emit (.tdo (idcode u)) { u with dbg := { u.dbg with tap := .idcode } }) ∧
  (∀ lands data, Takes (fun t => .samplePreload t lands data) (fun u => u.sup.mode ≠ .off)
    (fun u => emit (.tdo (flags lands)) { u with dbg := { u.dbg with tap := .sample, sampled := lands, boundary := data } })) ∧
  (∀ op, ownOpcode op.toNat = false → Takes (fun t => .bypass t op) (fun u => u.sup.mode ≠ .off)
    (fun u => { u with dbg := { u.dbg with tap := .bypass } })) ∧
  (∀ space addr, Takes (fun t => .debugRead t space addr)
    (fun u => u.dbg.opened ∧ u.dbg.tap = .dbg ∧ u.sup.mode ≠ .off ∧
      debugAllowed false space.val addr.toNat (emit (.tdo (captureField u.dbg)) u))
    (fun u =>
      let v := emit (.tdo (captureField u.dbg)) u
      let r := debugValue space.val addr.toNat v
      setResult false addr.toNat r.2 r.1)) ∧
  (∀ space addr data, space.val ≠ 3 → Takes (fun t => .debugWrite t space addr data)
    (fun u => u.dbg.opened ∧ u.dbg.tap = .dbg ∧ u.sup.mode ≠ .off ∧
      debugAllowed true space.val addr.toNat (emit (.tdo (captureField u.dbg)) u))
    (fun u => debugStore space.val addr.toNat data.toNat (setResult false addr.toNat 0 (emit (.tdo (captureField u.dbg)) u)))) ∧
  (∀ w seq left, shift (haltRequest w seq left 0x00) (fun t => .dbgHalt t w seq left)) ∧
  (∀ w, shift (resumeRequest w 0x04) (fun t => .dbgResume t w)) ∧ (∀ w, shift (stepRequest w 0x08) (fun t => .dbgStep t w)) ∧
  shift debugResetRequest (fun t => .debugReset t) ∧ shift debugFreezeRequest (fun t => .debugFreezeWrite t) ∧
  shift clearBroken (fun t => .clearLockBroken t) ∧
  (∀ w x since, Takes (fun t => .forcedHalt t w) (fun u => (coreDbg w u).pend = some (x, since) ∧ since + haltWaitNs ≤ u.elapsed)
    (breakLock w x)) ∧
  Takes (fun t => .debugAccessExpiry t) (fun u => u.dbg.opened ∧ u.dbg.endsAt ≤ u.elapsed) (closeDebug 1 0)

/-! ### The block: its queue, its reset, what every step keeps -/

/-- The command at the front of the queue runs, on the state with the queue's rest. -/
def Obligations.FrontCommandRuns : Prop :=
  ∀ c rest s, s.pending = c :: rest → step s = exec c { s with pending := rest }

/-- With no command waiting the block idles (the model's choice: log entry 1). -/
def Obligations.EmptyQueueIdles : Prop := ∀ s, s.pending = [] → step s = .next s

/-- Every command answers with a next state, whatever the state: none faults and none is refused. -/
def Obligations.EveryCommandAnswers : Prop := ∀ i s, ∃ v, exec i s = .next v

/-- The state after reset has the settings and registers that the tables of the spec give it, and holds no session, event, request,
stage or commit (that nothing is held, that the flash is erased, that the buffer is zero and that MODE reads 1 are the model's choices: log
entries 12, 13 and 277). -/
def Obligations.ResetValues : Prop :=
  let s := State.reset
  s.pending = [] ∧
  (s.sup.th.fullOn = 16000 ∧ s.sup.th.fullOff = 15000 ∧ s.sup.th.keepOn = 9000 ∧ s.sup.th.keepOff = 8400 ∧ s.sup.th.watchOn = 6600 ∧
    s.sup.th.watchOff = 6000) ∧
  (s.sup.target = .watch ∧ s.sup.lastCause = .powerOn ∧ s.sup.shedCount = 0 ∧ s.sup.rideMs = 10 ∧ s.sup.dwellS = 60) ∧
  (s.strike.surgeMv = 44000 ∧ s.strike.slewMv = 2000 ∧ s.strike.holdMs = 500 ∧ s.strike.sources = 7 ∧ s.strike.windows = 0) ∧
  (s.tb.stepCount = 0 ∧ s.tb.rtcLearn = true ∧ s.tb.use10m = false ∧ s.tb.stepNs = 1000000 ∧ s.tb.slewPpm = 100 ∧ s.tb.holdoverS = 3600 ∧
    s.tb.ppsWidthUs = 100000) ∧
  (s.kmp.uart0Baud = 9600 ∧ s.kmp.uart1Baud = 115200 ∧ s.kmp.udpPort = 47410 ∧ s.kmp.authRequired = 5 ∧ s.kmp.rxGapMs = 500) ∧
  (s.kmp.sessions = [] ∧ s.kmp.hold = [] ∧ s.kmp.waiting = [] ∧ s.kmp.stage = none ∧ s.kmp.committed = none) ∧
  (s.host.err = {} ∧ s.host.intCause = 0 ∧ s.host.intMask = 0 ∧ s.host.rings.enable = false ∧ s.host.rings.fault = 0 ∧
    s.host.rings.reqTail = 0 ∧ s.host.rings.rspHead = 0) ∧
  ((laneOf 0 s).cfg.impairEn = 3 ∧ (laneOf 0 s).cfg.cmMv = 150 ∧ (laneOf 0 s).cfg.burstMaxUs = 100) ∧
  ((portOf 0 s).maxFrame = 10240 ∧ (portOf 0 s).linkUpMs = 10 ∧ (portOf 0 s).linkDownUs = 200) ∧
  (s.fwd.protect = 0xFF ∧ s.fwd.labelBase = 16 ∧ s.fwd.ageS = 300) ∧
  (s.span.cfg.priority = 128 ∧ s.span.cfg.minLanes = 4 ∧ s.span.cfg.laneMask = 0xFFFF ∧ s.span.cfg.lossMs = 20) ∧
  (modeStatus s = 0x9 ∧ supplyStatus s = 0xFFFF0000 ∧ timeStatus s = 0) ∧
  (s.flash = [] ∧ s.host.buffer = [] ∧ s.cnt.nextSnapId = 1 ∧ s.cnt.bwWindowUs = 1000000)

/-- The memories of the state after reset are in canonical form (what they hold then is the model's choice: log entry 13). -/
def Obligations.ResetMemoryCanonical : Prop := Memory.wf State.reset = true

/-- Every step keeps the boot flash and the buffer of the host window in canonical form. -/
def Obligations.StepKeepsMemoryCanonical : Prop := ∀ s s', step s = .next s' → Memory.wf s = true → Memory.wf s' = true

/-- Every step takes one command off the queue and puts none on it, keeps the fused identity, and never puts the clock back. -/
def Obligations.StepKeepsQueueIdentityClock : Prop :=
  ∀ s s', step s = .next s' → s'.pending = s.pending.tail ∧ s'.ident = s.ident ∧ s.elapsed ≤ s'.elapsed

/-- No command changes the boot flash but those that program or erase it: the bank, baseline and record commands, a commit and what
ends it, and the steps of a boot that note an attempt or a verdict. -/
def Obligations.FlashChangedOnlyByItsWriters : Prop :=
  ∀ i s v, writesFlash i = false → exec i s = .next v → v.flash = s.flash

/-! ### The mailbox: the order of its checks -/

/-- R161: a session without the controlling role is refused every command that the index does not mark as Read, with E_READ_ONLY
and no other effect. -/
def Obligations.ReadOnlyRoleRefused : Prop :=
  ∀ i c q s x, requestOf i = some (c, q) → reaches c q s = true → cmdKnown c (advance q.t s) = true →
    findSession q.session (advance q.t s) = some x → x.controlling = false → c.row.control = true →
    TurnsAway c q i s .readOnly

/-- Steps 7 and 9 of R167: a request whose command the active baseline does not know is turned away as unknown; one of a session whose
role suffices, whose command the mode does not list, as not allowed in the mode. -/
def Obligations.UnknownAndModeRefused : Prop :=
  (∀ i c q s, requestOf i = some (c, q) → reaches c q s = true → cmdKnown c (advance q.t s) = false → TurnsAway c q i s .unknownCmd) ∧
  (∀ i c q s x, requestOf i = some (c, q) → reaches c q s = true → cmdKnown c (advance q.t s) = true →
    findSession q.session (advance q.t s) = some x → (c.row.control = true → x.controlling = true) →
    cmdInMode c (advance q.t s).sup.mode = false → TurnsAway c q i s .modeNotAllowed)

/-- R207: of a request that is heard and that no cached response answers, SEQ = H + 1,024 passes step 6 of R167; SEQ = H + 1,025 and
SEQ = H are refused there, with E_SEQ_WINDOW and no other effect than the arrival's. -/
def Obligations.SeqWindowEnds : Prop :=
  ∀ i c q s x, requestOf i = some (c, q) → heard c q s = true → (advance q.t s).boot.recovery = false → q.session ≠ 0 →
    findSession q.session (advance q.t s) = some x → q.auth = x.keySlot.isSome →
    cacheFind q.requestId (advance q.t s).elapsed (sessionCache x (advance q.t s)) = none →
    (advance q.t s).kmp.waiting.length < waitingMax →
    (q.seq = (x.h + 1024) % 65536 → arrive c.row.code q (takeRequest (if q.remote then advance q.t s else
        countRx q.transport (advance q.t s))) =
      .go x.h (updSession x.number (fun y => { y with h := q.seq }) (touchSession q x (counted c q s)))) ∧
    (q.seq = (x.h + 1025) % 65536 ∨ q.seq = x.h % 65536 →
      exec i s = .next (respond (replySession x) c.row.code q Err.seqWindow.code [] false (touchSession q x (counted c q s))))

/-- R174 and R175: a request whose ID its cache holds is not executed. The same request is answered from the cache with REPLAYED set, or
with E_STALE where its command is not Replayable; another request is refused with E_ID_REUSED. The cache is the session's, the one for
SESSION_OPEN, or recovery's (R166, R173). -/
def Obligations.DuplicatesAnswered : Prop :=
  (∀ i c q s x e, requestOf i = some (c, q) → heard c q s = true → (advance q.t s).boot.recovery = false → q.session ≠ 0 →
    findSession q.session (advance q.t s) = some x → q.auth = x.keySlot.isSome →
    cacheFind q.requestId (advance q.t s).elapsed (sessionCache x (advance q.t s)) = some e →
    exec i s = .next (repeated (replySession x) e c q (touchSession q x (counted c q s)))) ∧
  (∀ q s e, heard .sessionOpen q s = true → (advance q.t s).boot.recovery = false → q.session = 0 →
    cacheFind q.requestId (advance q.t s).elapsed (advance q.t s).kmp.openCache = some e →
    exec (.sessionOpen q) s = .next (repeated
      (match findSession (f2 e.response 0) (counted .sessionOpen q s) with
        | some y => if e.status = 0 then replySession y else replyOpen q (counted .sessionOpen q s)
        | none => replyOpen q (counted .sessionOpen q s)) e .sessionOpen q (counted .sessionOpen q s))) ∧
  (∀ i c q s e, requestOf i = some (c, q) → heard c q s = true → (advance q.t s).boot.recovery = true → q.session = 0 → q.auth = true →
    cacheFind q.requestId (advance q.t s).elapsed (advance q.t s).kmp.recoveryCache = some e →
    exec i s = .next (repeated (replyRecovery (counted c q s)) e c q (counted c q s)))

/-- An event raised outside Shelf takes the next sequence number and stands in the hold under its code and request, its payload beginning
with the seconds and nanoseconds of the time base (R178 to R180); the number after it is the next one. -/
def Obligations.RaisedEventIsHeld : Prop :=
  ∀ e id adds s, spanFollows s = false → tickNs s.sup.mode ≠ 0 →
    (raise e id adds s).kmp.eventSeq = (s.kmp.eventSeq + 1) % 65536 ∧
    (raise e id adds s).kmp.hold = holdPush
      ⟨s.kmp.eventSeq, e.code, id, be 6 (s.tb.now / 1000000000) ++ be 4 (s.tb.now % 1000000000) ++ adds⟩ s.kmp.hold ∧
    (raise e id adds s).kmp.sessions = s.kmp.sessions

/-! ### The host window: accesses that are not performed -/

/-- R225: the first logged access since the register was cleared is recorded in full and sets INT_CAUSE bit ACCESS; each further one sets
OVERFLOW and counts up to 255, and changes no other field and no cause. -/
def Obligations.AccessErrRecords : Prop :=
  ∀ kind path write width off s,
    (s.host.err.count = 0 →
      (logAccess kind path write width off s).host.err =
        { offset := BitVec.ofNat 16 off, kind := BitVec.ofNat 3 kind, path := decide (path = .spi), write := write,
          width := BitVec.ofNat 2 width, overflow := false, count := 1 } ∧
      (logAccess kind path write width off s).host.intCause = s.host.intCause ||| causeAccess) ∧
    (s.host.err.count ≠ 0 →
      (logAccess kind path write width off s).host.err =
        { s.host.err with overflow := true, count := BitVec.ofNat 8 (min 255 (s.host.err.count.toNat + 1)) } ∧
      (logAccess kind path write width off s).host.intCause = s.host.intCause)

/-- R223: no unaligned access is performed, by any row: a read returns 0xFF in every addressed byte, and reads and writes alike are
logged with KIND 2, and do nothing else. -/
def Obligations.UnalignedNotPerformed : Prop :=
  let reads (reg : Nat) (i : Nat → HostPath → Fin 4 → Width → Bool → Instr) : Prop :=
    ∀ path k w peek, Takes (fun t => i t path k w peek) (fun u => pathUp path u ∧ k.val % widthBytes w ≠ 0)
      (fun u => emit (.hostRead path (List.replicate (widthBytes w) 0xFF))
        (logAccess 2 path false (widthCode w) (regOffset reg k peek) u))
  let writes (reg : Nat) (i : Nat → HostPath → Fin 4 → Width → Bool → BitVec 32 → Instr) : Prop :=
    ∀ path k w peek data, Takes (fun t => i t path k w peek data) (fun u => pathUp path u ∧ k.val % widthBytes w ≠ 0)
      (logAccess 2 path true (widthCode w) (regOffset reg k peek))
  (∀ path off w uneven, Takes (fun t => .unalignedRead t path off w uneven)
    (fun u => pathUp path u ∧ (uneven ∨ off.toNat % widthBytes w ≠ 0))
    (fun u => emit (.hostRead path (List.replicate (widthBytes w) 0xFF)) (logAccess 2 path false (widthCode w) off.toNat u))) ∧
  (∀ path off w uneven data, Takes (fun t => .hostWindowWrite t path off w uneven data)
    (fun u => pathUp path u ∧ (uneven ∨ off.toNat % widthBytes w ≠ 0)) (logAccess 2 path true (widthCode w) off.toNat)) ∧
  (∀ path off w, Takes (fun t => .unmappedRead t path off w) (fun u => pathUp path u ∧ off.toNat % widthBytes w ≠ 0)
    (fun u => emit (.hostRead path (List.replicate (widthBytes w) 0xFF)) (logAccess 2 path false (widthCode w) off.toNat u))) ∧
  reads 0x0014 .supplyStatus ∧ reads 0x0024 .accessErr ∧ reads 0x0200 .timeLatch ∧ reads 0x0228 .fence ∧
  writes 0x0210 .takeSnapshot ∧ writes 0x0210 .armPps ∧ writes 0x0028 .intCause ∧ writes 0x002C .intMask ∧
  writes 0x0220 .quiesceReq ∧ writes 0x0100 .ringEnable ∧ writes 0x0100 .ringReset ∧ writes 0x0114 .reqTail ∧ writes 0x012C .rspHead

/-- R219: an aligned access of an offset below 0x8000 that holds no item: a read returns 0, a write is discarded, and both are logged with
KIND 3. -/
def Obligations.UnmappedAccessesLogged : Prop :=
  (∀ path off w, Takes (fun t => .unmappedRead t path off w)
    (fun u => pathUp path u ∧ off.toNat < 0x8000 ∧ off.toNat % widthBytes w = 0 ∧ windowWord path (off.toNat / 4 * 4) u = none)
    (fun u => emit (.hostRead path (List.replicate (widthBytes w) 0)) (logAccess 3 path false (widthCode w) off.toNat u))) ∧
  (∀ path off w data, Takes (fun t => .hostWindowWrite t path off w false data)
    (fun u => pathUp path u ∧ off.toNat < 0x8000 ∧ off.toNat % widthBytes w = 0 ∧ windowWord path (off.toNat / 4 * 4) u = none)
    (logAccess 3 path true (widthCode w) off.toNat))

/-! ### Refusals of the commands -/

/-- R54 to R56: MODE_SET is turned away below the ON threshold of the mode asked for, TARGET_MODE staying as it is; with MODE 4 or 5;
with MODE 2 or 3 in Freeze; and with MODE 0 where no wake source is enabled. -/
def Obligations.ModeSetRefusals : Prop :=
  Refuses .modeSet .modeSet
    (fun q u => q.payload.length = 4 ∧ f1 q.payload 0 ≤ 3 ∧ effMode u ≠ .freeze ∧ rank (effMode u) < f1 q.payload 0 ∧
      vinEff u < onMv (f1 q.payload 0) u) .modeVin ∧
  (∀ q s v, admitted .modeSet q s = true → q.payload.length = 4 → f1 q.payload 0 ≤ 3 → effMode (entered .modeSet q s) ≠ .freeze →
    rank (effMode (entered .modeSet q s)) < f1 q.payload 0 → vinEff (entered .modeSet q s) < onMv (f1 q.payload 0) (entered .modeSet q s) →
    exec (.modeSet q) s = .next v → v.sup.target = s.sup.target) ∧
  Refuses .modeSet .modeSet (fun q _ => q.payload.length = 4 ∧ (f1 q.payload 0 = 4 ∨ f1 q.payload 0 = 5)) .modeTarget ∧
  Refuses .modeSet .modeSet (fun q u => q.payload.length = 4 ∧ (f1 q.payload 0 = 2 ∨ f1 q.payload 0 = 3) ∧
    u.sup.mode = .freeze ∧ u.sup.transition = none) .modeFrozen ∧
  Refuses .modeSet .modeSet (fun q u => q.payload.length = 4 ∧ f1 q.payload 0 = 0 ∧ u.wake.sources = 0) .noWake

/-- R98, R101, R102: TIME_SET is turned away while the quality is locked unless FORCE is set, and an accepted one sets quality FREE; an
alarm at or below the RTC seconds is turned away; a timer that a module function holds is not released. -/
def Obligations.TimeRefusals : Prop :=
  Refuses .timeSet .timeSet (fun q u => q.payload.length = 12 ∧ tbFieldOk q.payload 0 ∧
    (u.tb.quality = .lockedPps ∨ u.tb.quality = .lockedPtp) ∧ bitOf (f1 q.payload 10) 0 = false) .timeSource ∧
  (∀ q s, admitted .timeSet q s = true → q.payload.length = 12 → tbFieldOk q.payload 0 →
    (bitOf (f1 q.payload 10) 0 ∨
      (entered .timeSet q s).tb.quality ≠ .lockedPps ∧ (entered .timeSet q s).tb.quality ≠ .lockedPtp) →
    Does (.timeSet q) s fun v => v.tb.quality = .free) ∧
  Refuses .rtcAlarmSet .rtcAlarmSet (fun q u => q.payload.length = 12 ∧
    (f4 q.payload 6 = 0 ∨ 60 ≤ f4 q.payload 6 ∧ f4 q.payload 6 ≤ 604800) ∧ field q.payload 0 6 ≠ 0 ∧
    field q.payload 0 6 ≤ rtcSeconds u) .alarmPast ∧
  Refuses .timerRelease .timerRelease (fun q u => q.payload.length = 1 ∧ f1 q.payload 0 ≤ 7 ∧
    (timerOf (f1 q.payload 0) u).owner ≠ .free ∧ (timerOf (f1 q.payload 0) u).owner ≠ .kmp) .timerBusy

/-- R62, R138, R203, R204, R360: a wake mask over an output, a RESTART that expects another boot, a stage of an unknown item type or of
more than 524,288 bytes, the cancelling of a stage whose commit is building, and the flushing of a link that is neither up nor holding are
turned away, with no other effect; a RESTART that expects this boot answers and then restarts. -/
def Obligations.OtherRefusals : Prop :=
  Refuses .wakeConfigSet .wakeConfigSet (fun q u => q.payload.length = 4 ∧ f1 q.payload 1 ≤ 1 ∧
    ∃ n, n < 8 ∧ (bitOf (f1 q.payload 2) n ∨ bitOf (f1 q.payload 3) n) ∧ (fioOf n u).mode = 3) .pinBusy ∧
  Refuses .restart .restart (fun q u => q.payload.length = 4 ∧ f4 q.payload 0 ≠ u.boot.bootCount) .stale ∧
  (∀ q s, admitted .restart q s = true → q.payload.length = 4 → f4 q.payload 0 = (entered .restart q s).boot.bootCount →
    exec (.restart q) s = .next (restartRun .restart
      (finish Cmd.restart.row.code q (findSession q.session (entered .restart q s)) true 0 [] (entered .restart q s)))) ∧
  Refuses .stageOpen .stageOpen (fun q u => f4 q.payload 0 ≠ 0 ∧ 1 ≤ f1 q.payload 8 ∧ f1 q.payload 8 ≤ 32 ∧
    q.payload.length = 12 + 8 * f1 q.payload 8 ∧ u.kmp.stage = none ∧
    ∃ x ∈ parts q.payload 12 8 (f1 q.payload 8), itemTypeOk (f2 x 0) = false) .stageItem ∧
  Refuses .stageOpen .stageOpen (fun q u => f4 q.payload 0 ≠ 0 ∧ 1 ≤ f1 q.payload 8 ∧ f1 q.payload 8 ≤ 32 ∧
    q.payload.length = 12 + 8 * f1 q.payload 8 ∧ u.kmp.stage = none ∧
    (∀ x ∈ parts q.payload 12 8 (f1 q.payload 8), itemTypeOk (f2 x 0) = true) ∧
    524288 < ((parts q.payload 12 8 (f1 q.payload 8)).map fun x => f4 x 4).sum) .stageSize ∧
  Refuses .stageCancel .stageCancel (fun q u => q.payload.length = 4 ∧ ∃ g, stageOf (f4 q.payload 0) u = some g ∧ g.phase = .building)
    .commitPending ∧
  Refuses .cwFlush .cwFlush (fun q u => q.payload.length = 4 ∧ f1 q.payload 0 ≤ 143 ∧ (laneOf (f1 q.payload 0) u).owner = .causeway ∧
    (linkOf (f1 q.payload 0) u).state ≠ .up ∧ (linkOf (f1 q.payload 0) u).state ≠ .hold) .cwNoHold
end

