-- ==== Sys2Proof/Laws/Frame.lean ====
section
/-! SUPPORT. Laws/Frame.lean: what the operations leave alone: the queue, the clock, the identity, the flash and the window's buffer. -/

namespace Sys2Proof.Laws
open Sys2Proof Sys2Proof.Machine

/-- What no operation touches but those that write it by name: the queue, the elapsed clock, the identity, the flash and the buffer of
the host window. -/
def fixed (s : State) : List Instr × Nat × Ident × Mem × Mem := (s.pending, s.elapsed, s.ident, s.flash, s.host.buffer)

/-- A command's own definition leaves that alone where it has an effect. -/
def FixedBody (s : State) (b : Body) : Prop := ∀ v r, b = .ok (v, r) → fixed v = fixed s

theorem fixed_mk (u : State)
    (sup sw wake strike vio clk rtc tb disc timers boot kmp host dig cnt dram lanes ports cls fwd dp cw span cap dbg io out freeCtr)
    (h : host.buffer = u.host.buffer) :
    fixed { pending := u.pending, elapsed := u.elapsed, ident := u.ident, sup, sw, wake, strike, vio, clk, rtc, tb, disc, timers, boot,
            flash := u.flash, kmp, host, dig, cnt, dram, lanes, ports, cls, fwd, dp, cw, span, cap, dbg, io, out, freeCtr } = fixed u := by
  simp only [fixed, h]

theorem fixed_ite (c : Prop) [Decidable c] (a b : State) : fixed (if c then a else b) = if c then fixed a else fixed b := by
  split <;> rfl

theorem fixedBody_ok (s v : State) (r : Reply) : FixedBody s (.ok (v, r)) = (fixed v = fixed s) :=
  propext ⟨fun h => h v r rfl, fun h v' r' e => by cases e; exact h⟩

theorem fixedBody_trans {s u : State} {b : Body} (h : fixed u = fixed s) (hb : FixedBody u b) : FixedBody s b :=
  fun v r e => (hb v r e).trans h

theorem fixedBody_error (s : State) (e : Err) : FixedBody s (.error e) = True := by
  simp only [FixedBody, reduceCtorEq, false_implies, implies_true]

theorem fixedBody_ite (s : State) (c : Prop) [Decidable c] (a b : Body) (ha : FixedBody s a) (hb : FixedBody s b) :
    FixedBody s (if c then a else b) := by
  split <;> assumption

theorem fixedBody_checks (s : State) (l : List (Bool × Err)) (k : Body) (h : FixedBody s k) : FixedBody s (checks l k) := by
  induction l with
  | nil => exact h
  | cons x l ih =>
    unfold checks
    split
    · exact ih
    · simp only [fixedBody_error]

theorem fixed_bodyState (b : Body) (s : State) (h : FixedBody s b) : fixed (bodyState b s) = fixed s := by
  unfold bodyState
  split
  · exact h _ _ rfl
  · rfl

theorem fixed_forEach {α : Type} (f : α → State → State) (hf : ∀ x s, fixed (f x s) = fixed s) (l : List α) (s : State) :
    fixed (forEach l f s) = fixed s := by
  unfold forEach
  induction l generalizing s with
  | nil => rfl
  | cons a l ih => rw [List.foldl_cons, ih, hf]

/-! ### The operations and the commands' own definitions, each after what it calls -/

theorem fixed_countEvt (ev scopes n s) : fixed (countEvt ev scopes n s) = fixed s := by
  unfold countEvt
  simp only [fixed_mk]

theorem fixed_updPortCtrs (p f s) : fixed (updPortCtrs p f s) = fixed s := by
  unfold updPortCtrs
  simp only [fixed_mk]

theorem fixed_countModeDrop (p s) : fixed (countModeDrop p s) = fixed s := by
  unfold countModeDrop
  simp only [fixed_countEvt, fixed_updPortCtrs]

theorem fixed_updDeck (d f s) : fixed (updDeck d f s) = fixed s := by
  unfold updDeck
  simp only [fixed_mk]

theorem fixed_deckFree (d cells desc entries s) : fixed (deckFree d cells desc entries s) = fixed s := by
  unfold deckFree
  simp only [fixed_updDeck]

theorem fixed_releaseRef (d id s) : fixed (releaseRef d id s) = fixed s := by
  unfold releaseRef
  (repeat' split) <;> simp only [fixed_deckFree, fixed_updDeck]

theorem fixed_updQueue (p q f s) : fixed (updQueue p q f s) = fixed s := by
  unfold updQueue
  simp only [fixed_mk]

theorem fixed_abandonAtPort (w p s) : fixed (abandonAtPort w p s) = fixed s := by
  unfold abandonAtPort
  simp only [fixed_countModeDrop, fixed_releaseRef, fixed_updQueue]

theorem fixed_logEvent (code seq adds s) : fixed (logEvent code seq adds s) = fixed s := by
  unfold logEvent
  simp only [fixed_mk, fixed_ite, ite_self]

theorem fixed_emit (o s) : fixed (emit o s) = fixed s := by
  unfold emit
  simp only [fixed_mk]

theorem fixed_sendVc0 (m s) : fixed (sendVc0 m s) = fixed s := by
  unfold sendVc0
  simp only [fixed_emit]

theorem fixed_raise (e reqId adds s) : fixed (raise e reqId adds s) = fixed s := by
  unfold raise
  simp only [fixed_mk, fixed_ite, ite_self, fixed_logEvent, fixed_sendVc0]

theorem fixed_modeRefused (m reqId s) : fixed (modeRefused m reqId s) = fixed s := by
  unfold modeRefused
  simp only [fixed_raise]

theorem fixed_setTransition (x s) : fixed (setTransition x s) = fixed s := by
  unfold setTransition
  simp only [fixed_mk]

theorem fixed_setClocks (s) : fixed (setClocks s) = fixed s := by
  unfold setClocks
  simp only [fixed_mk]

theorem fixed_updChan (c f s) : fixed (updChan c f s) = fixed s := by
  unfold updChan
  simp only [fixed_mk]

theorem fixed_loseCapture (s) : fixed (loseCapture s) = fixed s := by
  unfold loseCapture
  simp only [fixed_mk]

theorem fixed_loseCh0 (s) : fixed (loseCh0 s) = fixed s := by
  unfold loseCh0
  simp only [fixed_mk]

theorem fixed_channelsOff (cs s) : fixed (channelsOff cs s) = fixed s := by
  unfold channelsOff
  simp only [fixed_mk, fixed_ite, ite_self, fixed_forEach, implies_true, fixed_updChan, fixed_loseCapture, fixed_loseCh0]

theorem fixed_sendMsi (s) : fixed (sendMsi s) = fixed s := by
  unfold sendMsi
  simp only [fixed_mk, fixed_ite, ite_self, fixed_emit]

theorem fixed_setCause (bits s) : fixed (setCause bits s) = fixed s := by
  unfold setCause
  simp only [fixed_mk, fixed_ite, ite_self, fixed_sendMsi]

theorem fixed_setStage (g s) : fixed (setStage g s) = fixed s := by
  unfold setStage
  simp only [fixed_mk, fixed_ite, ite_self, fixed_setCause]

theorem fixed_writeCoreFlag (up quiesced s) : fixed (writeCoreFlag up quiesced s) = fixed s := by
  unfold writeCoreFlag
  simp only [fixed_mk, fixed_ite, ite_self, updHost, fixed_setCause]

theorem fixed_hostLinkEvent (up s) : fixed (hostLinkEvent up s) = fixed s := by
  unfold hostLinkEvent
  simp only [fixed_raise]

theorem fixed_noteQuiesced (s) : fixed (noteQuiesced s) = fixed s := by
  unfold noteQuiesced
  simp only [fixed_writeCoreFlag]

theorem fixed_ringsReset (s) : fixed (ringsReset s) = fixed s := by
  unfold ringsReset
  simp only [fixed_mk, updHost, fixed_noteQuiesced]

theorem fixed_pcieReset (s) : fixed (pcieReset s) = fixed s := by
  unfold pcieReset
  simp only [fixed_mk, fixed_ite, ite_self, updHost, fixed_noteQuiesced, fixed_ringsReset]

theorem fixed_hostLinkDown (s) : fixed (hostLinkDown s) = fixed s := by
  unfold hostLinkDown
  simp only [fixed_mk, fixed_ite, ite_self, updHost, fixed_hostLinkEvent, fixed_pcieReset]

theorem fixed_controlStops (s) : fixed (controlStops s) = fixed s := by
  unfold controlStops
  simp only [fixed_mk, fixed_setStage, fixed_writeCoreFlag, fixed_hostLinkDown]

theorem fixed_undoClimb (x s) : fixed (undoClimb x s) = fixed s := by
  unfold undoClimb
  simp only [fixed_mk, fixed_ite, ite_self, fixed_setTransition, fixed_setClocks, fixed_channelsOff, fixed_controlStops, fixed_setStage]

theorem fixed_abandonClimb (x s) : fixed (abandonClimb x s) = fixed s := by
  unfold abandonClimb
  simp only [fixed_modeRefused, fixed_undoClimb]

theorem fixed_abandonWrite (d w s) : fixed (abandonWrite d w s).2 = fixed s := by
  unfold abandonWrite
  dsimp only
  (repeat' split) <;> simp only [fixed_forEach, implies_true, fixed_updQueue, fixed_updDeck,
      fixed_deckFree]

theorem fixed_abandonWrites (p s) : fixed (abandonWrites p s) = fixed s := by
  unfold abandonWrites
  simp only [fixed_updDeck]

theorem fixed_updLane (l f s) : fixed (updLane l f s) = fixed s := by
  unfold updLane
  simp only [fixed_mk]

theorem fixed_endScan (aborted values s) : fixed (endScan aborted values s) = fixed s := by
  unfold endScan
  (repeat' split) <;> simp only [fixed_mk, fixed_updLane, fixed_raise]

theorem fixed_abortScan (l s) : fixed (abortScan l s) = fixed s := by
  unfold abortScan
  simp only [fixed_ite, ite_self, fixed_endScan]

theorem fixed_updEgress (p f s) : fixed (updEgress p f s) = fixed s := by
  unfold updEgress
  simp only [fixed_mk]

theorem fixed_endSending (p s) : fixed (endSending p s) = fixed s := by
  unfold endSending
  (repeat' split) <;> simp only [fixed_releaseRef, fixed_updQueue, fixed_updEgress]

theorem fixed_countLinkDrop (p s) : fixed (countLinkDrop p s) = fixed s := by
  unfold countLinkDrop
  simp only [fixed_countEvt, fixed_updPortCtrs]

theorem fixed_abortSending (p s) : fixed (abortSending p s) = fixed s := by
  unfold abortSending
  (repeat' split) <;> simp only [fixed_endSending, fixed_countLinkDrop]

theorem fixed_coldStart (s) : fixed (coldStart s) = fixed s := by
  unfold coldStart
  simp only [fixed_mk, fixed_raise]

theorem fixed_compareLevels (s) : fixed (compareLevels s) = fixed s := by
  unfold compareLevels
  simp only [fixed_mk]

theorem fixed_compareVin (s) : fixed (compareVin s) = fixed s := by
  unfold compareVin
  simp only [fixed_mk, fixed_compareLevels]

theorem fixed_setVin (mv s) : fixed (setVin mv s) = fixed s := by
  unfold setVin
  simp only [fixed_mk, fixed_ite, ite_self, fixed_compareVin]

theorem fixed_logAccess (kind p write width off s) : fixed (logAccess kind p write width off s) = fixed s := by
  unfold logAccess
  simp only [fixed_mk, fixed_ite, ite_self, updHost, fixed_setCause]

theorem fixed_takeSnap (cause s) : fixed (takeSnap cause s) = fixed s := by
  unfold takeSnap
  simp only [fixed_mk, fixed_setCause]

theorem fixed_baseRead (p o v s) : fixed (baseRead p o v s).1 = fixed s := by
  unfold baseRead
  (repeat' split) <;> simp only [fixed_mk, updHost, fixed_takeSnap]

theorem fixed_hostRead (p off w uneven s) : fixed (hostRead p off w uneven s) = fixed s := by
  unfold hostRead
  dsimp only
  (repeat' split) <;> simp only [fixed_emit, fixed_logAccess, fixed_baseRead]

theorem fixed_updSession (n f s) : fixed (updSession n f s) = fixed s := by
  unfold updSession
  simp only [fixed_mk]

theorem fixed_ackSession (n ack s) : fixed (ackSession n ack s) = fixed s := by
  unfold ackSession
  (repeat' split) <;> simp only [fixed_mk, fixed_ite, ite_self, fixed_updSession]

theorem fixed_updLink (l f s) : fixed (updLink l f s) = fixed s := by
  unfold updLink
  simp only [fixed_mk]

theorem fixed_queueCtrl (l ctype b s) : fixed (queueCtrl l ctype b s) = fixed s := by
  unfold queueCtrl
  simp only [fixed_updLink]

theorem fixed_sendAck (l s) : fixed (sendAck l s) = fixed s := by
  unfold sendAck
  simp only [fixed_updLink, fixed_queueCtrl]

theorem fixed_ackTo (l a s) : fixed (ackTo l a s) = fixed s := by
  unfold ackTo
  simp only [fixed_ite, ite_self, fixed_updLink]

theorem fixed_setTimer (n x s) : fixed (setTimer n x s) = fixed s := by
  unfold setTimer
  simp only [fixed_mk]

theorem fixed_applyIf (b f s) (hf : ∀ v, fixed (f v) = fixed v) : fixed (applyIf b f s) = fixed s := by
  unfold applyIf
  simp only [fixed_ite, ite_self, hf]

theorem fixed_startTout (n s) : fixed (startTout n s) = fixed s := by
  unfold startTout
  simp only [fixed_mk]

theorem fixed_takeTimer (o n start period s) : fixed (takeTimer o n start period s) = fixed s := by
  unfold takeTimer
  simp only [implies_true, fixed_setTimer, fixed_applyIf, fixed_startTout]

theorem fixed_adcCaptureSetBody (q s) : FixedBody s (adcCaptureSetBody q s) := by
  unfold adcCaptureSetBody
  dsimp only
  refine fixedBody_checks _ _ _ ?_
  split
  · split <;> simp only [okResp, fixedBody_ok, fixed_mk, fixed_setTimer]
  · refine fixedBody_checks _ _ _ ?_
    (repeat' split) <;> simp only [okResp, fixedBody_ok, fixedBody_error, fixed_mk, fixed_takeTimer]

theorem fixed_updAdc (n f s) : fixed (updAdc n f s) = fixed s := by
  unfold updAdc
  simp only [fixed_mk]

theorem fixed_applyAdcChan (c p off s) : fixed (applyAdcChan c p off s) = fixed s := by
  unfold applyAdcChan
  simp only [fixed_updAdc]

theorem fixed_applyAdcCfg (p off s) : fixed (applyAdcCfg p off s) = fixed s := by
  unfold applyAdcCfg
  simp only [fixed_forEach, implies_true, fixed_applyAdcChan]

theorem fixed_adcConfigSetBody (q s) : FixedBody s (adcConfigSetBody q s) := by
  unfold adcConfigSetBody
  simp only [fixedBody_ok, fixedBody_checks, okEmpty, fixed_applyAdcCfg]

theorem fixed_raiseIf (b e reqId adds s) : fixed (raiseIf b e reqId adds s) = fixed s := by
  unfold raiseIf
  simp only [fixed_ite, ite_self, fixed_raise]

theorem fixed_reportLimit (c n s) : fixed (reportLimit c n s) = fixed s := by
  unfold reportLimit
  simp only [fixed_ite, ite_self, fixed_raise, fixed_updAdc]

theorem fixed_updMon (n f s) : fixed (updMon n f s) = fixed s := by
  unfold updMon
  simp only [fixed_mk]

theorem fixed_evalMonitor (n v s) : fixed (evalMonitor n v s) = fixed s := by
  unfold evalMonitor
  simp only [fixed_raiseIf, fixed_updMon]

theorem fixed_evalSource (kind index v s) : fixed (evalSource kind index v s) = fixed s := by
  unfold evalSource
  simp only [fixed_ite, ite_self, fixed_forEach, implies_true, fixed_evalMonitor]

theorem fixed_takeSample (c r at0 s) : fixed (takeSample c r at0 s) = fixed s := by
  unfold takeSample
  simp only [fixed_ite, ite_self, fixed_updAdc, fixed_raiseIf, fixed_reportLimit, fixed_evalSource]

theorem fixed_bumpFree (s) : fixed (bumpFree s) = fixed s := by
  unfold bumpFree
  simp only [fixed_mk]

theorem fixed_bumpTimes (n) (s) : fixed (bumpTimes n s) = fixed s := by
  unfold bumpTimes
  simp only [fixed_mk]

theorem fixed_adcReadBody (q s) : FixedBody s (adcReadBody q s) := by
  unfold adcReadBody
  simp only [fixedBody_ok, fixedBody_checks, okResp]

theorem fixed_addSession (x s) : fixed (addSession x s) = fixed s := by
  unfold addSession
  simp only [fixed_mk]

theorem fixed_updPort (p f s) : fixed (updPort p f s) = fixed s := by
  unfold updPort
  simp only [fixed_mk]

theorem fixed_adjustPort (n p s) : fixed (adjustPort n p s) = fixed s := by
  unfold adjustPort
  simp only [fixed_updPort]

theorem fixed_countAdmit (p q i n s) : fixed (countAdmit p q i n s) = fixed s := by
  unfold countAdmit
  simp only [fixed_updQueue]

theorem fixed_countRefusal (p q i s) : fixed (countRefusal p q i s) = fixed s := by
  unfold countRefusal
  simp only [fixed_countEvt, fixed_countAdmit]

theorem fixed_deckExhausted (d res s) : fixed (deckExhausted d res s) = fixed s := by
  unfold deckExhausted
  simp only [fixed_mk, fixed_ite, ite_self, fixed_updDeck, fixed_raise]

theorem fixed_refuse (x p i r taken s) : fixed (refuse x p i r taken s) = fixed s := by
  unfold refuse
  simp only [fixed_ite, ite_self, fixed_countRefusal, fixed_deckExhausted]

theorem fixed_admitQueues (x r ps passed s) : fixed (admitQueues x r ps passed s).2 = fixed s := by
  induction ps generalizing passed s with
  | nil => rfl
  | cons p ps ih =>
    unfold admitQueues
    split
    · exact ih _ _
    · rw [ih, fixed_refuse]

theorem fixed_cwWide (l n k s) : fixed (cwWide l n k s) = fixed s := by
  unfold cwWide
  simp only [fixed_updLink]

theorem fixed_advanceE (l s) : fixed (advanceE l s) = fixed s := by
  unfold advanceE
  simp only [fixed_cwWide, fixed_updLink]

theorem fixed_advanceTags (p q f s) : fixed (advanceTags p q f s) = fixed s := by
  unfold advanceTags
  simp only [fixed_ite, ite_self, fixed_updEgress, fixed_updQueue]

theorem fixed_afterBody (b : Body) (s : State) (h : FixedBody s b) : fixed (afterBody b s) = fixed s := by
  unfold afterBody
  split
  · exact h _ _ rfl
  · rfl

theorem fixed_afterIntWrite (s) : fixed (afterIntWrite s) = fixed s := by
  unfold afterIntWrite
  simp only [fixed_ite, ite_self, fixed_sendMsi]

theorem fixed_removeDynamic (gone s) : fixed (removeDynamic gone s) = fixed s := by
  unfold removeDynamic
  simp only [fixed_mk]

theorem fixed_dropCrossing (s) : fixed (dropCrossing s) = fixed s := by
  unfold dropCrossing
  simp only [fixed_mk, fixed_forEach, implies_true, fixed_countModeDrop]

theorem fixed_countSpan (i n s) : fixed (countSpan i n s) = fixed s := by
  unfold countSpan
  simp only [fixed_mk]

theorem fixed_enterJoin (j s) : fixed (enterJoin j s) = fixed s := by
  unfold enterJoin
  simp only [fixed_mk]

theorem fixed_learnTrim (off s) : fixed (learnTrim off s) = fixed s := by
  unfold learnTrim
  (repeat' split) <;> simp only [fixed_mk, fixed_ite, ite_self, fixed_raise]

theorem fixed_dropHead (p q id s) : fixed (dropHead p q id s) = fixed s := by
  unfold dropHead
  simp only [fixed_releaseRef, fixed_updQueue]

theorem fixed_oversizeEvent (p q l window s) : fixed (oversizeEvent p q l window s) = fixed s := by
  unfold oversizeEvent
  simp only [fixed_ite, ite_self, fixed_updQueue, fixed_raise]

theorem fixed_countTx (p q i n s) : fixed (countTx p q i n s) = fixed s := by
  unfold countTx
  simp only [fixed_updQueue]

theorem fixed_settleHead (n p q s) : fixed (settleHead n p q s) = fixed s := by
  induction n generalizing s with
  | zero => rfl
  | succ n ih =>
    unfold settleHead
    dsimp only
    (repeat' split) <;> simp only [ih, fixed_updPortCtrs, fixed_dropHead, fixed_oversizeEvent, fixed_countTx]

theorem fixed_settleQueue (p q s) : fixed (settleQueue p q s) = fixed s := by
  unfold settleQueue
  simp only [fixed_settleHead]

theorem fixed_switchGate (p source late lateNs list s) : fixed (switchGate p source late lateNs list s) = fixed s := by
  unfold switchGate
  simp only [fixed_ite, ite_self, fixed_forEach, implies_true, fixed_updEgress, fixed_settleQueue, fixed_raise]

theorem fixed_takeoverDue (p late s) : fixed (takeoverDue p late s) = fixed s := by
  unfold takeoverDue
  (repeat' split) <;> simp only [fixed_switchGate]

theorem fixed_takeoversLate (s) : fixed (takeoversLate s) = fixed s := by
  unfold takeoversLate
  simp only [fixed_forEach, implies_true, fixed_takeoverDue]

theorem fixed_setQuality (q s) : fixed (setQuality q s) = fixed s := by
  unfold setQuality
  (repeat' split) <;> simp only [fixed_mk, fixed_learnTrim, fixed_setCause, fixed_raise, fixed_takeoversLate]

theorem fixed_reselect (s) : fixed (reselect s) = fixed s := by
  unfold reselect
  (repeat' split) <;> simp only [fixed_mk, fixed_setQuality]

theorem fixed_looseTime (s) : fixed (looseTime s) = fixed s := by
  unfold looseTime
  simp only [fixed_mk, fixed_ite, ite_self, fixed_reselect, fixed_setQuality]

theorem fixed_enterMode (m c s) : fixed (enterMode m c s) = fixed s := by
  unfold enterMode
  simp only [fixed_mk, fixed_setCause]

theorem fixed_endSession (n cause reqId s) : fixed (endSession n cause reqId s) = fixed s := by
  unfold endSession
  simp only [fixed_mk, fixed_raise]

theorem fixed_splitMailbox (leads s) : fixed (splitMailbox leads s) = fixed s := by
  unfold splitMailbox
  simp only [fixed_mk, fixed_ite, ite_self, fixed_forEach, implies_true, fixed_endSession]

theorem fixed_cwEnter (l st cause s) : fixed (cwEnter l st cause s) = fixed s := by
  unfold cwEnter
  simp only [fixed_ite, ite_self, fixed_updLink, fixed_raise]

theorem fixed_refreshRef (l s) : fixed (refreshRef l s) = fixed s := by
  unfold refreshRef
  simp only [fixed_mk]

theorem fixed_prbsStop (l s) : fixed (prbsStop l s) = fixed s := by
  unfold prbsStop
  simp only [fixed_updLane]

theorem fixed_lineDown (l s) : fixed (lineDown l s) = fixed s := by
  unfold lineDown
  simp only [fixed_ite, ite_self, fixed_updLink]

theorem fixed_alignEvent (l locked s) : fixed (alignEvent l locked s) = fixed s := by
  unfold alignEvent
  simp only [fixed_raise]

theorem fixed_alignTo (l st s) : fixed (alignTo l st s) = fixed s := by
  unfold alignTo
  simp only [fixed_ite, ite_self, fixed_updLane, fixed_lineDown, fixed_alignEvent]

theorem fixed_rxLockEvent (l locked warm s) : fixed (rxLockEvent l locked warm s) = fixed s := by
  unfold rxLockEvent
  simp only [fixed_ite, ite_self, fixed_raise, fixed_updLane]

theorem fixed_loseCdr (l s) : fixed (loseCdr l s) = fixed s := by
  unfold loseCdr
  simp only [fixed_ite, ite_self, fixed_updLane, fixed_abortScan, fixed_prbsStop, fixed_alignTo, fixed_rxLockEvent]

theorem fixed_rxActivate (l warm s) : fixed (rxActivate l warm s) = fixed s := by
  unfold rxActivate
  simp only [fixed_updLane]

theorem fixed_setRx (l h s) : fixed (setRx l h s) = fixed s := by
  unfold setRx
  dsimp only
  (repeat' split) <;> simp only [fixed_refreshRef, fixed_updLane, fixed_loseCdr, fixed_rxActivate]

theorem fixed_setTx (l h s) : fixed (setTx l h s) = fixed s := by
  unfold setTx
  dsimp only
  (repeat' split) <;> simp only [fixed_refreshRef, fixed_updLane]

theorem fixed_ownLane (l o rate s) : fixed (ownLane l o rate s) = fixed s := by
  unfold ownLane
  simp only [fixed_setRx, fixed_setTx, fixed_updLane]

theorem fixed_startLink (l s) : fixed (startLink l s) = fixed s := by
  unfold startLink
  simp only [fixed_ite, ite_self, fixed_cwEnter, fixed_ownLane, fixed_updLane]

theorem fixed_formJoint (l s) : fixed (formJoint l s) = fixed s := by
  unfold formJoint
  simp only [fixed_startLink, fixed_updLink]

theorem fixed_takeLanes (ls s) : fixed (takeLanes ls s) = fixed s := by
  unfold takeLanes
  simp only [fixed_ite, ite_self, fixed_forEach, implies_true, fixed_formJoint]

theorem fixed_enterProbe (s) : fixed (enterProbe s) = fixed s := by
  unfold enterProbe
  simp only [fixed_ite, ite_self, fixed_takeLanes, fixed_enterJoin]

theorem fixed_cwNarrow (l n k s) : fixed (cwNarrow l n k s) = fixed s := by
  unfold cwNarrow
  simp only [fixed_updLink]

theorem fixed_mirror (kind payload s) : fixed (mirror kind payload s) = fixed s := by
  unfold mirror
  simp only [fixed_ite, ite_self, fixed_countSpan, fixed_sendVc0]

theorem fixed_flushOnDown (p s) : fixed (flushOnDown p s) = fixed s := by
  unfold flushOnDown
  simp only [fixed_ite, ite_self, fixed_mirror, fixed_removeDynamic]

theorem fixed_cwHoldEvent (l action packets bytes us s) : fixed (cwHoldEvent l action packets bytes us s) = fixed s := by
  unfold cwHoldEvent
  simp only [fixed_raise]

theorem fixed_cwFlush (l modeChange s) : fixed (cwFlush l modeChange s) = fixed s := by
  unfold cwFlush
  simp only [fixed_ite, ite_self, fixed_cwNarrow, fixed_cwWide, fixed_countEvt, fixed_updLink, fixed_updPortCtrs,
      fixed_flushOnDown, fixed_cwHoldEvent]

theorem fixed_lanesOff (l s) : fixed (lanesOff l s) = fixed s := by
  unfold lanesOff
  simp only [fixed_setRx, fixed_setTx]

theorem fixed_freeLane (l s) : fixed (freeLane l s) = fixed s := by
  unfold freeLane
  simp only [fixed_updLane, fixed_lanesOff]

theorem fixed_releaseLink (l s) : fixed (releaseLink l s) = fixed s := by
  unfold releaseLink
  simp only [fixed_ite, ite_self, fixed_cwEnter, fixed_cwFlush, fixed_updLink, fixed_freeLane]

theorem fixed_releaseLanes (ls s) : fixed (releaseLanes ls s) = fixed s := by
  unfold releaseLanes
  simp only [fixed_forEach, implies_true, fixed_releaseLink]

theorem fixed_splitJoin (cause seek s) : fixed (splitJoin cause seek s) = fixed s := by
  unfold splitJoin
  simp only [fixed_mk, fixed_ite, ite_self, fixed_removeDynamic, fixed_dropCrossing, fixed_countSpan, fixed_enterJoin, fixed_looseTime,
      fixed_enterMode, fixed_raise, fixed_splitMailbox, fixed_enterProbe, fixed_releaseLanes]

theorem fixed_quitJoin (cause s) : fixed (quitJoin cause s) = fixed s := by
  unfold quitJoin
  (repeat' split) <;> simp only [fixed_mk, fixed_splitJoin, fixed_enterJoin, fixed_looseTime, fixed_releaseLanes]

theorem fixed_leaveJoin (cause byCommand s) : fixed (leaveJoin cause byCommand s) = fixed s := by
  unfold leaveJoin
  simp only [fixed_ite, ite_self, fixed_quitJoin, fixed_sendVc0]

theorem fixed_modeChanged (old new c reqId s) : fixed (modeChanged old new c reqId s) = fixed s := by
  unfold modeChanged
  simp only [fixed_raise]

theorem fixed_shedDone (old new c s) : fixed (shedDone old new c s) = fixed s := by
  unfold shedDone
  simp only [fixed_mk, fixed_raise]

theorem fixed_stepReported (old new c reqId s) : fixed (stepReported old new c reqId s) = fixed s := by
  unfold stepReported
  (repeat' split) <;> simp only [fixed_modeChanged, fixed_shedDone]

theorem fixed_leaveSpan (c reqId s) : fixed (leaveSpan c reqId s) = fixed s := by
  unfold leaveSpan
  simp only [fixed_mk, fixed_leaveJoin, fixed_stepReported]

theorem fixed_startTransition (dst cause reqId s) : fixed (startTransition dst cause reqId s) = fixed s := by
  unfold startTransition
  simp only [fixed_mk, fixed_setCause]

theorem fixed_startDown (c reqId s) : fixed (startDown c reqId s) = fixed s := by
  unfold startDown
  (repeat' split) <;> simp only [fixed_leaveSpan, fixed_startTransition, fixed_leaveJoin]

theorem fixed_holdLow (s) : fixed (holdLow s) = fixed s := by
  unfold holdLow
  simp only [fixed_startDown, fixed_raise]

theorem fixed_startClimb (dst c reqId s) : fixed (startClimb dst c reqId s) = fixed s := by
  unfold startClimb
  simp only [fixed_mk, fixed_setStage, fixed_startTransition]

theorem fixed_commandUp (d s) : fixed (commandUp d s) = fixed s := by
  unfold commandUp
  simp only [fixed_mk, fixed_ite, ite_self, fixed_startClimb]

theorem fixed_commandOn (s) : fixed (commandOn s) = fixed s := by
  unfold commandOn
  (repeat' split) <;> simp only [fixed_mk, fixed_startDown, fixed_modeRefused, fixed_commandUp]

theorem fixed_freezeTrigger (cause reqId s) : fixed (freezeTrigger cause reqId s) = fixed s := by
  unfold freezeTrigger
  (repeat' split) <;> simp only [fixed_mk, fixed_startTransition]

theorem fixed_storedFreeze (s) : fixed (storedFreeze s) = fixed s := by
  unfold storedFreeze
  (repeat' split) <;> simp only [fixed_mk, fixed_freezeTrigger, fixed_raise]

theorem fixed_afterStep (s) : fixed (afterStep s) = fixed s := by
  unfold afterStep
  simp only [fixed_ite, ite_self, fixed_holdLow, fixed_commandOn, fixed_storedFreeze]

theorem fixed_dramLog (c region kind frz repaired source beats off s) : fixed (dramLog c region kind frz repaired source beats off s) = fixed s := by
  unfold dramLog
  simp only [fixed_mk]

theorem fixed_loseCounters (s) : fixed (loseCounters s) = fixed s := by
  unfold loseCounters
  simp only [fixed_mk, fixed_bumpFree]

theorem fixed_takeIncarnation (l s) : fixed (takeIncarnation l s) = fixed s := by
  unfold takeIncarnation
  simp only [fixed_updLink]

theorem fixed_cwRestart (l cause s) : fixed (cwRestart l cause s) = fixed s := by
  unfold cwRestart
  simp only [fixed_ite, ite_self, fixed_cwEnter, fixed_takeIncarnation]

theorem fixed_dropHeldPacket (l n s) : fixed (dropHeldPacket l n s) = fixed s := by
  unfold dropHeldPacket
  simp only [fixed_cwWide, fixed_updLink]

theorem fixed_loseHeld (s0) : fixed (loseHeld s0) = fixed s0 := by
  unfold loseHeld
  simp only [fixed_ite, ite_self, fixed_bumpFree, fixed_cwRestart, fixed_cwFlush, fixed_dropHeldPacket]

theorem fixed_damageCapture (s) : fixed (damageCapture s) = fixed s := by
  unfold damageCapture
  simp only [fixed_mk, fixed_bumpFree]

theorem fixed_ownerAction (region off s) : fixed (ownerAction region off s) = fixed s := by
  unfold ownerAction
  (repeat' split) <;> simp only [fixed_mk, fixed_loseCounters, fixed_loseHeld, fixed_damageCapture]

theorem fixed_ownerAfterCommand (region s) : fixed (ownerAfterCommand region s) = fixed s := by
  unfold ownerAfterCommand
  simp only [fixed_ownerAction, fixed_bumpFree]

theorem fixed_dramFreeze (c region kind source beats off s) : fixed (dramFreeze c region kind source beats off s) = fixed s := by
  unfold dramFreeze
  simp only [fixed_freezeTrigger, fixed_raise, fixed_dramLog]

theorem fixed_dramReport (c region kind frz repaired source beats off s) : fixed (dramReport c region kind frz repaired source beats off s) = fixed s := by
  unfold dramReport
  simp only [fixed_raise, fixed_dramLog]

theorem fixed_caFailed (c region s) : fixed (caFailed c region s) = fixed s := by
  unfold caFailed
  simp only [fixed_ite, ite_self, fixed_updChan, fixed_dramLog, fixed_ownerAfterCommand, fixed_dramFreeze, fixed_dramReport]

theorem fixed_alertOn (c region again s) : fixed (alertOn c region again s) = fixed s := by
  unfold alertOn
  simp only [fixed_ite, ite_self, fixed_updChan, fixed_caFailed]

theorem fixed_takeRoom (d cells entries s) : fixed (takeRoom d cells entries s) = fixed s := by
  unfold takeRoom
  simp only [fixed_updDeck]

theorem fixed_reserveEntry (p q s) : fixed (reserveEntry p q s) = fixed s := by
  unfold reserveEntry
  simp only [fixed_updQueue]

theorem fixed_countAdmitted (x p s) : fixed (countAdmitted x p s) = fixed s := by
  unfold countAdmitted
  simp only [fixed_countEvt, fixed_countAdmit, fixed_reserveEntry]

theorem fixed_allot (d x s) : fixed (allot d x s).2 = fixed s := by
  unfold allot
  dsimp only
  (repeat' split) <;> simp only [fixed_mk, fixed_forEach, implies_true, fixed_admitQueues, fixed_deckExhausted,
      fixed_countRefusal, fixed_takeRoom, fixed_updDeck, fixed_countAdmitted]

theorem fixed_wakeJoint (h s) : fixed (wakeJoint h s) = fixed s := by
  unfold wakeJoint
  simp only [fixed_forEach, implies_true, fixed_setRx]

theorem fixed_relayMsg (r s) : fixed (relayMsg r s) = fixed s := by
  unfold relayMsg
  simp only [fixed_countSpan, fixed_sendVc0]

theorem fixed_updTransportCtrs (n f s) : fixed (updTransportCtrs n f s) = fixed s := by
  unfold updTransportCtrs
  simp only [fixed_mk]

theorem fixed_uart0Send (d m s) : fixed (uart0Send d m s) = fixed s := by
  unfold uart0Send
  simp only [fixed_mk, fixed_ite, ite_self, fixed_emit]

theorem fixed_sendLocal (d m s) : fixed (sendLocal d m s) = fixed s := by
  unfold sendLocal
  (repeat' split) <;> simp only [fixed_mk, fixed_updTransportCtrs, fixed_emit, fixed_uart0Send]

theorem fixed_sendMsg (d m s) : fixed (sendMsg d m s) = fixed s := by
  unfold sendMsg
  simp only [fixed_ite, ite_self, fixed_relayMsg, fixed_sendLocal]

theorem fixed_respond (x code q status payload replayed s) : fixed (respond x code q status payload replayed s) = fixed s := by
  unfold respond
  simp only [fixed_sendMsg]

theorem fixed_answerDuplicate (x e code q s) : fixed (answerDuplicate x e code q s) = fixed s := by
  unfold answerDuplicate
  simp only [fixed_ite, ite_self, fixed_respond]

theorem fixed_configLoaded (sec s) : fixed (configLoaded sec s) = fixed s := by
  unfold configLoaded
  simp only [fixed_raise]

theorem fixed_setSlot (n x s) : fixed (setSlot n x s) = fixed s := by
  unfold setSlot
  simp only [fixed_mk]

theorem fixed_keyChanged (n action source s) : fixed (keyChanged n action source s) = fixed s := by
  unfold keyChanged
  simp only [fixed_raise]

theorem fixed_loadSlot (p srcCode evSource s) : fixed (loadSlot p srcCode evSource s) = fixed s := by
  unfold loadSlot
  simp only [fixed_keyChanged, fixed_setSlot]

theorem fixed_restoreSlot (items n s) : fixed (restoreSlot items n s) = fixed s := by
  unfold restoreSlot
  (repeat' split) <;> simp only [fixed_setSlot, fixed_loadSlot]

theorem fixed_restoreSlots (items s) : fixed (restoreSlots items s) = fixed s := by
  unfold restoreSlots
  simp only [fixed_forEach, implies_true, fixed_restoreSlot]

theorem fixed_setVlan (p s) : fixed (setVlan p s) = fixed s := by
  unfold setVlan
  simp only [fixed_mk, fixed_ite, ite_self, fixed_removeDynamic]

theorem fixed_setFwd (p s) : fixed (setFwd p s) = fixed s := by
  unfold setFwd
  simp only [fixed_mk]

theorem fixed_setPortLearn (p s) : fixed (setPortLearn p s) = fixed s := by
  unfold setPortLearn
  simp only [fixed_mk]

theorem fixed_applyFwdItem (b s) : fixed (applyFwdItem b s) = fixed s := by
  unfold applyFwdItem
  simp only [fixed_forEach, implies_true, fixed_setVlan, fixed_setFwd, fixed_setPortLearn]

theorem fixed_updPunt (c f s) : fixed (updPunt c f s) = fixed s := by
  unfold updPunt
  simp only [fixed_mk]

theorem fixed_setPunt (p s) : fixed (setPunt p s) = fixed s := by
  unfold setPunt
  simp only [fixed_mk, fixed_forEach, implies_true, fixed_updPunt]

theorem fixed_setPortClass (p s) : fixed (setPortClass p s) = fixed s := by
  unfold setPortClass
  simp only [fixed_mk]

theorem fixed_applyClassItem (b s) : fixed (applyClassItem b s) = fixed s := by
  unfold applyClassItem
  simp only [fixed_mk, fixed_forEach, implies_true, fixed_setPunt, fixed_setPortClass]

theorem fixed_updMeter (m f s) : fixed (updMeter m f s) = fixed s := by
  unfold updMeter
  simp only [fixed_mk]

theorem fixed_applyMeterItem (b s) : fixed (applyMeterItem b s) = fixed s := by
  unfold applyMeterItem
  simp only [fixed_forEach, implies_true, fixed_updMeter]

theorem fixed_setDeckQueue (p s) : fixed (setDeckQueue p s) = fixed s := by
  unfold setDeckQueue
  simp only [fixed_forEach, implies_true, fixed_updQueue]

theorem fixed_applyDeckItem (b s) : fixed (applyDeckItem b s) = fixed s := by
  unfold applyDeckItem
  simp only [fixed_forEach, implies_true, fixed_setDeckQueue]

theorem fixed_setSched (p s) : fixed (setSched p s) = fixed s := by
  unfold setSched
  simp only [fixed_forEach, implies_true, fixed_updEgress, fixed_updQueue]

theorem fixed_setEgressCfg (p s) : fixed (setEgressCfg p s) = fixed s := by
  unfold setEgressCfg
  simp only [fixed_mk]

theorem fixed_applySchedItem (b s) : fixed (applySchedItem b s) = fixed s := by
  unfold applySchedItem
  simp only [fixed_forEach, implies_true, fixed_setSched, fixed_setEgressCfg]

theorem fixed_applyGateItem (b late lateNs s) : fixed (applyGateItem b late lateNs s) = fixed s := by
  unfold applyGateItem
  simp only [fixed_forEach, implies_true, fixed_switchGate]

theorem fixed_setDramPolicy (p s) : fixed (setDramPolicy p s) = fixed s := by
  unfold setDramPolicy
  simp only [fixed_mk]

theorem fixed_clearSlot (n g srcCode evSource s) : fixed (clearSlot n g srcCode evSource s) = fixed s := by
  unfold clearSlot
  simp only [fixed_keyChanged, fixed_setSlot]

theorem fixed_applyKeySet (b s) : fixed (applyKeySet b s) = fixed s := by
  unfold applyKeySet
  simp only [fixed_ite, ite_self, fixed_forEach, implies_true, fixed_clearSlot, fixed_loadSlot]

theorem fixed_pinRefused (n refused holding s) : fixed (pinRefused n refused holding s) = fixed s := by
  unfold pinRefused
  simp only [fixed_raise]

theorem fixed_updFio (n f s) : fixed (updFio n f s) = fixed s := by
  unfold updFio
  simp only [fixed_mk]

theorem fixed_applyFioCfg (base p off s) : fixed (applyFioCfg base p off s) = fixed s := by
  unfold applyFioCfg
  simp only [fixed_updFio]

theorem fixed_applyFieldPin (base body k s) : fixed (applyFieldPin base body k s) = fixed s := by
  unfold applyFieldPin
  simp only [fixed_mk, fixed_ite, ite_self, fixed_pinRefused, fixed_applyFioCfg]

theorem fixed_applyGpioCfg (base p off s) : fixed (applyGpioCfg base p off s) = fixed s := by
  unfold applyGpioCfg
  simp only [fixed_mk]

theorem fixed_releaseUart0 (s) : fixed (releaseUart0 s) = fixed s := by
  unfold releaseUart0
  simp only [fixed_mk, fixed_ite, ite_self, fixed_forEach, implies_true, fixed_uart0Send]

theorem fixed_applyFieldItem (base body s) : fixed (applyFieldItem base body s) = fixed s := by
  unfold applyFieldItem
  simp only [fixed_forEach, implies_true, fixed_applyFieldPin, fixed_applyGpioCfg, fixed_releaseUart0,
      fixed_applyAdcCfg]

theorem fixed_applyEvtCfg (p off s) : fixed (applyEvtCfg p off s) = fixed s := by
  unfold applyEvtCfg
  simp only [fixed_mk]

theorem fixed_applyMonCfg (p off s) : fixed (applyMonCfg p off s) = fixed s := by
  unfold applyMonCfg
  simp only [fixed_updMon]

theorem fixed_restartBw (s) : fixed (restartBw s) = fixed s := by
  unfold restartBw
  simp only [fixed_mk]

theorem fixed_applyBw (us s) : fixed (applyBw us s) = fixed s := by
  unfold applyBw
  simp only [fixed_mk, fixed_restartBw]

theorem fixed_stopSched (s) : fixed (stopSched s) = fixed s := by
  unfold stopSched
  (repeat' split) <;> simp only [fixed_mk, fixed_setTimer]

theorem fixed_startSched (g p off s) : fixed (startSched g p off s) = fixed s := by
  unfold startSched
  simp only [fixed_mk, fixed_takeTimer]

theorem fixed_applyCounterItem (b s) : fixed (applyCounterItem b s) = fixed s := by
  unfold applyCounterItem
  dsimp only
  (repeat' split) <;> simp only [fixed_forEach, implies_true, fixed_applyEvtCfg, fixed_applyMonCfg,
      fixed_applyBw, fixed_stopSched, fixed_startSched]

theorem fixed_dropFromQueue (gone p q s) : fixed (dropFromQueue gone p q s) = fixed s := by
  unfold dropFromQueue
  simp only [fixed_forEach, implies_true, fixed_updQueue, fixed_countModeDrop, fixed_releaseRef]

theorem fixed_dropFromPort (gone p s) : fixed (dropFromPort gone p s) = fixed s := by
  unfold dropFromPort
  simp only [fixed_forEach, implies_true, fixed_dropFromQueue]

theorem fixed_dropPort (p s) : fixed (dropPort p s) = fixed s := by
  unfold dropPort
  simp only [fixed_abandonWrites, fixed_dropFromPort, fixed_endSending]

theorem fixed_portLinkEvent (p s) : fixed (portLinkEvent p s) = fixed s := by
  unfold portLinkEvent
  simp only [fixed_ite, ite_self, fixed_raise, fixed_updPort]

theorem fixed_portGoesDown (p cause s) : fixed (portGoesDown p cause s) = fixed s := by
  unfold portGoesDown
  simp only [fixed_ite, ite_self, fixed_updPort, fixed_portLinkEvent, fixed_flushOnDown, fixed_abortSending]

theorem fixed_stopPort (p s) : fixed (stopPort p s) = fixed s := by
  unfold stopPort
  simp only [fixed_forEach, implies_true, fixed_lanesOff, fixed_dropPort, fixed_portGoesDown]

theorem fixed_loseCell (d c s) : fixed (loseCell d c s) = fixed s := by
  unfold loseCell
  (repeat' split) <;> simp only [fixed_forEach, implies_true, fixed_countModeDrop]

theorem fixed_loseWriting (d k s) : fixed (loseWriting d k s) = fixed s := by
  unfold loseWriting
  (repeat' split) <;> simp only [fixed_forEach, implies_true, fixed_countModeDrop]

theorem fixed_loseReseq (d k s) : fixed (loseReseq d k s) = fixed s := by
  unfold loseReseq
  simp only [fixed_forEach, implies_true, fixed_loseCell, fixed_loseWriting]

theorem fixed_clearReseqs (gone s) : fixed (clearReseqs gone s) = fixed s := by
  unfold clearReseqs
  simp only [fixed_mk, fixed_ite, ite_self, fixed_forEach, implies_true, fixed_loseReseq]

theorem fixed_losePaths (gone s) : fixed (losePaths gone s) = fixed s := by
  unfold losePaths
  simp only [fixed_mk, fixed_forEach, implies_true, fixed_loseCell]

theorem fixed_emptyDeckQueues (d s) : fixed (emptyDeckQueues d s) = fixed s := by
  unfold emptyDeckQueues
  simp only [fixed_forEach, implies_true, fixed_updQueue, fixed_dropFromPort, fixed_endSending]

theorem fixed_stopDecks (ds s) : fixed (stopDecks ds s) = fixed s := by
  unfold stopDecks
  simp only [fixed_mk, fixed_forEach, implies_true, fixed_clearReseqs, fixed_losePaths, fixed_updDeck,
      fixed_emptyDeckQueues]

theorem fixed_setDecks (s) : fixed (setDecks s) = fixed s := by
  unfold setDecks
  simp only [fixed_mk, fixed_stopDecks]

theorem fixed_lanesStop (stays s) : fixed (lanesStop stays s) = fixed s := by
  unfold lanesStop
  simp only [fixed_forEach, implies_true, fixed_lanesOff]

theorem fixed_stopTest (l cause s) : fixed (stopTest l cause s) = fixed s := by
  unfold stopTest
  simp only [fixed_ite, ite_self, fixed_raise, fixed_freeLane, fixed_prbsStop]

theorem fixed_stopTests (stops s) : fixed (stopTests stops s) = fixed s := by
  unfold stopTests
  simp only [fixed_forEach, implies_true, fixed_stopTest]

theorem fixed_lanesLeaveFull (s) : fixed (lanesLeaveFull s) = fixed s := by
  unfold lanesLeaveFull
  simp only [fixed_lanesStop, fixed_stopTests]

theorem fixed_startPort (p s) : fixed (startPort p s) = fixed s := by
  unfold startPort
  simp only [fixed_ite, ite_self, fixed_forEach, implies_true, fixed_ownLane, fixed_updLane]

theorem fixed_moveKeepPorts (old s) : fixed (moveKeepPorts old s) = fixed s := by
  unfold moveKeepPorts
  (repeat' split) <;> simp only [fixed_forEach, implies_true, fixed_stopPort, fixed_setClocks,
      fixed_setDecks, fixed_lanesLeaveFull, fixed_startPort]

theorem fixed_setModeConfig (p s) : fixed (setModeConfig p s) = fixed s := by
  unfold setModeConfig
  simp only [fixed_mk, fixed_moveKeepPorts, fixed_compareVin]

theorem fixed_setWakeConfig (p s) : fixed (setWakeConfig p s) = fixed s := by
  unfold setWakeConfig
  simp only [fixed_mk]

theorem fixed_setStrikeConfig (p s) : fixed (setStrikeConfig p s) = fixed s := by
  unfold setStrikeConfig
  simp only [fixed_mk]

theorem fixed_loseSource (x s) : fixed (loseSource x s) = fixed s := by
  unfold loseSource
  (repeat' split) <;> simp only [fixed_mk, fixed_ite, ite_self, fixed_reselect]

theorem fixed_setTimeSources (p s) : fixed (setTimeSources p s) = fixed s := by
  unfold setTimeSources
  simp only [fixed_mk, fixed_ite, ite_self, fixed_loseSource, fixed_reselect]

theorem fixed_setTransports (p s) : fixed (setTransports p s) = fixed s := by
  unfold setTransports
  simp only [fixed_mk]

theorem fixed_coldAcquire (l s) : fixed (coldAcquire l s) = fixed s := by
  unfold coldAcquire
  simp only [fixed_updLane, fixed_loseCdr]

theorem fixed_setLaneCfg (l c s) : fixed (setLaneCfg l c s) = fixed s := by
  unfold setLaneCfg
  simp only [fixed_ite, ite_self, fixed_updLane, fixed_coldAcquire]

theorem fixed_laneConfigSetBody (q s) : FixedBody s (laneConfigSetBody q s) := by
  unfold laneConfigSetBody
  simp only [fixedBody_ok, fixedBody_checks, okEmpty, fixed_setLaneCfg]

theorem fixed_unformPort (p s) : fixed (unformPort p s) = fixed s := by
  unfold unformPort
  simp only [fixed_forEach, implies_true, fixed_dropPort, fixed_portGoesDown, fixed_freeLane,
      fixed_updPort]

theorem fixed_startOptic (p s) : fixed (startOptic p s) = fixed s := by
  unfold startOptic
  simp only [fixed_mk, fixed_ite, ite_self]

theorem fixed_formPort (n p s) : fixed (formPort n p s) = fixed s := by
  unfold formPort
  simp only [fixed_startOptic, fixed_startPort, fixed_updPort]

theorem fixed_applyPortForm (n p s) : fixed (applyPortForm n p s).1 = fixed s := by
  unfold applyPortForm
  dsimp only
  (repeat' split) <;> simp only [fixed_unformPort, fixed_formPort, fixed_adjustPort]

theorem fixed_portFormBody (q s) : FixedBody s (portFormBody q s) := by
  unfold portFormBody
  simp only [fixedBody_ok, fixedBody_checks, okResp, fixed_applyPortForm]

theorem fixed_m0ConfigSetBody (q s) : FixedBody s (m0ConfigSetBody q s) := by
  unfold m0ConfigSetBody
  (repeat' split) <;> simp only [fixedBody_ok, fixedBody_checks, okEmpty, fixed_mk]

theorem fixed_updCage (p f s) : fixed (updCage p f s) = fixed s := by
  unfold updCage
  simp only [fixed_mk]

theorem fixed_opticsMapSetBody (q s) : FixedBody s (opticsMapSetBody q s) := by
  unfold opticsMapSetBody
  simp only [fixedBody_ok, fixedBody_checks, okEmpty, fixed_updCage]

theorem fixed_cwRelease (l s) : fixed (cwRelease l s).2 = fixed s := by
  unfold cwRelease
  (repeat' split) <;> simp only [fixed_releaseLink]

theorem fixed_spanAligned (l s) : fixed (spanAligned l s) = fixed s := by
  unfold spanAligned
  simp only [fixed_ite, ite_self, fixed_enterJoin]

theorem fixed_lineUp (l s0) : fixed (lineUp l s0) = fixed s0 := by
  unfold lineUp
  simp only [fixed_ite, ite_self, fixed_spanAligned, fixed_updLink, fixed_cwEnter, fixed_takeIncarnation]

theorem fixed_cwForm (l p s) : fixed (cwForm l p s).2 = fixed s := by
  unfold cwForm
  dsimp only
  (repeat' split) <;> simp only [fixed_startLink, fixed_updLink, fixed_cwEnter, fixed_cwFlush,
      fixed_lineUp]

theorem fixed_cwLinkSetBody (q s) : FixedBody s (cwLinkSetBody q s) := by
  unfold cwLinkSetBody
  dsimp only
  (repeat' split) <;> simp only [fixedBody_ok, fixedBody_checks, okResp, fixed_cwRelease,
      fixed_cwForm]

theorem fixed_startRound (n s) : fixed (startRound n s) = fixed s := by
  unfold startRound
  simp only [fixed_mk, fixed_sendVc0]

theorem fixed_splitAuto (cause s) : fixed (splitAuto cause s) = fixed s := by
  unfold splitAuto
  simp only [fixed_splitJoin]

theorem fixed_spanRecount (s) : fixed (spanRecount s) = fixed s := by
  unfold spanRecount
  (repeat' split) <;> simp only [fixed_mk, fixed_startRound, fixed_enterJoin, fixed_looseTime, fixed_splitAuto]

theorem fixed_setSpanCfg (c s) : fixed (setSpanCfg c s) = fixed s := by
  unfold setSpanCfg
  simp only [fixed_mk, fixed_ite, ite_self, fixed_takeLanes, fixed_releaseLanes, fixed_wakeJoint, fixed_spanRecount]

theorem fixed_spanConfigSetBody (q s) : FixedBody s (spanConfigSetBody q s) := by
  unfold spanConfigSetBody
  simp only [fixedBody_ok, fixedBody_checks, okEmpty, fixed_setSpanCfg]

theorem fixed_applySetting (t p s) : fixed (applySetting t p s) = fixed s := by
  unfold applySetting
  simp only [fixed_afterBody, fixed_mk, fixed_ite, ite_self, fixed_setModeConfig, fixed_setWakeConfig, fixed_setStrikeConfig,
      fixed_setTimeSources, fixed_setTransports, fixed_laneConfigSetBody, fixed_portFormBody, fixed_m0ConfigSetBody,
      fixed_opticsMapSetBody, fixed_cwLinkSetBody, fixed_spanConfigSetBody]

theorem fixed_applyItem (a i s) : fixed (applyItem a i s) = fixed s := by
  unfold applyItem
  simp only [fixed_ite, ite_self, fixed_applyFwdItem, fixed_applyClassItem, fixed_applyMeterItem, fixed_applyDeckItem,
      fixed_applySchedItem, fixed_applyGateItem, fixed_setDramPolicy, fixed_applyKeySet, fixed_applyFieldItem, fixed_applyCounterItem,
      fixed_applySetting]

theorem fixed_applySection (sec l s) : fixed (applySection sec l s) = fixed s := by
  unfold applySection
  simp only [fixed_forEach, implies_true, fixed_restoreSlots, fixed_applyItem]

theorem fixed_applyBase (s) : fixed (applyBase s) = fixed s := by
  unfold applyBase
  simp only [fixed_configLoaded, fixed_applySection]

theorem fixed_learnRefused (cause s) : fixed (learnRefused cause s) = fixed s := by
  unfold learnRefused
  dsimp only
  (repeat' split) <;> simp only [fixed_mk, fixed_raise]

theorem fixed_countLearn (n s) : fixed (countLearn n s) = fixed s := by
  unfold countLearn
  simp only [fixed_mk]

theorem fixed_putBridge (k e s) : fixed (putBridge k e s) = fixed s := by
  unfold putBridge
  simp only [fixed_mk]

theorem fixed_learnInsert (r s) : fixed (learnInsert r s) = fixed s := by
  unfold learnInsert
  (repeat' split) <;> simp only [fixed_ite, ite_self, fixed_learnRefused, fixed_countLearn, fixed_mirror, fixed_putBridge]

theorem fixed_applyLearn (r s) : fixed (applyLearn r s) = fixed s := by
  unfold applyLearn
  (repeat' split) <;> simp only [fixed_ite, ite_self, fixed_learnInsert, fixed_mirror, fixed_countEvt, fixed_countLearn,
      fixed_putBridge]

theorem fixed_bridgeAdd (vlan mac result static s) : FixedBody s (bridgeAdd vlan mac result static s) := by
  unfold bridgeAdd
  (repeat' split) <;> simp only [fixedBody_ok, fixedBody_error, okEmpty, fixed_putBridge]

theorem fixed_bridgeDelete (vlan mac s) : FixedBody s (bridgeDelete vlan mac s) := by
  unfold bridgeDelete
  (repeat' split) <;> simp only [fixedBody_ok, fixedBody_error, okEmpty, fixed_putBridge]

theorem fixed_putLearned (vlan mac result s) : fixed (putLearned vlan mac result s) = fixed s := by
  unfold putLearned
  (repeat' split) <;> simp only [fixed_putBridge]

theorem fixed_applyMirror (kind p s) : fixed (applyMirror kind p s) = fixed s := by
  unfold applyMirror
  (repeat' split) <;> simp only [fixed_bodyState, fixed_bridgeAdd, fixed_bridgeDelete,
      fixed_removeDynamic, fixed_setFwd, fixed_putLearned]

theorem fixed_updBank (b f s) : fixed (updBank b f s) = fixed s := by
  unfold updBank
  simp only [fixed_mk]

theorem fixed_applySearch (b s) : fixed (applySearch b s) = fixed s := by
  unfold applySearch
  simp only [fixed_forEach, implies_true, fixed_updBank]

theorem fixed_archiveLog (s) : fixed (archiveLog s) = fixed s := by
  unfold archiveLog
  simp only [fixed_mk]

theorem fixed_setSlotRecord (n r s) : fixed (setSlotRecord n r s) = fixed s := by
  unfold setSlotRecord
  simp only [fixed_mk, fixed_ite, ite_self]

theorem fixed_switchTables (c s) : fixed (switchTables c s) = fixed s := by
  unfold switchTables
  simp only [fixed_mk, fixed_ite, ite_self]

theorem fixed_resyncAfter (s) : fixed (resyncAfter s) = fixed s := by
  unfold resyncAfter
  simp only [fixed_ite, ite_self, fixed_sendVc0]

theorem fixed_commitDone (c late early lateNs s) : fixed (commitDone c late early lateNs s) = fixed s := by
  unfold commitDone
  simp only [fixed_raise]

theorem fixed_disarmGates (s) : fixed (disarmGates s) = fixed s := by
  unfold disarmGates
  simp only [fixed_mk]

theorem fixed_switchCommit (c late lateNs s) : fixed (switchCommit c late lateNs s) = fixed s := by
  unfold switchCommit
  simp only [fixed_mk, fixed_ite, ite_self, fixed_forEach, implies_true, fixed_setSlotRecord, fixed_applySearch, fixed_switchTables,
      fixed_applyItem, fixed_resyncAfter, fixed_commitDone, fixed_disarmGates]

theorem fixed_trySwitch (tick s) : fixed (trySwitch tick s) = fixed s := by
  unfold trySwitch
  (repeat' split) <;> simp only [fixed_ite, ite_self, fixed_switchCommit]

theorem fixed_armGateItem (b epoch s) : fixed (armGateItem b epoch s) = fixed s := by
  unfold armGateItem
  simp only [fixed_forEach, implies_true, fixed_updEgress]

theorem fixed_armGates (c s) : fixed (armGates c s) = fixed s := by
  unfold armGates
  simp only [fixed_forEach, implies_true, fixed_armGateItem]

theorem fixed_armSearch (b s) : fixed (armSearch b s) = fixed s := by
  unfold armSearch
  simp only [fixed_forEach, implies_true, fixed_updBank]

theorem fixed_startLoads (c s) : fixed (startLoads c s) = fixed s := by
  unfold startLoads
  simp only [fixed_mk, fixed_ite, ite_self, fixed_forEach, implies_true, fixed_armSearch]

theorem fixed_armCommit (c shown s) : fixed (armCommit c shown s) = fixed s := by
  unfold armCommit
  simp only [fixed_mk, fixed_setSlotRecord, fixed_raiseIf, fixed_trySwitch, fixed_armGates, fixed_startLoads]

theorem fixed_armBoth (c s) : fixed (armBoth c s) = fixed s := by
  unfold armBoth
  simp only [fixed_armCommit, fixed_relayMsg]

theorem fixed_writeIntCause (v s) : fixed (writeIntCause v s) = fixed s := by
  unfold writeIntCause
  simp only [fixed_mk, updHost, fixed_afterIntWrite]

theorem fixed_ringFault (cause s) : fixed (ringFault cause s) = fixed s := by
  unfold ringFault
  simp only [fixed_mk, updHost, fixed_setCause, fixed_raise]

theorem fixed_enableRings (p loc s) : fixed (enableRings p loc s) = fixed s := by
  unfold enableRings
  dsimp only
  (repeat' split) <;> simp only [fixed_mk, updRings, updHost, fixed_ringFault]

theorem fixed_writeRingCtrl (p v s) : fixed (writeRingCtrl p v s) = fixed s := by
  unfold writeRingCtrl
  simp only [fixed_mk, fixed_ite, ite_self, updRings, updHost, fixed_ringsReset, fixed_logAccess, fixed_enableRings]

theorem fixed_ringSetting (p o f s) : fixed (ringSetting p o f s) = fixed s := by
  unfold ringSetting
  simp only [fixed_mk, fixed_ite, ite_self, updRings, updHost, fixed_logAccess]

theorem fixed_writeReqTail (v s) : fixed (writeReqTail v s) = fixed s := by
  unfold writeReqTail
  dsimp only
  (repeat' split) <;> simp only [fixed_mk, updRings, updHost, fixed_ringFault]

theorem fixed_writeRspHead (v s) : fixed (writeRspHead v s) = fixed s := by
  unfold writeRspHead
  dsimp only
  (repeat' split) <;> simp only [fixed_mk, updRings, updHost, fixed_ringFault]

theorem fixed_writeSnap (v s) : fixed (writeSnap v s) = fixed s := by
  unfold writeSnap
  simp only [fixed_mk, fixed_ite, ite_self, updHost, fixed_takeSnap]

theorem fixed_writeHostFlag (v s) : fixed (writeHostFlag v s) = fixed s := by
  unfold writeHostFlag
  simp only [fixed_mk, updHost, fixed_noteQuiesced]

theorem fixed_writeMsixCtl (v s) : fixed (writeMsixCtl v s) = fixed s := by
  unfold writeMsixCtl
  simp only [fixed_mk, fixed_ite, ite_self, updHost, fixed_sendMsi]

theorem fixed_writeLaneSel (p v s) : fixed (writeLaneSel p v s) = fixed s := by
  unfold writeLaneSel
  (repeat' split) <;> simp only [fixed_mk, updHost]

theorem fixed_writeCwSel (p v s) : fixed (writeCwSel p v s) = fixed s := by
  unfold writeCwSel
  (repeat' split) <;> simp only [fixed_mk, updHost]

theorem fixed_writeDramStatus (v s) : fixed (writeDramStatus v s) = fixed s := by
  unfold writeDramStatus
  simp only [fixed_forEach, implies_true, fixed_updChan]

theorem fixed_writeSticky (o v s) : fixed (writeSticky o v s) = fixed s := by
  unfold writeSticky
  (repeat' split) <;> simp only [fixed_mk, fixed_writeDramStatus]

theorem fixed_noteWrite (p off b s) : fixed (noteWrite p off b s) = fixed s := by
  unfold noteWrite
  simp only [fixed_mk, updHost]

theorem fixed_countDiscard (tr f s) : fixed (countDiscard tr f s) = fixed s := by
  unfold countDiscard
  simp only [fixed_countEvt, fixed_updTransportCtrs]

theorem fixed_updRates (tr f s) : fixed (updRates tr f s) = fixed s := by
  unfold updRates
  simp only [fixed_mk]

theorem fixed_authFail (tr s) : fixed (authFail tr s) = fixed s := by
  unfold authFail
  simp only [fixed_ite, ite_self, fixed_countDiscard, fixed_updRates, fixed_raise]

theorem fixed_seekJoin (s) : fixed (seekJoin s) = fixed s := by
  unfold seekJoin
  simp only [fixed_enterProbe]

theorem fixed_autoJoin (s) : fixed (autoJoin s) = fixed s := by
  unfold autoJoin
  simp only [fixed_ite, ite_self, fixed_seekJoin]

theorem fixed_loadTime (s) : fixed (loadTime s) = fixed s := by
  unfold loadTime
  simp only [fixed_mk, fixed_setQuality]

theorem fixed_enterRecovery (cause s) : fixed (enterRecovery cause s) = fixed s := by
  unfold enterRecovery
  simp only [fixed_mk, fixed_ite, ite_self, fixed_loadTime, fixed_enterMode, fixed_raise]

theorem fixed_bankFails (b reason s) : fixed (bankFails b reason s) = fixed s := by
  unfold bankFails
  simp only [fixed_mk, fixed_ite, ite_self, fixed_raise, fixed_enterRecovery]

theorem fixed_startFirmware (s) : fixed (startFirmware s) = fixed s := by
  unfold startFirmware
  simp only [fixed_mk, fixed_ite, ite_self, fixed_raise]

theorem fixed_countCompare (pass s) : fixed (countCompare pass s) = fixed s := by
  unfold countCompare
  simp only [fixed_mk]

theorem fixed_defaultSettings (s) : fixed (defaultSettings s) = fixed s := by
  unfold defaultSettings
  simp only [fixed_mk]

theorem fixed_releasePins (s) : fixed (releasePins s) = fixed s := by
  unfold releasePins
  simp only [fixed_mk, fixed_forEach, implies_true, fixed_updFio]

theorem fixed_forgetPins (s) : fixed (forgetPins s) = fixed s := by
  unfold forgetPins
  simp only [fixed_mk, fixed_forEach, implies_true, fixed_updFio, fixed_releasePins]

theorem fixed_keepKmpTimers (s) : fixed (keepKmpTimers s) = fixed s := by
  unfold keepKmpTimers
  simp only [fixed_mk]

theorem fixed_takeRequest (s) : fixed (takeRequest s) = fixed s := by
  unfold takeRequest
  simp only [fixed_mk, fixed_ite, ite_self]

theorem fixed_noteRequest (q x s) : fixed (noteRequest q x s) = fixed s := by
  unfold noteRequest
  simp only [fixed_mk, fixed_ite, ite_self]

theorem fixed_cacheSession (x e s) : fixed (cacheSession x e s) = fixed s := by
  unfold cacheSession
  simp only [fixed_mk, fixed_ite, ite_self, fixed_updSession]

theorem fixed_cacheResponse (code q x status resp s) : fixed (cacheResponse code q x status resp s) = fixed s := by
  unfold cacheResponse
  (repeat' split) <;> simp only [fixed_mk, fixed_cacheSession]

theorem fixed_finish (code q x ok status resp s) : fixed (finish code q x ok status resp s) = fixed s := by
  unfold finish
  simp only [fixed_ite, ite_self, fixed_sendVc0, fixed_noteRequest, fixed_cacheResponse, fixed_respond]

theorem fixed_enqueue (code q h s) : fixed (enqueue code q h s) = fixed s := by
  unfold enqueue
  (repeat' split) <;> simp only [fixed_mk, fixed_finish]

theorem fixed_noSession (code q s) : fixed (noSession code q s) = fixed s := by
  unfold noSession
  simp only [fixed_ite, ite_self, fixed_respond, fixed_updRates]

theorem fixed_touchSession (q x s) : fixed (touchSession q x s) = fixed s := by
  unfold touchSession
  simp only [fixed_ite, ite_self, fixed_updSession, fixed_updRates, fixed_ackSession]

/-- The state an arrival leaves. -/
def arrivalState : Arrival → State
  | .done s => s
  | .go _ s => s

theorem fixed_arrive (code q s) : fixed (arrivalState (arrive code q s)) = fixed s := by
  unfold arrive
  dsimp only
  generalize hu : (if tagCompared code q s = true then countCompare true s else s) = u
  have hs : fixed u = fixed s := by rw [← hu]; simp only [fixed_ite, fixed_countCompare, ite_self]
  rw [← hs]
  (repeat' split) <;> simp only [arrivalState, fixed_countDiscard, fixed_answerDuplicate, fixed_respond, fixed_noSession, fixed_authFail,
    fixed_touchSession, fixed_updSession]

theorem fixed_messageTaken (t d m s) : fixed (messageTaken t d m s) = fixed s := by
  unfold messageTaken
  dsimp only
  (repeat' split) <;> try simp only [fixed_respond, fixed_countDiscard, fixed_authFail, fixed_countCompare, fixed_takeRequest]
  · rename_i e; exact (congrArg (fun a => fixed (arrivalState a)) e).symm.trans ((fixed_arrive _ _ _).trans (fixed_takeRequest s))
  · rename_i e; rw [fixed_enqueue]; exact (congrArg (fun a => fixed (arrivalState a)) e).symm.trans ((fixed_arrive _ _ _).trans (fixed_takeRequest s))

theorem fixed_takeHeldMsg (m s) : fixed (takeHeldMsg m s) = fixed s := by
  unfold takeHeldMsg
  split
  · rw [fixed_messageTaken]
  · split
    · rename_i e; exact (congrArg (fun a => fixed (arrivalState a)) e).symm.trans ((fixed_arrive _ _ _).trans (fixed_takeRequest s))
    · rename_i e; rw [fixed_enqueue]; exact (congrArg (fun a => fixed (arrivalState a)) e).symm.trans ((fixed_arrive _ _ _).trans (fixed_takeRequest s))

theorem fixed_takeHeldMsgs (s) : fixed (takeHeldMsgs s) = fixed s := by
  unfold takeHeldMsgs
  simp only [fixed_mk, fixed_ite, ite_self, fixed_forEach, implies_true, fixed_takeHeldMsg]

theorem fixed_updCore (w f s) : fixed (updCore w f s) = fixed s := by
  unfold updCore
  simp only [fixed_mk, fixed_ite, ite_self]

theorem fixed_reportBroken (w reqId s) : fixed (reportBroken w reqId s) = fixed s := by
  unfold reportBroken
  (repeat' split) <;> simp only [fixed_raise, fixed_updCore]

theorem fixed_haltEvent (w halted forced reqId s) : fixed (haltEvent w halted forced reqId s) = fixed s := by
  unfold haltEvent
  simp only [fixed_raise]

theorem fixed_clearWritten (w s) : fixed (clearWritten w s) = fixed s := by
  unfold clearWritten
  simp only [fixed_mk, fixed_ite, ite_self, fixed_updCore]

theorem fixed_resumeCore (w reqId s) : fixed (resumeCore w reqId s) = fixed s := by
  unfold resumeCore
  simp only [fixed_ite, ite_self, fixed_takeHeldMsgs, fixed_reportBroken, fixed_haltEvent, fixed_clearWritten, fixed_updCore]

theorem fixed_closeDebug (cause reqId s) : fixed (closeDebug cause reqId s) = fixed s := by
  unfold closeDebug
  simp only [fixed_mk, fixed_ite, ite_self, fixed_resumeCore, fixed_raise]

theorem fixed_keystoneDebug (c s) : fixed (keystoneDebug c s) = fixed s := by
  unfold keystoneDebug
  simp only [fixed_mk, fixed_ite, ite_self, fixed_closeDebug]

theorem fixed_digestFault (kind context s) : fixed (digestFault kind context s) = fixed s := by
  unfold digestFault
  simp only [fixed_raise]

theorem fixed_fuseSlot0 (s) : fixed (fuseSlot0 s) = fixed s := by
  unfold fuseSlot0
  simp only [fixed_mk, fixed_ite, ite_self, fixed_setSlot, fixed_digestFault]

theorem fixed_readDirectory (s) : fixed (readDirectory s) = fixed s := by
  unfold readDirectory
  (repeat' split) <;> simp only [fixed_mk, fixed_raise, fixed_raiseIf]

theorem fixed_selfTest (good s) : fixed (selfTest good s) = fixed s := by
  unfold selfTest
  simp only [fixed_mk, fixed_ite, ite_self, fixed_digestFault]

theorem fixed_readOnce (kat s) : fixed (readOnce kat s) = fixed s := by
  unfold readOnce
  simp only [fixed_ite, ite_self, fixed_readDirectory, fixed_selfTest]

theorem fixed_baselineGetBody (q s) : FixedBody s (baselineGetBody q s) := by
  unfold baselineGetBody
  simp only [fixedBody_ok, fixedBody_checks, okResp]

theorem fixed_bodyOrRun (c q x s) (body : State → Body) (h : ∀ v, FixedBody v (body v)) : FixedBody s (bodyOrRun c q x body s) := by
  unfold bodyOrRun
  (repeat' split) <;> simp only [fixedBody_error, fixedBody_ok, fixed_sendVc0, fixed_mk, h]

theorem fixed_bootStatusGetBody (q s) : FixedBody s (bootStatusGetBody q s) := by
  unfold bootStatusGetBody
  simp only [fixedBody_ok, fixedBody_checks, okResp]

theorem fixed_haltCore (w forced s) : fixed (haltCore w forced s) = fixed s := by
  unfold haltCore
  simp only [fixed_haltEvent, fixed_updCore]

theorem fixed_breakLock (w x s) : fixed (breakLock w x s) = fixed s := by
  unfold breakLock
  simp only [fixed_mk, fixed_updCore, fixed_haltCore]

theorem fixed_mirrored (s : State) (kind : Nat) (p : List Byte) (b : Body) (h : FixedBody s b) : FixedBody s (mirrored kind p b) := by
  unfold mirrored
  split
  · rw [fixedBody_ok, fixed_mirror]; exact h _ _ rfl
  · simp only [fixedBody_error]

theorem fixed_bridgeEntrySetBody (q s) : FixedBody s (bridgeEntrySetBody q s) := by
  unfold bridgeEntrySetBody
  dsimp only
  (repeat' split) <;> simp only [fixedBody_checks, fixed_mirrored,
      fixed_bridgeAdd, fixed_bridgeDelete]

theorem fixed_bridgeFlushBody (q s) : FixedBody s (bridgeFlushBody q s) := by
  unfold bridgeFlushBody
  simp only [fixedBody_ok, fixedBody_checks, okResp, fixed_mirrored, fixed_removeDynamic]

theorem fixed_buildDone (c s) : fixed (buildDone c s) = fixed s := by
  unfold buildDone
  simp only [fixed_mk, fixed_ite, ite_self, fixed_relayMsg, fixed_armBoth, fixed_armCommit]

theorem fixed_endTally (s) : fixed (endTally s) = fixed s := by
  unfold endTally
  (repeat' split) <;> simp only [fixed_mk]

theorem fixed_closeStrike (s) : fixed (closeStrike s) = fixed s := by
  unfold closeStrike
  simp only [fixed_mk, fixed_endTally, fixed_setCause, fixed_raise]

theorem fixed_extendStrike (src at0 s) : fixed (extendStrike src at0 s) = fixed s := by
  unfold extendStrike
  dsimp only
  (repeat' split) <;> simp only [fixed_mk]

theorem fixed_openStrike (src at0 s) : fixed (openStrike src at0 s) = fixed s := by
  unfold openStrike
  simp only [fixed_mk, fixed_setCause, fixed_raise]

theorem fixed_strikeTrigger (src at0 s) : fixed (strikeTrigger src at0 s) = fixed s := by
  unfold strikeTrigger
  simp only [fixed_ite, ite_self, fixed_closeStrike, fixed_extendStrike, fixed_openStrike]

theorem fixed_laneTrigger (l at0 s) : fixed (laneTrigger l at0 s) = fixed s := by
  unfold laneTrigger
  simp only [fixed_ite, ite_self, fixed_updLane, fixed_raise, fixed_strikeTrigger]

theorem fixed_bwConfigSetBody (q s) : FixedBody s (bwConfigSetBody q s) := by
  unfold bwConfigSetBody
  simp only [fixedBody_ok, fixedBody_checks, okEmpty, fixed_applyBw]

theorem fixed_bwGetBody (q s) : FixedBody s (bwGetBody q s) := by
  unfold bwGetBody
  simp only [fixedBody_ok, fixedBody_checks, okResp, fixed_mk, fixed_ite, ite_self]

theorem fixed_bwRx (p n s) : fixed (bwRx p n s) = fixed s := by
  unfold bwRx
  simp only [fixed_mk, fixed_ite, ite_self]

theorem fixed_bwTx (p n s) : fixed (bwTx p n s) = fixed s := by
  unfold bwTx
  simp only [fixed_mk, fixed_ite, ite_self]

theorem fixed_endBwWindow (stepped s) : fixed (endBwWindow stepped s) = fixed s := by
  unfold endBwWindow
  simp only [fixed_mk]

theorem fixed_evalBw (s) : fixed (evalBw s) = fixed s := by
  unfold evalBw
  simp only [fixed_ite, ite_self, fixed_forEach, implies_true, fixed_evalMonitor]

theorem fixed_loadIr (openOnly ir s) : fixed (loadIr openOnly ir s) = fixed s := by
  unfold loadIr
  simp only [fixed_mk, fixed_ite, ite_self]

theorem fixed_climbTo (n g s) : fixed (climbTo n g s) = fixed s := by
  unfold climbTo
  simp only [fixed_mk, fixed_setStage]

theorem fixed_climbOn (s) : fixed (climbOn s) = fixed s := by
  unfold climbOn
  dsimp only
  (repeat' split) <;> simp only [fixed_climbTo]

theorem fixed_trainingFailed (c x s) : fixed (trainingFailed c x s) = fixed s := by
  unfold trainingFailed
  simp only [fixed_mk, fixed_ite, ite_self, fixed_updChan, fixed_abandonClimb, fixed_climbOn, fixed_modeRefused, fixed_channelsOff,
      fixed_setTransition]

theorem fixed_climbFault (c f s) (hf : ∀ v, fixed (f v) = fixed v) : fixed (climbFault c f s) = fixed s := by
  unfold climbFault
  (repeat' split) <;> simp only [fixed_ite, ite_self, fixed_trainingFailed, fixed_setTransition, hf]

theorem fixed_captureEnd (cause reqId s) : fixed (captureEnd cause reqId s) = fixed s := by
  unfold captureEnd
  simp only [fixed_mk, fixed_ite, ite_self, fixed_raise]

theorem fixed_captureFrame (port egress frame at0 cls queue s) : fixed (captureFrame port egress frame at0 cls queue s) = fixed s := by
  unfold captureFrame
  simp only [fixed_mk, fixed_ite, ite_self, fixed_captureEnd]

theorem fixed_captureReadBody (q s) : FixedBody s (captureReadBody q s) := by
  unfold captureReadBody
  dsimp only
  (repeat' split) <;> simp only [fixedBody_ok, fixedBody_error, fixedBody_checks, okResp]

theorem fixed_startCapture (p s) : fixed (startCapture p s) = fixed s := by
  unfold startCapture
  simp only [fixed_mk]

theorem fixed_captureSetBody (q s) : FixedBody s (captureSetBody q s) := by
  unfold captureSetBody
  simp only [fixedBody_ok, fixedBody_checks, okEmpty, fixed_ite, ite_self, fixed_captureEnd,
      fixed_startCapture]

theorem fixed_captureStops (s) : fixed (captureStops s) = fixed s := by
  unfold captureStops
  (repeat' split) <;> simp only [fixed_captureEnd]

theorem fixed_forwardDrop (k n s) : fixed (forwardDrop k n s) = fixed s := by
  unfold forwardDrop
  simp only [fixed_mk, fixed_ite, ite_self, fixed_countSpan, fixed_countEvt]

theorem fixed_puntDropEvent (c s) : fixed (puntDropEvent c s) = fixed s := by
  unfold puntDropEvent
  simp only [fixed_ite, ite_self, fixed_updPunt, fixed_raise]

theorem fixed_puntDrop (c s) : fixed (puntDrop c s) = fixed s := by
  unfold puntDrop
  simp only [fixed_puntDropEvent, fixed_updPunt]

theorem fixed_puntToHost (k reason s) : fixed (puntToHost k reason s) = fixed s := by
  unfold puntToHost
  simp only [fixed_raise]

theorem fixed_puntToCore (k reason cls s) : fixed (puntToCore k reason cls s) = fixed s := by
  unfold puntToCore
  simp only [fixed_mk, fixed_ite, ite_self, fixed_puntDropEvent]

theorem fixed_puntFrame (k reason cls s) : fixed (puntFrame k reason cls s) = fixed s := by
  unfold puntFrame
  simp only [fixed_ite, ite_self, fixed_puntDrop, fixed_updPunt, fixed_countEvt, fixed_puntToHost, fixed_puntToCore]

theorem fixed_meterFrame (port cls pre len s) : fixed (meterFrame port cls pre len s).2.2 = fixed s := by
  unfold meterFrame
  dsimp only
  (repeat' split) <;> simp only [fixed_updMeter, fixed_countEvt]

theorem fixed_updPipe (k f s) : fixed (updPipe k f s) = fixed s := by
  unfold updPipe
  simp only [fixed_mk]

theorem fixed_launchDrop (k d len s) : fixed (launchDrop k d len s) = fixed s := by
  unfold launchDrop
  simp only [fixed_mk, fixed_ite, ite_self, fixed_updPipe, fixed_countEvt, fixed_raise]

theorem fixed_launchCopy (x d s) : fixed (launchCopy x d s) = fixed s := by
  unfold launchCopy
  simp only [fixed_ite, ite_self, fixed_forEach, implies_true, fixed_countLinkDrop, fixed_launchDrop, fixed_updPipe]

theorem fixed_launchLocal (x s) : fixed (launchLocal x s) = fixed s := by
  unfold launchLocal
  simp only [fixed_forEach, implies_true, fixed_launchCopy]

theorem fixed_launchRemote (x d ports s) : fixed (launchRemote x d ports s) = fixed s := by
  unfold launchRemote
  simp only [fixed_mk, fixed_ite, ite_self, fixed_countSpan]

theorem fixed_launchAway (x s) : fixed (launchAway x s) = fixed s := by
  unfold launchAway
  simp only [fixed_ite, ite_self, fixed_forEach, implies_true, fixed_launchRemote]

theorem fixed_launch (x s) : fixed (launch x s) = fixed s := by
  unfold launch
  simp only [fixed_ite, ite_self, fixed_launchLocal, fixed_launchAway]

theorem fixed_carryOut (k d c s) : fixed (carryOut k d c s) = fixed s := by
  unfold carryOut
  (repeat' split) <;> simp only [fixed_ite, ite_self, fixed_forwardDrop, fixed_puntFrame, fixed_meterFrame, fixed_launch,
      fixed_bumpFree]

theorem fixed_carryCaptured (k ts d c s) : fixed (carryCaptured k ts d c s) = fixed s := by
  unfold carryCaptured
  simp only [fixed_carryOut, fixed_captureFrame]

theorem fixed_startAlign (l s) : fixed (startAlign l s) = fixed s := by
  unfold startAlign
  simp only [fixed_ite, ite_self, fixed_alignTo]

theorem fixed_updReseq (d k f s) : fixed (updReseq d k f s) = fixed s := by
  unfold updReseq
  simp only [fixed_updDeck]

theorem fixed_dropProgress (d k s) : fixed (dropProgress d k s).2 = fixed s := by
  unfold dropProgress
  (repeat' split) <;> simp only [fixed_abandonWrite, fixed_updReseq]

theorem fixed_joinQueue (w p s) : fixed (joinQueue w p s) = fixed s := by
  unfold joinQueue
  simp only [fixed_ite, ite_self, fixed_updQueue, fixed_settleQueue, fixed_countLinkDrop, fixed_releaseRef]

theorem fixed_completeWrite (w s) : fixed (completeWrite w s) = fixed s := by
  unfold completeWrite
  simp only [fixed_forEach, implies_true, fixed_abandonAtPort, fixed_joinQueue]

theorem fixed_releaseCell (d k c s) : fixed (releaseCell d k c s) = fixed s := by
  unfold releaseCell
  (repeat' split) <;> simp only [fixed_dropProgress, fixed_allot, fixed_completeWrite, fixed_updReseq]

theorem fixed_releaseRun (n d k s) : fixed (releaseRun n d k s) = fixed s := by
  induction n generalizing s with
  | zero => rfl
  | succ n ih =>
    unfold releaseRun
    dsimp only
    split <;> simp only [ih, fixed_releaseCell, fixed_updReseq]

theorem fixed_takeCell (d k c s) : fixed (takeCell d k c s) = fixed s := by
  unfold takeCell
  simp only [fixed_ite, ite_self, fixed_releaseRun, fixed_releaseCell, fixed_updReseq]

theorem fixed_reseqEvent (d k skipped lost s) : fixed (reseqEvent d k skipped lost s) = fixed s := by
  unfold reseqEvent
  simp only [fixed_ite, ite_self, fixed_updDeck, fixed_raise]

theorem fixed_skipCells (d k n s) : fixed (skipCells d k n s) = fixed s := by
  unfold skipCells
  simp only [fixed_mk, fixed_ite, ite_self, fixed_updDeck, fixed_countEvt, fixed_dropProgress, fixed_reseqEvent]

theorem fixed_jumpNext (n d k target s) : fixed (jumpNext n d k target s) = fixed s := by
  induction n generalizing s with
  | zero => rfl
  | succ n ih =>
    unfold jumpNext
    dsimp only
    (repeat' split) <;> simp only [ih, fixed_releaseCell, fixed_skipCells, fixed_updReseq]

theorem fixed_skipTo (d k target s) : fixed (skipTo d k target s) = fixed s := by
  unfold skipTo
  simp only [fixed_releaseRun, fixed_jumpNext]

theorem fixed_reseqCell (d k c s) : fixed (reseqCell d k c s) = fixed s := by
  unfold reseqCell
  simp only [fixed_ite, ite_self, fixed_updDeck, fixed_takeCell, fixed_skipTo]

theorem fixed_updPlane (m f s) : fixed (updPlane m f s) = fixed s := by
  unfold updPlane
  simp only [fixed_mk]

theorem fixed_cellErrEvent (m kind s) : fixed (cellErrEvent m kind s) = fixed s := by
  unfold cellErrEvent
  simp only [fixed_ite, ite_self, fixed_updPlane, fixed_raise]

theorem fixed_tallyAdd (k n s) : fixed (tallyAdd k n s) = fixed s := by
  unfold tallyAdd
  (repeat' split) <;> simp only [fixed_mk]

theorem fixed_cellError (m kind s) : fixed (cellError m kind s) = fixed s := by
  unfold cellError
  simp only [fixed_mk, fixed_ite, ite_self, fixed_updPlane, fixed_cellErrEvent, fixed_tallyAdd]

theorem fixed_enterSlot (t s) : fixed (enterSlot t s) = fixed s := by
  unfold enterSlot
  simp only [fixed_mk, fixed_ite, ite_self]

theorem fixed_launchCell (k m d s) : fixed (launchCell k m d s) = fixed s := by
  unfold launchCell
  (repeat' split) <;> simp only [fixed_updPlane, fixed_updPipe]

theorem fixed_channelsFreeze (s) : fixed (channelsFreeze s) = fixed s := by
  unfold channelsFreeze
  simp only [fixed_mk, fixed_forEach, implies_true, fixed_updChan]

theorem fixed_classify (k s) : fixed (classify k s).2 = fixed s := by
  unfold classify
  dsimp only
  (repeat' split) <;> simp only [fixed_mk, fixed_updBank, fixed_countEvt]

theorem fixed_setResult (err addr data s) : fixed (setResult err addr data s) = fixed s := by
  unfold setResult
  simp only [fixed_mk]

theorem fixed_clearBroken (s) : fixed (clearBroken s) = fixed s := by
  unfold clearBroken
  simp only [fixed_mk, fixed_setResult]

theorem fixed_clearHwm (p q s) : fixed (clearHwm p q s) = fixed s := by
  unfold clearHwm
  simp only [fixed_updQueue]

theorem fixed_clearMin (d s) : fixed (clearMin d s) = fixed s := by
  unfold clearMin
  simp only [fixed_updDeck]

theorem fixed_setVhold (mv s) : fixed (setVhold mv s) = fixed s := by
  unfold setVhold
  simp only [fixed_mk]

theorem fixed_clockFailed (clock s) : fixed (clockFailed clock s) = fixed s := by
  unfold clockFailed
  simp only [fixed_raise]

theorem fixed_endClimb (s) : fixed (endClimb s) = fixed s := by
  unfold endClimb
  (repeat' split) <;> simp only [fixed_abandonClimb]

theorem fixed_groupOff (g s) : fixed (groupOff g s) = fixed s := by
  unfold groupOff
  simp only [fixed_mk, fixed_lanesStop]

theorem fixed_controlStarts (s) : fixed (controlStarts s) = fixed s := by
  unfold controlStarts
  simp only [fixed_mk, fixed_ite, ite_self, fixed_writeCoreFlag]

theorem fixed_clocksRun (x s) : fixed (clocksRun x s) = fixed s := by
  unfold clocksRun
  simp only [fixed_mk, fixed_climbTo, fixed_controlStarts]

theorem fixed_restartCounters (s) : fixed (restartCounters s) = fixed s := by
  unfold restartCounters
  simp only [fixed_mk, fixed_raise]

theorem fixed_stopLink (l s) : fixed (stopLink l s) = fixed s := by
  unfold stopLink
  simp only [fixed_ite, ite_self, fixed_updLink, fixed_lanesOff, fixed_cwEnter, fixed_cwFlush]

theorem fixed_lanesStopAll (s) : fixed (lanesStopAll s) = fixed s := by
  unfold lanesStopAll
  simp only [fixed_lanesStop, fixed_stopTests]

theorem fixed_stopPorts (s) : fixed (stopPorts s) = fixed s := by
  unfold stopPorts
  simp only [fixed_forEach, implies_true, fixed_stopPort]

theorem fixed_dropHeld (s) : fixed (dropHeld s) = fixed s := by
  unfold dropHeld
  simp only [fixed_mk]

theorem fixed_dropTables (s) : fixed (dropTables s) = fixed s := by
  unfold dropTables
  simp only [fixed_mk]

theorem fixed_planeToWatch (s) : fixed (planeToWatch s) = fixed s := by
  unfold planeToWatch
  simp only [fixed_forEach, implies_true, fixed_stopLink, fixed_captureStops, fixed_setDecks,
      fixed_lanesStopAll, fixed_stopPorts, fixed_setClocks, fixed_channelsOff, fixed_dropHeld, fixed_dropTables]

theorem fixed_planeLeavesFreeze (s) : fixed (planeLeavesFreeze s) = fixed s := by
  unfold planeLeavesFreeze
  simp only [fixed_forEach, implies_true, fixed_cwEnter, fixed_cwFlush, fixed_restartCounters,
      fixed_planeToWatch]

theorem fixed_resetSources (s) : fixed (resetSources s) = fixed s := by
  unfold resetSources
  simp only [fixed_mk]

theorem fixed_commaStep (l expected wrong s) : fixed (commaStep l expected wrong s) = fixed s := by
  unfold commaStep
  dsimp only
  (repeat' split) <;> simp only [fixed_updLane, fixed_lineUp, fixed_alignEvent, fixed_alignTo]

theorem fixed_tellPartner (s) : fixed (tellPartner s) = fixed s := by
  unfold tellPartner
  simp only [fixed_ite, ite_self, fixed_relayMsg]

theorem fixed_commitFailed (c s) : fixed (commitFailed c s) = fixed s := by
  unfold commitFailed
  simp only [fixed_mk, fixed_ite, ite_self, fixed_relayMsg, fixed_raise, fixed_tellPartner]

theorem fixed_releaseBanks (s) : fixed (releaseBanks s) = fixed s := by
  unfold releaseBanks
  simp only [fixed_mk]

theorem fixed_dropPending (s) : fixed (dropPending s) = fixed s := by
  unfold dropPending
  simp only [fixed_mk, fixed_disarmGates, fixed_releaseBanks]

theorem fixed_installSearch (l s) : fixed (installSearch l s) = fixed s := by
  unfold installSearch
  simp only [fixed_forEach, implies_true, fixed_applySearch]

theorem fixed_installTables (keepOnly items s) : fixed (installTables keepOnly items s) = fixed s := by
  unfold installTables
  simp only [fixed_mk]

theorem fixed_formNew (old s) : fixed (formNew old s) = fixed s := by
  unfold formNew
  simp only [fixed_ite, ite_self, fixed_forEach, implies_true, fixed_startPort, fixed_startLink]

theorem fixed_startEgress (s) : fixed (startEgress s) = fixed s := by
  unfold startEgress
  simp only [fixed_mk]

theorem fixed_startPlane (s) : fixed (startPlane s) = fixed s := by
  unfold startPlane
  simp only [fixed_mk, fixed_restartCounters, fixed_restartBw, fixed_startEgress]

theorem fixed_reloadPending (s) : fixed (reloadPending s) = fixed s := by
  unfold reloadPending
  (repeat' split) <;> simp only [fixed_startLoads]

theorem fixed_forwardingReady (m s) : fixed (forwardingReady m s) = fixed s := by
  unfold forwardingReady
  simp only [fixed_mk, fixed_ite, ite_self, fixed_raise]

theorem fixed_completeClimb (x s) : fixed (completeClimb x s) = fixed s := by
  unfold completeClimb
  (repeat' split) <;> simp only [fixed_setClocks, fixed_setDecks, fixed_enterMode, fixed_installSearch,
      fixed_installTables, fixed_formNew, fixed_startPlane, fixed_reloadPending, fixed_setStage, fixed_autoJoin, fixed_forwardingReady,
      fixed_modeChanged, fixed_raise]

theorem fixed_dropUnprotected (s) : fixed (dropUnprotected s) = fixed s := by
  unfold dropUnprotected
  simp only [fixed_forEach, implies_true, fixed_dropFromPort]

theorem fixed_planeToKeep (items s) : fixed (planeToKeep items s) = fixed s := by
  unfold planeToKeep
  simp only [fixed_forEach, implies_true, fixed_stopLink, fixed_captureStops, fixed_lanesLeaveFull,
      fixed_stopPorts, fixed_dropUnprotected, fixed_setDecks, fixed_setClocks, fixed_channelsOff, fixed_installTables]

theorem fixed_stopTimeBase (s) : fixed (stopTimeBase s) = fixed s := by
  unfold stopTimeBase
  simp only [fixed_mk]

theorem fixed_freezeLink (l s) : fixed (freezeLink l s) = fixed s := by
  unfold freezeLink
  simp only [fixed_ite, ite_self, fixed_lanesOff, fixed_updLink, fixed_stopLink]

theorem fixed_planeToFreeze (s) : fixed (planeToFreeze s) = fixed s := by
  unfold planeToFreeze
  simp only [fixed_forEach, implies_true, fixed_freezeLink, fixed_captureStops, fixed_lanesOff,
      fixed_endSending, fixed_portGoesDown, fixed_setClocks, fixed_channelsFreeze, fixed_lanesStopAll]

theorem fixed_completeFreeze (x s) : fixed (completeFreeze x s) = fixed s := by
  unfold completeFreeze
  simp only [fixed_modeChanged, fixed_planeToFreeze, fixed_enterMode]

theorem fixed_completeFresh (l i s) : fixed (completeFresh l i s) = fixed s := by
  unfold completeFresh
  simp only [fixed_cwEnter, fixed_updLink]

theorem fixed_completeResumed (l i s) : fixed (completeResumed l i s) = fixed s := by
  unfold completeResumed
  simp only [fixed_ite, ite_self, fixed_completeFresh, fixed_cwFlush, fixed_updLink, fixed_cwHoldEvent, fixed_cwEnter,
      fixed_cwNarrow]

theorem fixed_configChosen (n items s) : fixed (configChosen n items s) = fixed s := by
  unfold configChosen
  simp only [fixed_mk, fixed_setSlotRecord]

theorem fixed_configFails (n s) : fixed (configFails n s) = fixed s := by
  unfold configFails
  simp only [fixed_mk, fixed_ite, ite_self, fixed_raiseIf, fixed_raise]

theorem fixed_fioFault (n kind s) : fixed (fioFault n kind s) = fixed s := by
  unfold fioFault
  simp only [fixed_updFio, fixed_raise]

theorem fixed_contestEvent (w s) : fixed (contestEvent w s) = fixed s := by
  unfold contestEvent
  dsimp only
  (repeat' split) <;> simp only [fixed_mk, fixed_raise]

theorem fixed_controlRead (a s) : fixed (controlRead a s).1 = fixed s := by
  unfold controlRead
  (repeat' split) <;> simp only [fixed_bumpFree]

theorem fixed_resumeRequest (w addr s) : fixed (resumeRequest w addr s) = fixed s := by
  unfold resumeRequest
  simp only [fixed_trySwitch, fixed_resumeCore, fixed_setResult]

theorem fixed_stepRequest (w addr s) : fixed (stepRequest w addr s) = fixed s := by
  unfold stepRequest
  simp only [fixed_mk, fixed_ite, ite_self, fixed_updCore, fixed_setResult]

theorem fixed_debugFreezeRequest (s) : fixed (debugFreezeRequest s) = fixed s := by
  unfold debugFreezeRequest
  simp only [fixed_freezeTrigger, fixed_setResult]

theorem fixed_coreStatusGetBody (q s) : FixedBody s (coreStatusGetBody q s) := by
  unfold coreStatusGetBody
  simp only [fixedBody_ok, fixedBody_checks, okResp]

theorem fixed_setBig (x v s) : fixed (setBig x v s) = fixed s := by
  unfold setBig
  simp only [fixed_mk, fixed_ite, ite_self]

theorem fixed_egressStep (d s) : fixed (egressStep d s) = fixed s := by
  unfold egressStep
  simp only [fixed_mk, fixed_takeoversLate, fixed_raiseIf]

theorem fixed_stepWindows (old s) : fixed (stepWindows old s) = fixed s := by
  unfold stepWindows
  simp only [fixed_mk, fixed_ite, ite_self, fixed_restartBw, fixed_endBwWindow]

theorem fixed_stepTime (d cause s) : fixed (stepTime d cause s) = fixed s := by
  unfold stepTime
  simp only [fixed_mk, fixed_ite, ite_self, fixed_raise, fixed_egressStep, fixed_stepWindows, fixed_learnTrim]

theorem fixed_correct (x off s) : fixed (correct x off s) = fixed s := by
  unfold correct
  (repeat' split) <;> simp only [fixed_mk, fixed_bumpFree, fixed_setBig, fixed_stepTime]

theorem fixed_countAccepted (p len s) : fixed (countAccepted p len s) = fixed s := by
  unfold countAccepted
  simp only [fixed_updPortCtrs, fixed_bwRx, fixed_countEvt]

theorem fixed_countFec (p n s) : fixed (countFec p n s) = fixed s := by
  unfold countFec
  simp only [fixed_ite, ite_self, fixed_tallyAdd, fixed_countEvt]

theorem fixed_countPort (p ev f s) : fixed (countPort p ev f s) = fixed s := by
  unfold countPort
  simp only [fixed_countEvt, fixed_updPortCtrs]

theorem fixed_countRx (tr s) : fixed (countRx tr s) = fixed s := by
  unfold countRx
  simp only [fixed_updTransportCtrs]

theorem fixed_countScada (k s) : fixed (countScada k s) = fixed s := by
  unfold countScada
  simp only [fixed_mk, fixed_ite, ite_self]

theorem fixed_countSent (p q l s) : fixed (countSent p q l s) = fixed s := by
  unfold countSent
  simp only [fixed_updPortCtrs, fixed_countTx, fixed_bwTx, fixed_countEvt]

theorem fixed_countersGetBody (q s) : FixedBody s (countersGetBody q s) := by
  unfold countersGetBody
  simp only [fixedBody_ok, fixedBody_checks, okResp, fixed_mk, fixed_ite, ite_self]

theorem fixed_sendCredit (l s) : fixed (sendCredit l s) = fixed s := by
  unfold sendCredit
  simp only [fixed_updLink, fixed_queueCtrl]

theorem fixed_recoverOutput (n s) : fixed (recoverOutput n s) = fixed s := by
  unfold recoverOutput
  simp only [fixed_ite, ite_self, fixed_fioFault, fixed_updFio]

theorem fixed_peerStrikeNote (l b s) : fixed (peerStrikeNote l b s) = fixed s := by
  unfold peerStrikeNote
  simp only [fixed_updLink]

theorem fixed_cwAfter (l s) : fixed (cwAfter l s) = fixed s := by
  unfold cwAfter
  simp only [fixed_ite, ite_self, fixed_spanRecount]

theorem fixed_endCreditStall (l s) : fixed (endCreditStall l s) = fixed s := by
  unfold endCreditStall
  (repeat' split) <;> simp only [fixed_cwWide, fixed_updLink]

theorem fixed_endStall (l s) : fixed (endStall l s) = fixed s := by
  unfold endStall
  (repeat' split) <;> simp only [fixed_cwWide, fixed_updLink]

theorem fixed_settleStalls (l s) : fixed (settleStalls l s) = fixed s := by
  unfold settleStalls
  simp only [fixed_endCreditStall, fixed_endStall, fixed_updLink]

theorem fixed_cwCountersGetBody (q s) : FixedBody s (cwCountersGetBody q s) := by
  unfold cwCountersGetBody
  simp only [fixedBody_ok, fixedBody_checks, okResp, fixed_settleStalls]

theorem fixed_cwCrcFail (l s) : fixed (cwCrcFail l s) = fixed s := by
  unfold cwCrcFail
  simp only [fixed_ite, ite_self, fixed_countEvt, fixed_cwNarrow, fixed_tallyAdd]

theorem fixed_takeCredit (l d s) : fixed (takeCredit l d s) = fixed s := by
  unfold takeCredit
  simp only [fixed_updLink]

theorem fixed_cwFlushBody (q s) : FixedBody s (cwFlushBody q s) := by
  unfold cwFlushBody
  simp only [fixedBody_ok, fixedBody_checks, okEmpty, fixed_cwAfter, fixed_cwRestart,
      fixed_cwFlush]

theorem fixed_noteWiring (l i s) : fixed (noteWiring l i s) = fixed s := by
  unfold noteWiring
  simp only [fixed_raiseIf]

theorem fixed_notePeer (l i s) : fixed (notePeer l i s) = fixed s := by
  unfold notePeer
  simp only [fixed_raiseIf, fixed_updLink]

theorem fixed_queueInit (l s) : fixed (queueInit l s) = fixed s := by
  unfold queueInit
  simp only [fixed_queueCtrl]

theorem fixed_enterHold (l cause s) : fixed (enterHold l cause s) = fixed s := by
  unfold enterHold
  simp only [fixed_updLink, fixed_cwHoldEvent, fixed_cwEnter, fixed_cwNarrow]

theorem fixed_handshake (l i s) : fixed (handshake l i s) = fixed s := by
  unfold handshake
  dsimp only
  (repeat' split) <;> simp only [fixed_updLink, fixed_completeFresh, fixed_queueInit, fixed_splitAuto,
      fixed_enterHold, fixed_completeResumed, fixed_cwEnter, fixed_takeIncarnation, fixed_cwFlush]

theorem fixed_noteMismatch (l mode s) : fixed (noteMismatch l mode s) = fixed s := by
  unfold noteMismatch
  simp only [fixed_ite, ite_self, fixed_raise, fixed_updLink]

theorem fixed_receiveInit (l i s) : fixed (receiveInit l i s) = fixed s := by
  unfold receiveInit
  simp only [fixed_ite, ite_self, fixed_noteWiring, fixed_notePeer, fixed_handshake, fixed_noteMismatch]

theorem fixed_cwLinkStatusGetBody (q s) : FixedBody s (cwLinkStatusGetBody q s) := by
  unfold cwLinkStatusGetBody
  simp only [fixedBody_ok, fixedBody_checks, okResp]

theorem fixed_startReplay (l seq s) : fixed (startReplay l seq s) = fixed s := by
  unfold startReplay
  simp only [fixed_ite, ite_self, fixed_countEvt, fixed_cwNarrow, fixed_updLink, fixed_enterHold]

theorem fixed_nakTo (l e s) : fixed (nakTo l e s) = fixed s := by
  unfold nakTo
  simp only [fixed_ite, ite_self, fixed_startReplay, fixed_updLink]

theorem fixed_dealCell (k s) : fixed (dealCell k s) = fixed s := by
  unfold dealCell
  (repeat' split) <;> simp only [fixed_mk, fixed_updLink, fixed_emit, fixed_countSpan]

theorem fixed_dealCells (s) : fixed (dealCells s) = fixed s := by
  unfold dealCells
  simp only [fixed_ite, ite_self, fixed_forEach, implies_true, fixed_dealCell]

theorem fixed_reportEdge (n s) : fixed (reportEdge n s) = fixed s := by
  unfold reportEdge
  simp only [fixed_ite, ite_self, fixed_raise, fixed_updFio]

theorem fixed_settleInput (n s) : fixed (settleInput n s) = fixed s := by
  unfold settleInput
  dsimp only
  (repeat' split) <;> simp only [fixed_reportEdge, fixed_updFio]

theorem fixed_openDebug (seconds reqId s) : fixed (openDebug seconds reqId s) = fixed s := by
  unfold openDebug
  simp only [fixed_mk, fixed_raise]

theorem fixed_debugAccessSetBody (q s) : FixedBody s (debugAccessSetBody q s) := by
  unfold debugAccessSetBody
  simp only [fixedBody_ok, fixedBody_checks, okResp, fixed_ite, ite_self, fixed_openDebug, fixed_closeDebug]

theorem fixed_debugFreezeBody (q s) : FixedBody s (debugFreezeBody q s) := by
  unfold debugFreezeBody
  simp only [fixedBody_ok, fixedBody_checks, okEmpty, fixed_freezeTrigger]

theorem fixed_writtenOr (m a s) : fixed (writtenOr m a s).1 = fixed s := by
  unfold writtenOr
  (repeat' split) <;> simp only [fixed_bumpFree]

theorem fixed_debugWindow (a s) : fixed (debugWindow a s).1 = fixed s := by
  unfold debugWindow
  dsimp only
  (repeat' split) <;> simp only [fixed_bumpFree]

theorem fixed_debugValue (space a s) : fixed (debugValue space a s).1 = fixed s := by
  unfold debugValue
  (repeat' split) <;> simp only [fixed_writtenOr, fixed_debugWindow, fixed_controlRead]

theorem fixed_debugStore (space a v s) : fixed (debugStore space a v s) = fixed s := by
  unfold debugStore
  (repeat' split) <;> simp only [fixed_mk, updHost, fixed_updCore]

theorem fixed_takeRole (serial decided s) : fixed (takeRole serial decided s) = fixed s := by
  unfold takeRole
  simp only [fixed_mk, fixed_ite, ite_self, fixed_enterJoin, fixed_raise, fixed_sendVc0, fixed_resetSources]

theorem fixed_decideRound (c s) : fixed (decideRound c s) = fixed s := by
  unfold decideRound
  simp only [fixed_mk, fixed_takeRole, fixed_sendVc0]

theorem fixed_deckQueueGetBody (q s) : FixedBody s (deckQueueGetBody q s) := by
  unfold deckQueueGetBody
  simp only [fixedBody_ok, fixedBody_checks, okResp]

theorem fixed_deckQueueSetBody (q s) : FixedBody s (deckQueueSetBody q s) := by
  unfold deckQueueSetBody
  simp only [fixedBody_ok, fixedBody_checks, okEmpty, fixed_setDeckQueue]

theorem fixed_deckStatusGetBody (q s) : FixedBody s (deckStatusGetBody q s) := by
  unfold deckStatusGetBody
  simp only [fixedBody_ok, fixedBody_checks, okResp, fixed_ite, ite_self, fixed_clearMin]

theorem fixed_delayEvent (p q ns s) : fixed (delayEvent p q ns s) = fixed s := by
  unfold delayEvent
  simp only [fixed_ite, ite_self, fixed_updQueue, fixed_raise]

theorem fixed_digestRunBody (q s) : FixedBody s (digestRunBody q s) := by
  unfold digestRunBody
  dsimp only
  (repeat' split) <;> simp only [fixedBody_ok, fixedBody_checks, okResp, fixed_countCompare]

theorem fixed_downAndOn (c reqId s) : fixed (downAndOn c reqId s) = fixed s := by
  unfold downAndOn
  simp only [fixed_ite, ite_self, fixed_startDown, fixed_afterStep]

theorem fixed_dramCorrected (c off beats source s) : fixed (dramCorrected c off beats source s) = fixed s := by
  unfold dramCorrected
  simp only [fixed_ite, ite_self, fixed_countEvt, fixed_tallyAdd, fixed_updChan, fixed_dramLog, fixed_raise]

theorem fixed_dramErrorLogGetBody (q s) : FixedBody s (dramErrorLogGetBody q s) := by
  unfold dramErrorLogGetBody
  simp only [fixedBody_ok, fixedBody_checks, okResp]

theorem fixed_dramPolicyGetBody (q s) : FixedBody s (dramPolicyGetBody q s) := by
  unfold dramPolicyGetBody
  simp only [fixedBody_ok, fixedBody_checks, okResp]

theorem fixed_dramPolicySetBody (q s) : FixedBody s (dramPolicySetBody q s) := by
  unfold dramPolicySetBody
  simp only [fixedBody_ok, fixedBody_checks, okEmpty, fixed_setDramPolicy]

theorem fixed_queueRepair (c region off source beats s) : fixed (queueRepair c region off source beats s) = fixed s := by
  unfold queueRepair
  simp only [fixed_mk]

theorem fixed_dramUncorrectable (c off beats source s) : fixed (dramUncorrectable c off beats source s) = fixed s := by
  unfold dramUncorrectable
  simp only [fixed_ite, ite_self, fixed_updChan, fixed_dramLog, fixed_queueRepair, fixed_ownerAction, fixed_dramFreeze,
      fixed_dramReport]

theorem fixed_dramReadBody (q s) : FixedBody s (dramReadBody q s) := by
  unfold dramReadBody
  simp only [fixedBody_ok, fixedBody_checks, okResp, fixed_forEach, implies_true,
      fixed_bumpFree, fixed_dramUncorrectable]

theorem fixed_makeDue (c force s) : fixed (makeDue c force s) = fixed s := by
  unfold makeDue
  simp only [fixed_updChan]

theorem fixed_dramRetrainBody (q s) : FixedBody s (dramRetrainBody q s) := by
  unfold dramRetrainBody
  simp only [fixedBody_ok, fixedBody_checks, okEmpty, fixed_makeDue]

theorem fixed_scrubStep (c off s) : fixed (scrubStep c off s) = fixed s := by
  unfold scrubStep
  simp only [fixed_ite, ite_self, fixed_updChan]

theorem fixed_scrubLine (c off status beats s) : fixed (scrubLine c off status beats s) = fixed s := by
  unfold scrubLine
  (repeat' split) <;> simp only [fixed_dramCorrected, fixed_dramUncorrectable]

theorem fixed_scrubRead (c line status beats s) : fixed (scrubRead c line status beats s) = fixed s := by
  unfold scrubRead
  simp only [fixed_ite, ite_self, fixed_scrubStep, fixed_scrubLine]

theorem fixed_dramStatusGetBody (q s) : FixedBody s (dramStatusGetBody q s) := by
  unfold dramStatusGetBody
  simp only [fixedBody_ok, fixedBody_checks, okResp]

theorem fixed_dramTrainGetBody (q s) : FixedBody s (dramTrainGetBody q s) := by
  unfold dramTrainGetBody
  simp only [fixedBody_ok, fixedBody_checks, okResp]

theorem fixed_marginEvent (c lane dir e s) : fixed (marginEvent c lane dir e s) = fixed s := by
  unfold marginEvent
  simp only [fixed_raiseIf]

theorem fixed_marginEvents (c l s) : fixed (marginEvents c l s) = fixed s := by
  unfold marginEvents
  simp only [fixed_ite, ite_self, fixed_forEach, implies_true, fixed_marginEvent]

theorem fixed_trainChannel (c sweep s) : fixed (trainChannel c sweep s) = fixed s := by
  unfold trainChannel
  simp only [fixed_ite, ite_self, fixed_updChan, fixed_raise, fixed_marginEvents]

theorem fixed_duplicateUnit (l s) : fixed (duplicateUnit l s) = fixed s := by
  unfold duplicateUnit
  simp only [fixed_cwNarrow]

theorem fixed_egressConfigGetBody (q s) : FixedBody s (egressConfigGetBody q s) := by
  unfold egressConfigGetBody
  simp only [fixedBody_ok, fixedBody_checks, okResp]

theorem fixed_egressConfigSetBody (q s) : FixedBody s (egressConfigSetBody q s) := by
  unfold egressConfigSetBody
  simp only [fixedBody_ok, fixedBody_checks, okEmpty, fixed_setEgressCfg]

theorem fixed_endMonWindow (n s) : fixed (endMonWindow n s) = fixed s := by
  unfold endMonWindow
  dsimp only
  (repeat' split) <;> simp only [fixed_updMon, fixed_evalMonitor]

theorem fixed_enterAlone (cause s) : fixed (enterAlone cause s) = fixed s := by
  unfold enterAlone
  simp only [fixed_mk, fixed_enterJoin, fixed_wakeJoint]

theorem fixed_spanNumbers (s) : fixed (spanNumbers s) = fixed s := by
  unfold spanNumbers
  simp only [fixed_mk, fixed_ite, ite_self]

theorem fixed_installSync (l s) : fixed (installSync l s) = fixed s := by
  unfold installSync
  simp only [fixed_mk, fixed_forEach, implies_true, fixed_applyMirror]

theorem fixed_enterJoined (items s) : fixed (enterJoined items s) = fixed s := by
  unfold enterJoined
  simp only [fixed_mk, fixed_ite, ite_self, fixed_spanNumbers, fixed_installSync, fixed_enterMode, fixed_enterJoin, fixed_modeChanged,
      fixed_raise]

theorem fixed_sendNak (l s) : fixed (sendNak l s) = fixed s := by
  unfold sendNak
  simp only [fixed_updLink, fixed_queueCtrl]

theorem fixed_enterWait (l s) : fixed (enterWait l s) = fixed s := by
  unfold enterWait
  simp only [fixed_ite, ite_self, fixed_updLink, fixed_sendNak]

theorem fixed_heldOrEarly (s) : fixed (heldOrEarly s) = fixed s := by
  unfold heldOrEarly
  (repeat' split) <;> simp only [fixed_mk, fixed_setSlotRecord, fixed_commitDone]

theorem fixed_restoreEnds (s) : fixed (restoreEnds s) = fixed s := by
  unfold restoreEnds
  simp only [fixed_mk, fixed_forEach, implies_true, fixed_keyChanged]

theorem fixed_eventAckBody (q s) : FixedBody s (eventAckBody q s) := by
  unfold eventAckBody
  simp only [fixedBody_ok, fixedBody_checks, okEmpty]

theorem fixed_eventConfigSetBody (q s) : FixedBody s (eventConfigSetBody q s) := by
  unfold eventConfigSetBody
  simp only [fixedBody_ok, fixedBody_checks, okEmpty, fixed_updSession]

theorem fixed_eventCounterSetBody (q s) : FixedBody s (eventCounterSetBody q s) := by
  unfold eventCounterSetBody
  simp only [fixedBody_ok, fixedBody_checks, okEmpty, fixed_applyEvtCfg]

theorem fixed_eventFetchBody (q s) : FixedBody s (eventFetchBody q s) := by
  unfold eventFetchBody
  simp only [fixedBody_ok, fixedBody_checks, okResp]

theorem fixed_resend (x seq s) : fixed (resend x seq s) = fixed s := by
  unfold resend
  simp only [fixed_updSession, fixed_sendMsg]

theorem fixed_noteSent (n seq next s) : fixed (noteSent n seq next s) = fixed s := by
  unfold noteSent
  simp only [fixed_updSession]

theorem fixed_passRejected (x next s) : fixed (passRejected x next s) = fixed s := by
  unfold passRejected
  simp only [fixed_mk, fixed_ite, ite_self, fixed_updSession]

theorem fixed_sendNext (x s) : fixed (sendNext x s) = fixed s := by
  unfold sendNext
  dsimp only
  (repeat' split) <;> simp only [fixed_noteSent, fixed_sendMsg, fixed_passRejected]

theorem fixed_examineQueue (p x q s) : fixed (examineQueue p x q s) = fixed s := by
  unfold examineQueue
  (repeat' split) <;> simp only [fixed_ite, ite_self, fixed_updQueue, fixed_countEvt, fixed_countTx]

theorem fixed_examine (p x s) : fixed (examine p x s) = fixed s := by
  unfold examine
  simp only [fixed_forEach, implies_true, fixed_updEgress, fixed_examineQueue]

theorem fixed_runChecks (c x s) (body : State → Body) (h : ∀ v, FixedBody v (body v)) : FixedBody s (runChecks c x s body) := by
  unfold runChecks
  (repeat' split) <;> simp only [fixedBody_error, h]

theorem fixed_execute (c q s) (body : State → Body) (h : ∀ v, FixedBody v (body v)) : fixed (execute c q body s) = fixed s := by
  have hr := fixed_runChecks c (findSession q.session s) s _ (fun v => fixed_bodyOrRun c q (findSession q.session s) v body h)
  unfold execute
  dsimp only
  split
  · rename_i e; rw [fixed_finish]; exact hr _ _ e
  · rename_i e; rw [fixed_finish]; exact hr _ _ e
  · rename_i e; exact hr _ _ e
  · rw [fixed_finish]

theorem fixed_fcsError (p s) : fixed (fcsError p s) = fixed s := by
  unfold fcsError
  simp only [fixed_ite, ite_self, fixed_countPort, fixed_tallyAdd]

theorem fixed_fecStep (l n s) : fixed (fecStep l n s) = fixed s := by
  unfold fecStep
  simp only [fixed_ite, ite_self, fixed_updLink, fixed_cwWide, fixed_tallyAdd, fixed_countEvt, fixed_cwNarrow, fixed_lineDown]

theorem fixed_startWake (c src s) : fixed (startWake c src s) = fixed s := by
  unfold startWake
  simp only [fixed_mk, fixed_startTransition, fixed_setTransition]

theorem fixed_wakeBy (src s) : fixed (wakeBy src s) = fixed s := by
  unfold wakeBy
  simp only [fixed_mk, fixed_ite, ite_self, fixed_startWake, fixed_raise, fixed_logEvent]

theorem fixed_finishRepair (r clean s) : fixed (finishRepair r clean s) = fixed s := by
  unfold finishRepair
  simp only [fixed_mk, fixed_ite, ite_self, fixed_dramReport, fixed_updChan, fixed_dramFreeze]

theorem fixed_finishRetrain (c force sweep s) : fixed (finishRetrain c force sweep s) = fixed s := by
  unfold finishRetrain
  simp only [fixed_updChan, fixed_raise]

theorem fixed_fioClearBody (q s) : FixedBody s (fioClearBody q s) := by
  unfold fioClearBody
  simp only [fixedBody_ok, fixedBody_checks, okEmpty, fixed_forEach, implies_true,
      fixed_updFio]

theorem fixed_fioConfigSetBody (q s) : FixedBody s (fioConfigSetBody q s) := by
  unfold fioConfigSetBody
  simp only [fixedBody_ok, fixedBody_checks, okEmpty, fixed_applyFioCfg]

theorem fixed_fioOutputSetBody (q s) : FixedBody s (fioOutputSetBody q s) := by
  unfold fioOutputSetBody
  simp only [fixedBody_ok, fixedBody_checks, okResp, fixed_forEach, implies_true,
      fixed_updFio]

theorem fixed_fioPulseBody (q s) : FixedBody s (fioPulseBody q s) := by
  unfold fioPulseBody
  (repeat' split) <;> simp only [fixedBody_ok, fixedBody_error, fixedBody_checks, okResp, fixed_updFio,
      fixed_takeTimer]

theorem fixed_fioStatusGetBody (q s) : FixedBody s (fioStatusGetBody q s) := by
  unfold fioStatusGetBody
  simp only [fixedBody_ok, fixedBody_checks, okResp]

theorem fixed_flipTout (n s) : fixed (flipTout n s) = fixed s := by
  unfold flipTout
  simp only [fixed_mk]

theorem fixed_followArm (id epoch s) : fixed (followArm id epoch s) = fixed s := by
  unfold followArm
  (repeat' split) <;> simp only [fixed_armCommit]

theorem fixed_fragFull (s) : fixed (fragFull s) = fixed s := by
  unfold fragFull
  simp only [fixed_mk, fixed_ite, ite_self, fixed_raise]

theorem fixed_fragStatusGetBody (q s) : FixedBody s (fragStatusGetBody q s) := by
  unfold fragStatusGetBody
  simp only [fixedBody_ok, fixedBody_checks, okResp]

theorem fixed_noteStalls (l s) : fixed (noteStalls l s) = fixed s := by
  unfold noteStalls
  simp only [fixed_ite, ite_self, fixed_updLink, fixed_endStall, fixed_endCreditStall]

theorem fixed_lineSend (l bytes s) : fixed (lineSend l bytes s) = fixed s := by
  unfold lineSend
  simp only [fixed_emit, fixed_updLink]

theorem fixed_resendKept (l k s) : fixed (resendKept l k s) = fixed s := by
  unfold resendKept
  simp only [fixed_ite, ite_self, fixed_cwWide, fixed_updLink, fixed_lineSend]

theorem fixed_replaySlot (l s v) (h : replaySlot l s = some v) : fixed v = fixed s := by
  unfold replaySlot at h
  dsimp only at h
  revert h
  (repeat' split) <;> intro h <;> cases h <;> simp only [fixed_lineSend, fixed_updLink, fixed_resendKept]

theorem fixed_numberUnits (l us x s) : fixed (numberUnits l us x s) = fixed s := by
  unfold numberUnits
  simp only [fixed_cwWide, fixed_updLink]

theorem fixed_jointSlot (l s) : fixed (jointSlot l s) = fixed s := by
  unfold jointSlot
  dsimp only
  (repeat' split) <;> simp only [fixed_lineSend, fixed_updLink, fixed_numberUnits]

theorem fixed_trunkSlot (l s) : fixed (trunkSlot l s) = fixed s := by
  unfold trunkSlot
  simp only [fixed_ite, ite_self, fixed_lineSend, fixed_updLink, fixed_numberUnits]

theorem fixed_freeUnit (l vc s) : fixed (freeUnit l vc s) = fixed s := by
  unfold freeUnit
  simp only [fixed_ite, ite_self, fixed_updLink, fixed_sendCredit]

theorem fixed_fwdConfigGetBody (q s) : FixedBody s (fwdConfigGetBody q s) := by
  unfold fwdConfigGetBody
  simp only [fixedBody_ok, fixedBody_checks, okResp]

theorem fixed_fwdConfigSetBody (q s) : FixedBody s (fwdConfigSetBody q s) := by
  unfold fwdConfigSetBody
  simp only [fixedBody_ok, fixedBody_checks, okEmpty, fixed_mirrored, fixed_setFwd]

theorem fixed_gateListGetBody (q s) : FixedBody s (gateListGetBody q s) := by
  unfold gateListGetBody
  dsimp only
  (repeat' split) <;> simp only [fixedBody_ok, fixedBody_checks, okResp, fixed_bumpFree]

theorem fixed_gateListSetBody (q s) : FixedBody s (gateListSetBody q s) := by
  unfold gateListSetBody
  dsimp only
  (repeat' split) <;> simp only [fixedBody_ok, fixedBody_checks, okResp, fixed_updEgress]

theorem fixed_goAlone (cause s) : fixed (goAlone cause s) = fixed s := by
  unfold goAlone
  simp only [fixed_raise, fixed_enterAlone]

theorem fixed_takeCtrl (l u s) : fixed (takeCtrl l u s) = fixed s := by
  unfold takeCtrl
  (repeat' split) <;> simp only [fixed_ite, ite_self, fixed_receiveInit, fixed_ackTo, fixed_peerStrikeNote, fixed_nakTo,
      fixed_updLink, fixed_takeCredit]

theorem fixed_takeOther (l u s) : fixed (takeOther l u s) = fixed s := by
  unfold takeOther
  (repeat' split) <;> simp only [fixed_takeCtrl, fixed_cwCrcFail]

theorem fixed_installFollow (k d c s) : fixed (installFollow k d c s) = fixed s := by
  unfold installFollow
  simp only [fixed_mk, fixed_ite, ite_self, fixed_fragFull]

theorem fixed_pipeline (k ts trie reinjected s) : fixed (pipeline k ts trie reinjected s) = fixed s := by
  unfold pipeline
  (repeat' split) <;> simp only [fixed_mk, fixed_ite, ite_self, fixed_puntFrame, fixed_carryCaptured, fixed_classify, fixed_installFollow]

theorem fixed_queueResult (r s) : fixed (queueResult r s) = fixed s := by
  unfold queueResult
  simp only [fixed_mk, fixed_ite, ite_self, fixed_learnRefused, fixed_countLearn]

theorem fixed_postResult (w s) : fixed (postResult w s) = fixed s := by
  unfold postResult
  simp only [fixed_ite, ite_self, fixed_contestEvent, fixed_countLearn, fixed_sendVc0, fixed_queueResult]

theorem fixed_notify (mac vlan port ts s) : fixed (notify mac vlan port ts s) = fixed s := by
  unfold notify
  dsimp only
  (repeat' split) <;> simp only [fixed_mk, fixed_postResult]

theorem fixed_postNote (k ts s) : fixed (postNote k ts s) = fixed s := by
  unfold postNote
  simp only [fixed_countEvt, fixed_countLearn, fixed_notify]

theorem fixed_staticConflict (k slot e s) : fixed (staticConflict k slot e s) = fixed s := by
  unfold staticConflict
  dsimp only
  (repeat' split) <;> simp only [fixed_mk, fixed_countLearn, fixed_raise]

theorem fixed_learnFrame (k ts s) : fixed (learnFrame k ts s) = fixed s := by
  unfold learnFrame
  (repeat' split) <;> simp only [fixed_mk, fixed_ite, ite_self, fixed_postNote, fixed_countLearn, fixed_staticConflict]

theorem fixed_ingress (port frame ts trie s) : fixed (ingress port frame ts trie s) = fixed s := by
  unfold ingress
  simp only [fixed_ite, ite_self, fixed_pipeline, fixed_learnFrame, fixed_countScada]

theorem fixed_updGroup (g f s) : fixed (updGroup g f s) = fixed s := by
  unfold updGroup
  simp only [fixed_mk]

theorem fixed_tableErrorEvent (g index kind repaired s) : fixed (tableErrorEvent g index kind repaired s) = fixed s := by
  unfold tableErrorEvent
  simp only [fixed_ite, ite_self, fixed_updGroup, fixed_raise]

theorem fixed_trieReadBad (c line beats s) : fixed (trieReadBad c line beats s) = fixed s := by
  unfold trieReadBad
  simp only [fixed_ite, ite_self, fixed_updChan, fixed_tableErrorEvent, fixed_dramFreeze, fixed_queueRepair]

theorem fixed_trieSide (p frame trie s) : fixed (trieSide p frame trie s) = fixed s := by
  unfold trieSide
  (repeat' split) <;> simp only [fixed_trieReadBad]

theorem fixed_trunkPacket (p at0 b trie s) : fixed (trunkPacket p at0 b trie s) = fixed s := by
  unfold trunkPacket
  simp only [fixed_ite, ite_self, fixed_updPortCtrs, fixed_countAccepted, fixed_ingress, fixed_trieSide]

theorem fixed_packetDone (l vc at0 b trie s) : fixed (packetDone l vc at0 b trie s) = fixed s := by
  unfold packetDone
  simp only [fixed_ite, ite_self, fixed_trunkPacket]

theorem fixed_takeUnit (l trie u s) : fixed (takeUnit l trie u s) = fixed s := by
  unfold takeUnit
  dsimp only
  (repeat' split) <;> simp only [fixed_freeUnit, fixed_updLink, fixed_packetDone]

theorem fixed_takeUnits (l trie us s) : fixed (takeUnits l trie us s) = fixed s := by
  unfold takeUnits
  simp only [fixed_ite, ite_self, fixed_forEach, implies_true, fixed_takeUnit, fixed_takeOther]

theorem fixed_goodFrame (l raw trie s) : fixed (goodFrame l raw trie s) = fixed s := by
  unfold goodFrame
  simp only [fixed_ite, ite_self, fixed_forEach, implies_true, fixed_peerStrikeNote, fixed_ackTo, fixed_nakTo, fixed_takeOther,
      fixed_takeUnits, fixed_advanceE, fixed_duplicateUnit, fixed_enterWait]

theorem fixed_gpioConfigSetBody (q s) : FixedBody s (gpioConfigSetBody q s) := by
  unfold gpioConfigSetBody
  simp only [fixedBody_ok, fixedBody_checks, okEmpty, fixed_releaseUart0,
      fixed_applyGpioCfg]

theorem fixed_gpioReadBody (q ext s) : FixedBody s (gpioReadBody q ext s) := by
  unfold gpioReadBody
  simp only [fixedBody_ok, fixedBody_checks, okResp, fixed_mk]

theorem fixed_gpioWriteBody (q s) : FixedBody s (gpioWriteBody q s) := by
  unfold gpioWriteBody
  simp only [fixedBody_ok, fixedBody_checks, okResp, fixed_mk]

theorem fixed_halfLeaves (l s) : fixed (halfLeaves l s) = fixed s := by
  unfold halfLeaves
  (repeat' split) <;> simp only [fixed_portGoesDown]

theorem fixed_stopRun (c s) : fixed (stopRun c s) = fixed s := by
  unfold stopRun
  simp only [fixed_mk, fixed_setTransition, fixed_setCause]

theorem fixed_holdMaster (m h s) : fixed (holdMaster m h s) = fixed s := by
  unfold holdMaster
  simp only [fixed_mk]

theorem fixed_holdMessage (m s) : fixed (holdMessage m s) = fixed s := by
  unfold holdMessage
  simp only [fixed_mk, fixed_ite, ite_self, fixed_countDiscard]

theorem fixed_muxWrite (p c s) : fixed (muxWrite p c s) = fixed s := by
  unfold muxWrite
  simp only [fixed_ite, ite_self, fixed_emit]

theorem fixed_i2cBegin (m s) : fixed (i2cBegin m s) = fixed s := by
  unfold i2cBegin
  simp only [fixed_mk, fixed_ite, ite_self, fixed_emit]

theorem fixed_pageWrite (p c page off s) : fixed (pageWrite p c page off s) = fixed s := by
  unfold pageWrite
  simp only [fixed_ite, ite_self, fixed_updCage, fixed_emit]

theorem fixed_i2cAccess (p write page off data ans s) : fixed (i2cAccess p write page off data ans s) = fixed s := by
  unfold i2cAccess
  (repeat' split) <;> simp only [fixed_muxWrite, fixed_i2cBegin, fixed_emit, fixed_pageWrite]

theorem fixed_identityGetBody (q s) : FixedBody s (identityGetBody q s) := by
  unfold identityGetBody
  simp only [fixedBody_ok, fixedBody_checks, okResp]

theorem fixed_switchUnder (cut vin s) : fixed (switchUnder cut vin s) = fixed s := by
  unfold switchUnder
  simp only [fixed_mk, fixed_ite, ite_self, fixed_setVin, fixed_raise, fixed_compareVin]

theorem fixed_jointData (l u trie s) : fixed (jointData l u trie s) = fixed s := by
  unfold jointData
  simp only [fixed_ite, ite_self, fixed_updLink, fixed_takeUnit, fixed_advanceE, fixed_sendAck, fixed_duplicateUnit]

theorem fixed_jointUnit (l u trie s) : fixed (jointUnit l u trie s) = fixed s := by
  unfold jointUnit
  simp only [fixed_ite, ite_self, fixed_jointData, fixed_takeOther, fixed_enterWait, fixed_cwCrcFail]

theorem fixed_launchReceived (x s) : fixed (launchReceived x s) = fixed s := by
  unfold launchReceived
  simp only [fixed_launchLocal]

theorem fixed_updRemote (k d f s) : fixed (updRemote k d f s) = fixed s := by
  unfold updRemote
  simp only [fixed_mk]

theorem fixed_releaseRemote (k d c s) : fixed (releaseRemote k d c s) = fixed s := by
  unfold releaseRemote
  (repeat' split) <;> simp only [fixed_launchReceived, fixed_updRemote]

theorem fixed_skipRemote (k d n s) : fixed (skipRemote k d n s) = fixed s := by
  unfold skipRemote
  simp only [fixed_ite, ite_self, fixed_countSpan, fixed_updRemote]

theorem fixed_jumpRemote (n k d target s) : fixed (jumpRemote n k d target s) = fixed s := by
  induction n generalizing s with
  | zero => rfl
  | succ n ih =>
    unfold jumpRemote
    dsimp only
    (repeat' split) <;> simp only [ih, fixed_releaseRemote, fixed_skipRemote, fixed_updRemote]

theorem fixed_keyClearBody (q s) : FixedBody s (keyClearBody q s) := by
  unfold keyClearBody
  simp only [fixedBody_ok, fixedBody_checks, okEmpty, fixed_clearSlot]

theorem fixed_keyLoadBody (q broken s) : FixedBody s (keyLoadBody q broken s) := by
  unfold keyLoadBody
  dsimp only
  (repeat' split) <;> simp only [fixedBody_ok, fixedBody_error, fixedBody_checks, okResp, fixed_loadSlot,
      fixed_countCompare]

theorem fixed_keyStatusGetBody (q s) : FixedBody s (keyStatusGetBody q s) := by
  unfold keyStatusGetBody
  simp only [fixedBody_ok, fixedBody_checks, okResp]

theorem fixed_kmpExec (c q s0) (body : State → Body) (h : ∀ v, FixedBody v (body v)) :
    fixed (kmpExec c q body s0) = fixed (advance q.t s0) := by
  unfold kmpExec
  dsimp only
  generalize advance q.t s0 = s
  have ht : ∀ a : Arrival, arrive c.row.code q (takeRequest (if q.remote then s else countRx q.transport s)) = a →
      fixed (arrivalState a) = fixed s := fun a e => by
    rw [← e, fixed_arrive, fixed_takeRequest]; simp only [fixed_ite, fixed_countRx, ite_self]
  (repeat' split) <;> try simp only [fixed_execute _ _ _ _ h, fixed_enqueue, fixed_relayMsg, fixed_holdMessage, fixed_countRx, fixed_mk]
  all_goals (rename_i e; first | exact ht _ e | (rename_i e2; exact ht _ e2) | (rename_i e3 _; exact ht _ e3) | skip)

theorem fixed_laneConfigGetBody (q s) : FixedBody s (laneConfigGetBody q s) := by
  unfold laneConfigGetBody
  simp only [fixedBody_ok, fixedBody_checks, okResp]

theorem fixed_laneEyeGetBody (q s) : FixedBody s (laneEyeGetBody q s) := by
  unfold laneEyeGetBody
  simp only [fixedBody_ok, fixedBody_checks, okResp]

theorem fixed_laneEyeStartBody (q s) : FixedBody s (laneEyeStartBody q s) := by
  unfold laneEyeStartBody
  simp only [fixedBody_ok, fixedBody_checks, okEmpty, fixed_mk]

theorem fixed_takeErrors (l errs struck s) : fixed (takeErrors l errs struck s) = fixed s := by
  unfold takeErrors
  dsimp only
  (repeat' split) <;> simp only [fixed_mk, fixed_updLane]

theorem fixed_lanePrbsGetBody (q errs struck s) : FixedBody s (lanePrbsGetBody q errs struck s) := by
  unfold lanePrbsGetBody
  simp only [fixedBody_ok, fixedBody_checks, okResp, fixed_takeErrors]

theorem fixed_setHalves (l tx rx s) : fixed (setHalves l tx rx s) = fixed s := by
  unfold setHalves
  simp only [fixed_ite, ite_self, fixed_setTx, fixed_halfLeaves, fixed_setRx]

theorem fixed_laneSleepSetBody (q s) : FixedBody s (laneSleepSetBody q s) := by
  unfold laneSleepSetBody
  simp only [fixedBody_ok, fixedBody_checks, okEmpty, fixed_setHalves]

theorem fixed_laneStatusGetBody (q s) : FixedBody s (laneStatusGetBody q s) := by
  unfold laneStatusGetBody
  simp only [fixedBody_ok, fixedBody_checks, okResp]

theorem fixed_startTest (l p s) : fixed (startTest l p s) = fixed s := by
  unfold startTest
  simp only [fixed_ite, ite_self, fixed_updLane, fixed_ownLane, fixed_coldAcquire]

theorem fixed_laneTestSetBody (q s) : FixedBody s (laneTestSetBody q s) := by
  unfold laneTestSetBody
  dsimp only
  (repeat' split) <;> simp only [fixedBody_ok, fixedBody_checks, okEmpty, fixed_stopTest,
      fixed_startTest]

theorem fixed_lapseEmpty (p s) : fixed (lapseEmpty p s) = fixed s := by
  unfold lapseEmpty
  simp only [fixed_ite, ite_self, fixed_forEach, implies_true, fixed_updQueue]

theorem fixed_messageArrives (t d m s) : fixed (messageArrives t d m s) = fixed s := by
  unfold messageArrives
  simp only [fixed_ite, ite_self, fixed_countDiscard, fixed_relayMsg, fixed_countRx, fixed_holdMessage, fixed_messageTaken]

theorem fixed_ranOnPartner (code q status resp s) : fixed (ranOnPartner code q status resp s) = fixed s := by
  unfold ranOnPartner
  simp only [fixed_mk, fixed_ite, ite_self, fixed_finish]

theorem fixed_relayedEvent (code payload s) : fixed (relayedEvent code payload s) = fixed s := by
  unfold relayedEvent
  simp only [fixed_mk, fixed_logEvent]

theorem fixed_seenLater (v m at0 s) : fixed (seenLater v m at0 s) = fixed s := by
  unfold seenLater
  (repeat' split) <;> simp only [fixed_putBridge]

theorem fixed_portGoesUp (p anDone s) : fixed (portGoesUp p anDone s) = fixed s := by
  unfold portGoesUp
  simp only [fixed_portLinkEvent, fixed_updPort]

theorem fixed_logReadBody (q s) : FixedBody s (logReadBody q s) := by
  unfold logReadBody
  dsimp only
  (repeat' split) <;> simp only [fixedBody_ok, fixedBody_checks, okResp, fixed_bumpFree]

theorem fixed_m0Discard (s) : fixed (m0Discard s) = fixed s := by
  unfold m0Discard
  simp only [fixed_mk, fixed_countDiscard]

theorem fixed_m0Send (dmac typ body s) : fixed (m0Send dmac typ body s) = fixed s := by
  unfold m0Send
  simp only [fixed_emit]

theorem fixed_m0Arp (b s) : fixed (m0Arp b s) = fixed s := by
  unfold m0Arp
  simp only [fixed_ite, ite_self, fixed_m0Send, fixed_m0Discard]

theorem fixed_m0Ip4 (t smac b s) : fixed (m0Ip4 t smac b s) = fixed s := by
  unfold m0Ip4
  simp only [fixed_ite, ite_self, fixed_m0Discard, fixed_m0Send, fixed_messageArrives]

theorem fixed_m0Ip6 (t smac b s) : fixed (m0Ip6 t smac b s) = fixed s := by
  unfold m0Ip6
  simp only [fixed_ite, ite_self, fixed_m0Discard, fixed_m0Send, fixed_messageArrives]

theorem fixed_m0Accept (t raw s) : fixed (m0Accept t raw s) = fixed s := by
  unfold m0Accept
  (repeat' split) <;> simp only [fixed_ite, ite_self, fixed_m0Discard, fixed_m0Arp, fixed_m0Ip4, fixed_m0Ip6]

theorem fixed_m0ConfigGetBody (q s) : FixedBody s (m0ConfigGetBody q s) := by
  unfold m0ConfigGetBody
  simp only [fixedBody_ok, fixedBody_checks, okResp]

theorem fixed_noteRun (x off s) : fixed (noteRun x off s) = fixed s := by
  unfold noteRun
  (repeat' split) <;> simp only [fixed_mk]

theorem fixed_measure (x off s) : fixed (Machine.measure x off s) = fixed s := by
  unfold Machine.measure
  simp only [fixed_ite, ite_self, fixed_reselect, fixed_noteRun, fixed_correct]

theorem fixed_meterGetBody (q s) : FixedBody s (meterGetBody q s) := by
  unfold meterGetBody
  simp only [fixedBody_ok, fixedBody_checks, okResp]

theorem fixed_meterSetBody (q s) : FixedBody s (meterSetBody q s) := by
  unfold meterSetBody
  simp only [fixedBody_ok, fixedBody_checks, okEmpty, fixed_updMeter]

theorem fixed_modeConfigGetBody (q s) : FixedBody s (modeConfigGetBody q s) := by
  unfold modeConfigGetBody
  simp only [fixedBody_ok, fixedBody_checks, okResp]

theorem fixed_modeConfigSetBody (q s) : FixedBody s (modeConfigSetBody q s) := by
  unfold modeConfigSetBody
  simp only [fixedBody_ok, fixedBody_checks, okEmpty, fixed_setModeConfig]

theorem fixed_modeGetBody (q s) : FixedBody s (modeGetBody q s) := by
  unfold modeGetBody
  simp only [fixedBody_ok, fixedBody_checks, okResp]

theorem fixed_withTarget (n s) : fixed (withTarget n s) = fixed s := by
  unfold withTarget
  simp only [fixed_mk]

theorem fixed_modeSetIdle (n reqId s) : fixed (modeSetIdle n reqId s).1 = fixed s := by
  unfold modeSetIdle
  (repeat' split) <;> simp only [fixed_mk, fixed_commandOn, fixed_commandUp]

theorem fixed_modeSetGo (n reqId s0) : fixed (modeSetGo n reqId s0).1 = fixed s0 := by
  unfold modeSetGo
  dsimp only
  (repeat' split) <;> simp only [fixed_mk, fixed_withTarget, fixed_modeSetIdle, fixed_setTransition, fixed_undoClimb]

theorem fixed_modeSetBody (q s) : FixedBody s (modeSetBody q s) := by
  unfold modeSetBody
  simp only [fixedBody_ok, fixedBody_checks, okResp, fixed_modeSetGo]

theorem fixed_monitorGetBody (q s) : FixedBody s (monitorGetBody q s) := by
  unfold monitorGetBody
  simp only [fixedBody_ok, fixedBody_checks, okResp]

theorem fixed_monitorSetBody (q s) : FixedBody s (monitorSetBody q s) := by
  unfold monitorSetBody
  simp only [fixedBody_ok, fixedBody_checks, okEmpty, fixed_applyMonCfg]

theorem fixed_noteSojourn (p q ns s) : fixed (noteSojourn p q ns s) = fixed s := by
  unfold noteSojourn
  simp only [fixed_mk, fixed_ite, ite_self, fixed_updQueue, fixed_delayEvent, fixed_countTx]

theorem fixed_opticsEvent (p step result s) : fixed (opticsEvent p step result s) = fixed s := by
  unfold opticsEvent
  simp only [fixed_raise]

theorem fixed_pollFound (p found ident s) : fixed (pollFound p found ident s) = fixed s := by
  unfold pollFound
  simp only [fixed_ite, ite_self, fixed_updCage, fixed_startOptic, fixed_raise]

theorem fixed_opticsReply (p write q n ans s) : FixedBody s (opticsReply p write q n ans s) := by
  unfold opticsReply
  (repeat' split) <;> simp only [fixedBody_ok, fixed_holdMaster]

theorem fixed_opticsReadBody (q ans s) : FixedBody s (opticsReadBody q ans s) := by
  unfold opticsReadBody
  refine fixedBody_checks _ _ _ (fixedBody_trans ?_ (fixed_opticsReply _ _ _ _ _ _))
  exact fixed_i2cAccess _ _ _ _ _ _ _

theorem fixed_stepWrite (p step s) : fixed (stepWrite p step s) = fixed s := by
  unfold stepWrite
  simp only [fixed_ite, ite_self, fixed_emit, fixed_muxWrite, fixed_i2cBegin, fixed_pageWrite]

theorem fixed_opticsWriteBody (q ans s) : FixedBody s (opticsWriteBody q ans s) := by
  unfold opticsWriteBody
  refine fixedBody_checks _ _ _ (fixedBody_trans ?_ (fixed_opticsReply _ _ _ _ _ _))
  exact fixed_i2cAccess _ _ _ _ _ _ _

theorem fixed_parseConfigGetBody (q s) : FixedBody s (parseConfigGetBody q s) := by
  unfold parseConfigGetBody
  simp only [fixedBody_ok, fixedBody_checks, okResp]

theorem fixed_parseConfigSetBody (q s) : FixedBody s (parseConfigSetBody q s) := by
  unfold parseConfigSetBody
  simp only [fixedBody_ok, fixedBody_checks, okEmpty, fixed_mk]

theorem fixed_perfConfigSetBody (q s) : FixedBody s (perfConfigSetBody q s) := by
  unfold perfConfigSetBody
  simp only [fixedBody_ok, fixedBody_checks, okEmpty, fixed_updCore]

theorem fixed_perfReadBody (q counts s) : FixedBody s (perfReadBody q counts s) := by
  unfold perfReadBody
  simp only [fixedBody_ok, fixedBody_checks, okResp]

theorem fixed_perfSampleGetBody (q s) : FixedBody s (perfSampleGetBody q s) := by
  unfold perfSampleGetBody
  simp only [fixedBody_ok, fixedBody_checks, okResp]

theorem fixed_portClassGetBody (q s) : FixedBody s (portClassGetBody q s) := by
  unfold portClassGetBody
  simp only [fixedBody_ok, fixedBody_checks, okResp]

theorem fixed_portClassSetBody (q s) : FixedBody s (portClassSetBody q s) := by
  unfold portClassSetBody
  simp only [fixedBody_ok, fixedBody_checks, okEmpty, fixed_setPortClass]

theorem fixed_portLearnSetBody (q s) : FixedBody s (portLearnSetBody q s) := by
  unfold portLearnSetBody
  simp only [fixedBody_ok, fixedBody_checks, okEmpty, fixed_setPortLearn]

theorem fixed_portStatusGetBody (q s) : FixedBody s (portStatusGetBody q s) := by
  unfold portStatusGetBody
  simp only [fixedBody_ok, fixedBody_checks, okResp]

theorem fixed_ppsPulse (s) : fixed (ppsPulse s) = fixed s := by
  unfold ppsPulse
  simp only [fixed_mk, fixed_ite, ite_self, fixed_measure]

theorem fixed_puntConfigSetBody (q s) : FixedBody s (puntConfigSetBody q s) := by
  unfold puntConfigSetBody
  simp only [fixedBody_ok, fixedBody_checks, okEmpty, fixed_setPunt]

theorem fixed_queueStatusGetBody (q s) : FixedBody s (queueStatusGetBody q s) := by
  unfold queueStatusGetBody
  simp only [fixedBody_ok, fixedBody_checks, okResp, fixed_ite, ite_self, fixed_clearHwm]

theorem fixed_readTemp (c temp s) : fixed (readTemp c temp s) = fixed s := by
  unfold readTemp
  simp only [fixed_ite, ite_self, fixed_updChan, fixed_makeDue]

theorem fixed_reinject (h trie s) : fixed (reinject h trie s) = fixed s := by
  unfold reinject
  simp only [fixed_mk, fixed_pipeline]

theorem fixed_reinjectWith (f h trie s) : fixed (reinjectWith f h trie s) = fixed s := by
  unfold reinjectWith
  (repeat' split) <;> simp only [fixed_mk, fixed_reinject, fixed_carryCaptured]

theorem fixed_reinjectDatagram (l trie s) : fixed (reinjectDatagram l trie s) = fixed s := by
  unfold reinjectDatagram
  simp only [fixed_ite, ite_self, fixed_forEach, implies_true, fixed_reinject, fixed_reinjectWith]

theorem fixed_runRemote (n k d s) : fixed (runRemote n k d s) = fixed s := by
  induction n generalizing s with
  | zero => rfl
  | succ n ih =>
    unfold runRemote
    dsimp only
    split <;> simp only [ih, fixed_releaseRemote, fixed_updRemote]

theorem fixed_takeRemote (k d c s) : fixed (takeRemote k d c s) = fixed s := by
  unfold takeRemote
  simp only [fixed_ite, ite_self, fixed_runRemote, fixed_releaseRemote, fixed_updRemote]

theorem fixed_skipRemoteTo (k d target s) : fixed (skipRemoteTo k d target s) = fixed s := by
  unfold skipRemoteTo
  simp only [fixed_runRemote, fixed_jumpRemote]

theorem fixed_remoteCell (k d c s) : fixed (remoteCell k d c s) = fixed s := by
  unfold remoteCell
  simp only [fixed_ite, ite_self, fixed_takeRemote, fixed_skipRemoteTo]

theorem fixed_removeEntry (g i s) : fixed (removeEntry g i s) = fixed s := by
  unfold removeEntry
  simp only [fixed_mk, fixed_ite, ite_self, fixed_putBridge]

theorem fixed_trunkFrame (l raw hit trie s) : fixed (trunkFrame l raw hit trie s) = fixed s := by
  unfold trunkFrame
  simp only [fixed_ite, ite_self, fixed_enterWait, fixed_cwCrcFail, fixed_goodFrame]

theorem fixed_restoreTransport (r s) : fixed (restoreTransport r s) = fixed s := by
  unfold restoreTransport
  (repeat' split) <;> simp only [fixed_mk]

theorem fixed_runSlice (c sweep s) : fixed (runSlice c sweep s) = fixed s := by
  unfold runSlice
  simp only [fixed_ite, ite_self, fixed_updChan, fixed_finishRetrain]

theorem fixed_rtcAlarmSetBody (q s) : FixedBody s (rtcAlarmSetBody q s) := by
  unfold rtcAlarmSetBody
  simp only [fixedBody_ok, fixedBody_checks, okEmpty, fixed_mk]

theorem fixed_setRtc (ticks s) : fixed (setRtc ticks s) = fixed s := by
  unfold setRtc
  simp only [fixed_mk]

theorem fixed_schedGetBody (q s) : FixedBody s (schedGetBody q s) := by
  unfold schedGetBody
  simp only [fixedBody_ok, fixedBody_checks, okResp]

theorem fixed_schedSetBody (q s) : FixedBody s (schedSetBody q s) := by
  unfold schedSetBody
  simp only [fixedBody_ok, fixedBody_checks, okEmpty, fixed_setSched]

theorem fixed_setBank (p s) : fixed (setBank p s) = fixed s := by
  unfold setBank
  simp only [fixed_updBank]

theorem fixed_searchBankSetBody (q s) : FixedBody s (searchBankSetBody q s) := by
  unfold searchBankSetBody
  simp only [fixedBody_ok, fixedBody_checks, okEmpty, fixed_setBank]

theorem fixed_searchInsertBody (q s) : FixedBody s (searchInsertBody q s) := by
  unfold searchInsertBody
  dsimp only
  (repeat' split) <;> simp only [fixedBody_ok, fixedBody_error, fixedBody_checks, okResp, fixed_updBank]

theorem fixed_searchReadBody (q s) : FixedBody s (searchReadBody q s) := by
  unfold searchReadBody
  simp only [fixedBody_ok, fixedBody_checks, okResp]

theorem fixed_searchWriteBody (q s) : FixedBody s (searchWriteBody q s) := by
  unfold searchWriteBody
  simp only [fixedBody_ok, fixedBody_checks, okEmpty, fixed_updBank]

theorem fixed_sendTrunk (p x s) : fixed (sendTrunk p x s) = fixed s := by
  unfold sendTrunk
  simp only [fixed_ite, ite_self, fixed_updLink]

theorem fixed_sendFrame (p q x s) : fixed (sendFrame p q x s) = fixed s := by
  unfold sendFrame
  simp only [fixed_ite, ite_self, fixed_sendTrunk, fixed_captureFrame, fixed_emit]

theorem fixed_sessionCloseBody (q s) : FixedBody s (sessionCloseBody q s) := by
  unfold sessionCloseBody
  simp only [fixedBody_ok, fixedBody_checks, okEmpty, fixed_endSession]

theorem fixed_sessionOpenBody (q s) : FixedBody s (sessionOpenBody q s) := by
  unfold sessionOpenBody
  (repeat' split) <;> simp only [fixedBody_ok, fixedBody_checks, fixed_endSession,
      fixed_addSession, fixed_updRates, fixed_raise]

theorem fixed_sessionStatusBody (q s) : FixedBody s (sessionStatusBody q s) := by
  unfold sessionStatusBody
  simp only [fixedBody_ok, fixedBody_checks, okResp]

theorem fixed_updLive (f s) : fixed (updLive f s) = fixed s := by
  unfold updLive
  simp only [fixed_mk]

theorem fixed_setBad (g i b s) : fixed (setBad g i b s) = fixed s := by
  unfold setBad
  (repeat' split) <;> simp only [fixed_mk, fixed_updLive]

theorem fixed_setStageState (g s) : fixed (setStageState g s) = fixed s := by
  unfold setStageState
  simp only [fixed_mk]

theorem fixed_setVio (n x s) : fixed (setVio n x s) = fixed s := by
  unfold setVio
  simp only [fixed_mk]

theorem fixed_siteLabelGetBody (q s) : FixedBody s (siteLabelGetBody q s) := by
  unfold siteLabelGetBody
  simp only [fixedBody_ok, fixedBody_checks, okResp]

theorem fixed_siteLabelSetBody (q s) : FixedBody s (siteLabelSetBody q s) := by
  unfold siteLabelSetBody
  simp only [fixedBody_ok, fixedBody_checks, okEmpty, fixed_mk]

theorem fixed_snapshotReadBody (q s) : FixedBody s (snapshotReadBody q s) := by
  unfold snapshotReadBody
  (repeat' split) <;> simp only [fixedBody_ok, fixedBody_error, fixedBody_checks, okResp]

theorem fixed_storeSnap (s) : fixed (storeSnap s) = fixed s := by
  unfold storeSnap
  simp only [fixed_mk]

theorem fixed_snapshotScheduleSetBody (q s) : FixedBody s (snapshotScheduleSetBody q s) := by
  unfold snapshotScheduleSetBody
  dsimp only
  (repeat' split) <;> simp only [fixedBody_ok, fixedBody_error, fixedBody_checks, okResp, fixed_stopSched,
      fixed_startSched]

theorem fixed_snapshotTakeBody (q s) : FixedBody s (snapshotTakeBody q s) := by
  unfold snapshotTakeBody
  simp only [fixedBody_ok, fixedBody_checks, okResp, fixed_storeSnap]

theorem fixed_spanMismatch (kind value s) : fixed (spanMismatch kind value s) = fixed s := by
  unfold spanMismatch
  simp only [fixed_mk, fixed_ite, ite_self, fixed_enterAlone, fixed_raise]

theorem fixed_spanConfigGetBody (q s) : FixedBody s (spanConfigGetBody q s) := by
  unfold spanConfigGetBody
  simp only [fixedBody_ok, fixedBody_checks, okResp]

theorem fixed_spanJoinBody (q s) : FixedBody s (spanJoinBody q s) := by
  unfold spanJoinBody
  (repeat' split) <;> simp only [fixedBody_ok, fixedBody_checks, okResp, fixed_seekJoin]

theorem fixed_spanLeaveBody (q s) : FixedBody s (spanLeaveBody q s) := by
  unfold spanLeaveBody
  (repeat' split) <;> simp only [fixedBody_ok, fixedBody_checks, okResp, fixed_leaveJoin,
      fixed_modeChanged]

theorem fixed_spanStatusGetBody (q s) : FixedBody s (spanStatusGetBody q s) := by
  unfold spanStatusGetBody
  simp only [fixedBody_ok, fixedBody_checks, okResp]

theorem fixed_spanTargetSetBody (q s) : FixedBody s (spanTargetSetBody q s) := by
  unfold spanTargetSetBody
  simp only [fixedBody_ok, fixedBody_checks, okEmpty, fixed_updSession]

theorem fixed_stageCancelBody (q s) : FixedBody s (stageCancelBody q s) := by
  unfold stageCancelBody
  simp only [fixedBody_ok, fixedBody_checks, okEmpty, fixed_setStageState]

theorem fixed_stageOpenBody (q s) : FixedBody s (stageOpenBody q s) := by
  unfold stageOpenBody
  simp only [fixedBody_ok, fixedBody_checks, okEmpty, fixed_setStageState]

theorem fixed_stageVerifyBody (q s) : FixedBody s (stageVerifyBody q s) := by
  unfold stageVerifyBody
  (repeat' split) <;> simp only [fixedBody_ok, fixedBody_error, fixedBody_checks, okResp, fixed_setStageState]

theorem fixed_stageWritten (g n reqId x d s) : fixed (stageWritten g n reqId x d s) = fixed s := by
  unfold stageWritten
  simp only [fixed_ite, ite_self, fixed_setStageState, fixed_raise, fixed_countCompare]

theorem fixed_stageWriteBody (q s) : FixedBody s (stageWriteBody q s) := by
  unfold stageWriteBody
  dsimp only
  (repeat' split) <;> simp only [fixedBody_ok, fixedBody_error, fixedBody_checks, okEmpty, fixed_stageWritten]

theorem fixed_startFrame (p q x xe s) : fixed (startFrame p q x xe s) = fixed s := by
  unfold startFrame
  (repeat' split) <;> simp only [fixed_ite, ite_self, fixed_updQueue, fixed_updEgress, fixed_lapseEmpty, fixed_advanceTags,
      fixed_countLinkDrop, fixed_sendFrame, fixed_noteSojourn, fixed_countSent, fixed_settleQueue]

theorem fixed_startNext (p x xe s) : fixed (startNext p x xe s) = fixed s := by
  unfold startNext
  dsimp only
  (repeat' split) <;> simp only [fixed_examine, fixed_startFrame]

theorem fixed_startPorts (s) : fixed (startPorts s) = fixed s := by
  unfold startPorts
  simp only [fixed_ite, ite_self, fixed_forEach, implies_true, fixed_startPort, fixed_startLink]

theorem fixed_strikeConfigSetBody (q s) : FixedBody s (strikeConfigSetBody q s) := by
  unfold strikeConfigSetBody
  simp only [fixedBody_ok, fixedBody_checks, okEmpty, fixed_setStrikeConfig]

theorem fixed_strikeStatusGetBody (q s) : FixedBody s (strikeStatusGetBody q s) := by
  unfold strikeStatusGetBody
  simp only [fixedBody_ok, fixedBody_checks, okResp]

theorem fixed_strikeTallyGetBody (q s) : FixedBody s (strikeTallyGetBody q s) := by
  unfold strikeTallyGetBody
  simp only [fixedBody_ok, fixedBody_checks, okResp]

theorem fixed_tableCorrected (g index s) : fixed (tableCorrected g index s) = fixed s := by
  unfold tableCorrected
  simp only [fixed_mk, fixed_updGroup, fixed_tallyAdd, fixed_countEvt, fixed_tableErrorEvent]

theorem fixed_tableUncorrectable (g s) : fixed (tableUncorrectable g s) = fixed s := by
  unfold tableUncorrectable
  simp only [fixed_mk, fixed_updGroup]

theorem fixed_tableCheckFails (g i double s) : fixed (tableCheckFails g i double s) = fixed s := by
  unfold tableCheckFails
  (repeat' split) <;> simp only [fixed_tableCorrected, fixed_bumpFree, fixed_tableErrorEvent,
      fixed_removeEntry, fixed_tableUncorrectable, fixed_setBad]

theorem fixed_tableLookupBody (q s) : FixedBody s (tableLookupBody q s) := by
  unfold tableLookupBody
  simp only [fixedBody_ok, fixedBody_checks, okResp, fixed_bumpFree]

theorem fixed_tableStatusGetBody (q s) : FixedBody s (tableStatusGetBody q s) := by
  unfold tableStatusGetBody
  simp only [fixedBody_ok, fixedBody_checks, okResp]

theorem fixed_thermalSet (cut die s) : fixed (thermalSet cut die s) = fixed s := by
  unfold thermalSet
  simp only [fixed_mk, fixed_ite, ite_self, fixed_raise, fixed_compareVin]

theorem fixed_timeGetBody (q s) : FixedBody s (timeGetBody q s) := by
  unfold timeGetBody
  simp only [fixedBody_ok, fixedBody_checks, okResp]

theorem fixed_timeSetBody (q s) : FixedBody s (timeSetBody q s) := by
  unfold timeSetBody
  simp only [fixedBody_ok, fixedBody_checks, fixed_setQuality, fixed_resetSources,
      fixed_stepTime]

theorem fixed_timeSourceSetBody (q s) : FixedBody s (timeSourceSetBody q s) := by
  unfold timeSourceSetBody
  simp only [fixedBody_ok, fixedBody_checks, okEmpty, fixed_setTimeSources]

theorem fixed_timerClaimBody (q s) : FixedBody s (timerClaimBody q s) := by
  unfold timerClaimBody
  dsimp only
  (repeat' split) <;> simp only [fixedBody_ok, fixedBody_error, fixedBody_checks, okResp, fixed_takeTimer]

theorem fixed_timerReleaseBody (q s) : FixedBody s (timerReleaseBody q s) := by
  unfold timerReleaseBody
  simp only [fixedBody_ok, fixedBody_checks, okEmpty, fixed_setTimer]

theorem fixed_timerStatusGetBody (q s) : FixedBody s (timerStatusGetBody q s) := by
  unfold timerStatusGetBody
  simp only [fixedBody_ok, fixedBody_checks, okResp, fixed_bumpTimes]

theorem fixed_transportConfigGetBody (q s) : FixedBody s (transportConfigGetBody q s) := by
  unfold transportConfigGetBody
  simp only [fixedBody_ok, fixedBody_checks, okResp]

theorem fixed_transportConfigSetBody (q s) : FixedBody s (transportConfigSetBody q s) := by
  unfold transportConfigSetBody
  simp only [fixedBody_ok, fixedBody_checks, okEmpty, fixed_mk, fixed_ite, ite_self, fixed_forEach, implies_true,
      fixed_setTransports, fixed_endSession]

theorem fixed_trussStatusGetBody (q s) : FixedBody s (trussStatusGetBody q s) := by
  unfold trussStatusGetBody
  simp only [fixedBody_ok, fixedBody_checks, okResp]

theorem fixed_vioEvent (n recovered s) : fixed (vioEvent n recovered s) = fixed s := by
  unfold vioEvent
  simp only [fixed_raise]

theorem fixed_vlanSetBody (q s) : FixedBody s (vlanSetBody q s) := by
  unfold vlanSetBody
  simp only [fixedBody_ok, fixedBody_checks, okEmpty, fixed_setVlan]

theorem fixed_wakeConfigSetBody (q s) : FixedBody s (wakeConfigSetBody q s) := by
  unfold wakeConfigSetBody
  simp only [fixedBody_ok, fixedBody_checks, okEmpty, fixed_setWakeConfig]

end Sys2Proof.Laws
end

