-- ==== Sys2Proof/Laws/FrameEvents.lean ====
section
/-! SUPPORT. Laws/FrameEvents.lean: what the events leave alone, but for the clock, which each of them moves to its own instant. -/

namespace Sys2Proof.Laws
open Sys2Proof Sys2Proof.Machine

theorem fixed_abutmentStartEffect (t mv bankA33 bankB33 prtad s0) : fixed (abutmentStartEffect t mv bankA33 bankB33 prtad s0) = fixed (advance t s0) := by
  unfold abutmentStartEffect
  simp only [fixed_mk, fixed_ite, ite_self, fixed_coldStart, fixed_setVin]

theorem fixed_accessErrEffect (t path byte w peek s0) : fixed (accessErrEffect t path byte w peek s0) = fixed (advance t s0) := by
  unfold accessErrEffect
  simp only [fixed_hostRead]

theorem fixed_ackTimerEffect (t l s0) : fixed (ackTimerEffect t l s0) = fixed (advance t s0) := by
  unfold ackTimerEffect
  simp only [fixed_ite, ite_self, fixed_sendAck]

theorem fixed_acquisitionRetryEffect (t l s0) : fixed (acquisitionRetryEffect t l s0) = fixed (advance t s0) := by
  unfold acquisitionRetryEffect
  simp only [fixed_ite, ite_self, fixed_updLane]

theorem fixed_adcCaptureEffect (t s0) : fixed (adcCaptureEffect t s0) = fixed (advance t s0) := by
  unfold adcCaptureEffect
  dsimp only
  generalize advance t s0 = s at *
  (repeat' split) <;> simp only [fixed_raise, fixed_setTimer]

theorem fixed_adcConversionEffect (t c openTest code value s0) : fixed (adcConversionEffect t c openTest code value s0) = fixed (advance t s0) := by
  unfold adcConversionEffect
  simp only [fixed_ite, ite_self, fixed_takeSample, fixed_bumpFree]

theorem fixed_agingSweepEffect (t s0) : fixed (agingSweepEffect t s0) = fixed (advance t s0) := by
  unfold agingSweepEffect
  simp only [fixed_mk, fixed_ite, ite_self, fixed_forEach, implies_true, fixed_sendVc0, fixed_removeDynamic, fixed_mirror]

theorem fixed_alertNHighEffect (t c s0) : fixed (alertNHighEffect t c s0) = fixed (advance t s0) := by
  unfold alertNHighEffect
  simp only [fixed_ite, ite_self, fixed_updChan]

theorem fixed_aloneProbeEffect (t s0) : fixed (aloneProbeEffect t s0) = fixed (advance t s0) := by
  unfold aloneProbeEffect
  simp only [fixed_mk, fixed_ite, ite_self, fixed_wakeJoint]

theorem fixed_aloneProbeEndEffect (t s0) : fixed (aloneProbeEndEffect t s0) = fixed (advance t s0) := by
  unfold aloneProbeEndEffect
  simp only [fixed_mk, fixed_ite, ite_self, fixed_wakeJoint]

theorem fixed_burstTriggerEffect (t l lossNs s0) : fixed (burstTriggerEffect t l lossNs s0) = fixed (advance t s0) := by
  unfold burstTriggerEffect
  simp only [fixed_ite, ite_self, fixed_laneTrigger, fixed_updLane]

theorem fixed_bwWindowEndEffect (t s0) : fixed (bwWindowEndEffect t s0) = fixed (advance t s0) := by
  unfold bwWindowEndEffect
  simp only [fixed_mk, fixed_ite, ite_self, fixed_endBwWindow, fixed_evalBw]

theorem fixed_bypassEffect (t opcode s0) : fixed (bypassEffect t opcode s0) = fixed (advance t s0) := by
  unfold bypassEffect
  simp only [fixed_ite, ite_self, fixed_loadIr]

theorem fixed_caAlertEffect (t c region again s0) : fixed (caAlertEffect t c region again s0) = fixed (advance t s0) := by
  unfold caAlertEffect
  simp only [implies_true, fixed_climbFault, fixed_alertOn]

theorem fixed_cacheExpiryEffect (t s0) : fixed (cacheExpiryEffect t s0) = fixed (advance t s0) := by
  unfold cacheExpiryEffect
  simp only [fixed_mk]

theorem fixed_cdrLockEffect (t l peak s0) : fixed (cdrLockEffect t l peak s0) = fixed (advance t s0) := by
  unfold cdrLockEffect
  simp only [fixed_ite, ite_self, fixed_updLane, fixed_startAlign, fixed_rxLockEvent]

theorem fixed_cdrLossEffect (t l signal s0) : fixed (cdrLossEffect t l signal s0) = fixed (advance t s0) := by
  unfold cdrLossEffect
  simp only [fixed_ite, ite_self, fixed_updLane, fixed_loseCdr]

theorem fixed_cellArrivalEffect (t d s0) : fixed (cellArrivalEffect t d s0) = fixed (advance t s0) := by
  unfold cellArrivalEffect
  dsimp only
  generalize advance t s0 = s at *
  (repeat' split) <;> simp only [fixed_reseqCell, fixed_updDeck]

theorem fixed_cellLaunchEffect (t k slot s0) : fixed (cellLaunchEffect t k slot s0) = fixed (advance t s0) := by
  unfold cellLaunchEffect
  dsimp only
  generalize advance t s0 = s at *
  (repeat' split) <;> simp only [fixed_mk, fixed_enterSlot, fixed_launchCell]

theorem fixed_clampEffect (t s0) : fixed (clampEffect t s0) = fixed (advance t s0) := by
  unfold clampEffect
  simp only [fixed_loadIr]

theorem fixed_climbAbandonedEffect (t vin s0) : fixed (climbAbandonedEffect t vin s0) = fixed (advance t s0) := by
  unfold climbAbandonedEffect
  dsimp only
  generalize advance t s0 = s at *
  (repeat' split) <;> simp only [fixed_setVin, fixed_abandonClimb]

theorem fixed_climbEffect (t vin vhold s0) : fixed (climbEffect t vin vhold s0) = fixed (advance t s0) := by
  unfold climbEffect
  dsimp only
  generalize advance t s0 = s at *
  (repeat' split) <;> simp only [fixed_setVhold, fixed_setVin, fixed_commandOn, fixed_startClimb]

theorem fixed_clockFailEffect (t n s0) : fixed (clockFailEffect t n s0) = fixed (advance t s0) := by
  unfold clockFailEffect
  simp only [fixed_ite, ite_self, fixed_clockFailed, fixed_endClimb, fixed_groupOff]

theorem fixed_commitArmedEffect (t good s0) : fixed (commitArmedEffect t good s0) = fixed (advance t s0) := by
  unfold commitArmedEffect
  dsimp only
  generalize advance t s0 = s at *
  (repeat' split) <;> simp only [fixed_buildDone, fixed_commitFailed]

theorem fixed_commonModeTriggerEffect (t l s0) : fixed (commonModeTriggerEffect t l s0) = fixed (advance t s0) := by
  unfold commonModeTriggerEffect
  simp only [fixed_ite, ite_self, fixed_laneTrigger, fixed_updLane]

theorem fixed_configLoadEffect (t good items s0) : fixed (configLoadEffect t good items s0) = fixed (advance t s0) := by
  unfold configLoadEffect
  dsimp only
  generalize advance t s0 = s at *
  (repeat' split) <;> simp only [fixed_countCompare, fixed_configChosen, fixed_configFails]

theorem fixed_conflictClearEffect (t pin s0) : fixed (conflictClearEffect t pin s0) = fixed (advance t s0) := by
  unfold conflictClearEffect
  simp only [fixed_ite, ite_self, fixed_fioFault, fixed_updFio]

theorem fixed_copyRebuildEffect (t c s0) : fixed (copyRebuildEffect t c s0) = fixed (advance t s0) := by
  unfold copyRebuildEffect
  simp only [fixed_ite, ite_self, fixed_updChan]

theorem fixed_creditTimerEffect (t l s0) : fixed (creditTimerEffect t l s0) = fixed (advance t s0) := by
  unfold creditTimerEffect
  simp only [fixed_ite, ite_self, fixed_sendCredit]

theorem fixed_currentLimitEffect (t pin limited s0) : fixed (currentLimitEffect t pin limited s0) = fixed (advance t s0) := by
  unfold currentLimitEffect
  simp only [fixed_ite, ite_self, fixed_updFio, fixed_recoverOutput]

theorem fixed_cwAckEffect (t l seq strike s0) : fixed (cwAckEffect t l seq strike s0) = fixed (advance t s0) := by
  unfold cwAckEffect
  simp only [fixed_ite, ite_self, fixed_ackTo, fixed_peerStrikeNote]

theorem fixed_cwCommaEffect (t l expected wrong stuffErrs s0) : fixed (cwCommaEffect t l expected wrong stuffErrs s0) = fixed (advance t s0) := by
  unfold cwCommaEffect
  simp only [fixed_commaStep, fixed_updLane]

theorem fixed_cwCreditEffect (t l data s0) : fixed (cwCreditEffect t l data s0) = fixed (advance t s0) := by
  unfold cwCreditEffect
  simp only [fixed_ite, ite_self, fixed_takeCredit]

theorem fixed_cwInitEffect (t l data s0) : fixed (cwInitEffect t l data s0) = fixed (advance t s0) := by
  unfold cwInitEffect
  simp only [fixed_ite, ite_self, fixed_cwAfter, fixed_receiveInit]

theorem fixed_cwInitSendEffect (t l s0) : fixed (cwInitSendEffect t l s0) = fixed (advance t s0) := by
  unfold cwInitSendEffect
  dsimp only
  generalize advance t s0 = s at *
  (repeat' split) <;> simp only [fixed_queueInit]

theorem fixed_cwNakEffect (t l seq s0) : fixed (cwNakEffect t l seq s0) = fixed (advance t s0) := by
  unfold cwNakEffect
  simp only [fixed_ite, ite_self, fixed_cwAfter, fixed_nakTo]

theorem fixed_dbgEffect (t s0) : fixed (dbgEffect t s0) = fixed (advance t s0) := by
  unfold dbgEffect
  simp only [fixed_loadIr]

theorem fixed_debounceEffect (t pin s0) : fixed (debounceEffect t pin s0) = fixed (advance t s0) := by
  unfold debounceEffect
  simp only [fixed_ite, ite_self, fixed_settleInput]

theorem fixed_debugAccessExpiryEffect (t s0) : fixed (debugAccessExpiryEffect t s0) = fixed (advance t s0) := by
  unfold debugAccessExpiryEffect
  simp only [fixed_ite, ite_self, fixed_closeDebug]

theorem fixed_dfeAdaptEffect (t l up s0) : fixed (dfeAdaptEffect t l up s0) = fixed (advance t s0) := by
  unfold dfeAdaptEffect
  simp only [fixed_ite, ite_self, fixed_updLane]

theorem fixed_dfeRailEffect (t l tap s0) : fixed (dfeRailEffect t l tap s0) = fixed (advance t s0) := by
  unfold dfeRailEffect
  simp only [fixed_ite, ite_self, fixed_raise, fixed_updLane]

theorem fixed_dramScrubEffect (t c line status beats s0) : fixed (dramScrubEffect t c line status beats s0) = fixed (advance t s0) := by
  unfold dramScrubEffect
  simp only [implies_true, fixed_climbFault, fixed_scrubRead]

theorem fixed_dramTrainingEffect (t c sweep s0) : fixed (dramTrainingEffect t c sweep s0) = fixed (advance t s0) := by
  unfold dramTrainingEffect
  dsimp only
  generalize advance t s0 = s at *
  (repeat' split) <;> simp only [fixed_trainChannel, fixed_climbOn, fixed_archiveLog, fixed_trainingFailed]

theorem fixed_electionRoundTimeoutEffect (t s0) : fixed (electionRoundTimeoutEffect t s0) = fixed (advance t s0) := by
  unfold electionRoundTimeoutEffect
  simp only [fixed_ite, ite_self, fixed_startRound]

theorem fixed_evSearchErrorEffect (t bank entry repaired s0) : fixed (evSearchErrorEffect t bank entry repaired s0) = fixed (advance t s0) := by
  unfold evSearchErrorEffect
  simp only [fixed_ite, ite_self, fixed_raise, fixed_updBank]

theorem fixed_eventRetryEffect (t session s0) : fixed (eventRetryEffect t session s0) = fixed (advance t s0) := by
  unfold eventRetryEffect
  dsimp only
  generalize advance t s0 = s at *
  (repeat' split) <;> simp only [fixed_resend]

theorem fixed_eventSendEffect (t session s0) : fixed (eventSendEffect t session s0) = fixed (advance t s0) := by
  unfold eventSendEffect
  dsimp only
  generalize advance t s0 = s at *
  (repeat' split) <;> simp only [fixed_sendNext]

theorem fixed_extestEffect (t s0) : fixed (extestEffect t s0) = fixed (advance t s0) := by
  unfold extestEffect
  simp only [fixed_loadIr]

theorem fixed_fecLockEffect (t l s0) : fixed (fecLockEffect t l s0) = fixed (advance t s0) := by
  unfold fecLockEffect
  simp only [fixed_ite, ite_self, fixed_lineUp, fixed_updLink]

theorem fixed_fenceEffect (t path byte w peek s0) : fixed (fenceEffect t path byte w peek s0) = fixed (advance t s0) := by
  unfold fenceEffect
  simp only [fixed_hostRead]

theorem fixed_fieldInputEdgeWakeEffect (t pin rising mv s0) : fixed (fieldInputEdgeWakeEffect t pin rising mv s0) = fixed (advance t s0) := by
  unfold fieldInputEdgeWakeEffect
  simp only [fixed_ite, ite_self, fixed_setVin, fixed_wakeBy]

theorem fixed_fioInputChangeEffect (t pin mv s0) : fixed (fioInputChangeEffect t pin mv s0) = fixed (advance t s0) := by
  unfold fioInputChangeEffect
  simp only [fixed_ite, ite_self, fixed_settleInput, fixed_updFio]

theorem fixed_followExpiryEffect (t s0) : fixed (followExpiryEffect t s0) = fixed (advance t s0) := by
  unfold followExpiryEffect
  simp only [fixed_mk, fixed_forEach, implies_true]

theorem fixed_forcedHaltEffect (t w s0) : fixed (forcedHaltEffect t w s0) = fixed (advance t s0) := by
  unfold forcedHaltEffect
  dsimp only
  generalize advance t s0 = s at *
  (repeat' split) <;> simp only [fixed_breakLock]

theorem fixed_frameSlotEffect (t l s0) : fixed (frameSlotEffect t l s0) = fixed (advance t s0) := by
  unfold frameSlotEffect
  dsimp only
  generalize advance t s0 = s
  split
  · split
    · rename_i e; rw [fixed_replaySlot _ _ _ e]; simp only [fixed_ite, ite_self, fixed_noteStalls, fixed_dealCells]
    · simp only [fixed_ite, ite_self, fixed_noteStalls, fixed_dealCells, fixed_jointSlot, fixed_trunkSlot]
  · rfl

theorem fixed_gateTakeoverEffect (t p s0) : fixed (gateTakeoverEffect t p s0) = fixed (advance t s0) := by
  unfold gateTakeoverEffect
  simp only [fixed_takeoverDue]

theorem fixed_graceEndEffect (t l s0) : fixed (graceEndEffect t l s0) = fixed (advance t s0) := by
  unfold graceEndEffect
  simp only [fixed_ite, ite_self, fixed_cwRestart, fixed_cwFlush]

theorem fixed_heartbeatEffect (t heard s0) : fixed (heartbeatEffect t heard s0) = fixed (advance t s0) := by
  unfold heartbeatEffect
  simp only [fixed_mk, fixed_ite, ite_self, fixed_sendVc0, fixed_splitAuto]

theorem fixed_highzEffect (t s0) : fixed (highzEffect t s0) = fixed (advance t s0) := by
  unfold highzEffect
  simp only [fixed_loadIr]

theorem fixed_holdExpiredEffect (t s0) : fixed (holdExpiredEffect t s0) = fixed (advance t s0) := by
  unfold holdExpiredEffect
  simp only [fixed_mk]

theorem fixed_holdFloorCrossingEffect (t vhold s0) : fixed (holdFloorCrossingEffect t vhold s0) = fixed (advance t s0) := by
  unfold holdFloorCrossingEffect
  dsimp only
  generalize advance t s0 = s at *
  (repeat' split) <;> simp only [fixed_setVhold, fixed_stopRun, fixed_holdLow, fixed_afterStep,
      fixed_abandonClimb]

theorem fixed_holdoverExpiryEffect (t s0) : fixed (holdoverExpiryEffect t s0) = fixed (advance t s0) := by
  unfold holdoverExpiryEffect
  simp only [fixed_ite, ite_self, fixed_setQuality]

theorem fixed_i2cTimeoutEffect (t m s0) : fixed (i2cTimeoutEffect t m s0) = fixed (advance t s0) := by
  unfold i2cTimeoutEffect
  dsimp only
  generalize advance t s0 = s at *
  (repeat' split) <;> simp only [fixed_mk, fixed_finish]

theorem fixed_idcodeEffect (t s0) : fixed (idcodeEffect t s0) = fixed (advance t s0) := by
  unfold idcodeEffect
  simp only [fixed_ite, ite_self, fixed_loadIr, fixed_emit]

theorem fixed_inputSwitchCloseEffect (t vin s0) : fixed (inputSwitchCloseEffect t vin s0) = fixed (advance t s0) := by
  unfold inputSwitchCloseEffect
  simp only [fixed_ite, ite_self, fixed_switchUnder, fixed_setVin]

theorem fixed_inputSwitchOpenEffect (t vin s0) : fixed (inputSwitchOpenEffect t vin s0) = fixed (advance t s0) := by
  unfold inputSwitchOpenEffect
  simp only [fixed_ite, ite_self, fixed_switchUnder, fixed_setVin]

theorem fixed_laneEyeDoneEffect (t eyes s0) : fixed (laneEyeDoneEffect t eyes s0) = fixed (advance t s0) := by
  unfold laneEyeDoneEffect
  simp only [fixed_endScan]

theorem fixed_laneFaultEffect (t l tx s0) : fixed (laneFaultEffect t l tx s0) = fixed (advance t s0) := by
  unfold laneFaultEffect
  simp only [fixed_ite, ite_self, fixed_raise, fixed_refreshRef, fixed_updLane]

theorem fixed_lanePllLockEffect (t l tx s0) : fixed (lanePllLockEffect t l tx s0) = fixed (advance t s0) := by
  unfold lanePllLockEffect
  simp only [fixed_ite, ite_self, fixed_updLane, fixed_rxActivate]

theorem fixed_learnResultEffect (t s0) : fixed (learnResultEffect t s0) = fixed (advance t s0) := by
  unfold learnResultEffect
  dsimp only
  generalize advance t s0 = s at *
  (repeat' split) <;> simp only [fixed_mk, fixed_applyLearn]

theorem fixed_learnWindowEndEffect (t s0) : fixed (learnWindowEndEffect t s0) = fixed (advance t s0) := by
  unfold learnWindowEndEffect
  dsimp only
  generalize advance t s0 = s at *
  (repeat' split) <;> simp only [fixed_mk, fixed_postResult]

theorem fixed_lineLossEffect (t l s0) : fixed (lineLossEffect t l s0) = fixed (advance t s0) := by
  unfold lineLossEffect
  dsimp only
  generalize advance t s0 = s at *
  (repeat' split) <;> simp only [fixed_cwAfter, fixed_enterHold, fixed_cwEnter]

theorem fixed_linkDownEffect (t p cause s0) : fixed (linkDownEffect t p cause s0) = fixed (advance t s0) := by
  unfold linkDownEffect
  simp only [fixed_ite, ite_self, fixed_portGoesDown]

theorem fixed_linkTimeoutEffect (t s0) : fixed (linkTimeoutEffect t s0) = fixed (advance t s0) := by
  unfold linkTimeoutEffect
  simp only [fixed_ite, ite_self, fixed_goAlone]

theorem fixed_linkUpEffect (t p anDone fullDuplex s0) : fixed (linkUpEffect t p anDone fullDuplex s0) = fixed (advance t s0) := by
  unfold linkUpEffect
  simp only [fixed_ite, ite_self, fixed_portGoesUp]

theorem fixed_m0FrameEffect (t raw s0) : fixed (m0FrameEffect t raw s0) = fixed (advance t s0) := by
  unfold m0FrameEffect
  simp only [fixed_mk, fixed_ite, ite_self, fixed_countDiscard, fixed_m0Accept]

theorem fixed_malformedSpiTransactionEffect (t cmd off cut s0) : fixed (malformedSpiTransactionEffect t cmd off cut s0) = fixed (advance t s0) := by
  unfold malformedSpiTransactionEffect
  simp only [fixed_ite, ite_self, fixed_logAccess]

theorem fixed_meterRefillEffect (t s0) : fixed (meterRefillEffect t s0) = fixed (advance t s0) := by
  unfold meterRefillEffect
  simp only [fixed_mk, fixed_ite, ite_self]

theorem fixed_mirrorUpdateEffect (t kind payload s0) : fixed (mirrorUpdateEffect t kind payload s0) = fixed (advance t s0) := by
  unfold mirrorUpdateEffect
  simp only [fixed_ite, ite_self, fixed_countSpan, fixed_applyMirror]

theorem fixed_monitorWindowEndEffect (t n s0) : fixed (monitorWindowEndEffect t n s0) = fixed (advance t s0) := by
  unfold monitorWindowEndEffect
  simp only [fixed_ite, ite_self, fixed_endMonWindow]

theorem fixed_nakRepeatEffect (t l s0) : fixed (nakRepeatEffect t l s0) = fixed (advance t s0) := by
  unfold nakRepeatEffect
  simp only [fixed_ite, ite_self, fixed_sendNak]

theorem fixed_opticsPollEffect (t p ans s0) : fixed (opticsPollEffect t p ans s0) = fixed (advance t s0) := by
  unfold opticsPollEffect
  generalize advance t s0 = s at *
  (repeat' split) <;> simp only [fixed_ite, ite_self, fixed_i2cAccess, fixed_pollFound, fixed_holdMaster]

theorem fixed_opticsStepEffect (t p res s0) : fixed (opticsStepEffect t p res s0) = fixed (advance t s0) := by
  unfold opticsStepEffect
  generalize advance t s0 = s at *
  (repeat' split) <;> simp only [fixed_ite, ite_self, fixed_stepWrite, fixed_opticsEvent, fixed_updCage, fixed_raise]

theorem fixed_outputRetryEffect (t pin s0) : fixed (outputRetryEffect t pin s0) = fixed (advance t s0) := by
  unfold outputRetryEffect
  simp only [fixed_ite, ite_self, fixed_updFio]

theorem fixed_overcurrentLatchEffect (t pin s0) : fixed (overcurrentLatchEffect t pin s0) = fixed (advance t s0) := by
  unfold overcurrentLatchEffect
  simp only [fixed_ite, ite_self, fixed_fioFault, fixed_tallyAdd, fixed_updFio]

theorem fixed_overvoltageTimeoutEffect (t vin s0) : fixed (overvoltageTimeoutEffect t vin s0) = fixed (advance t s0) := by
  unfold overvoltageTimeoutEffect
  simp only [fixed_ite, ite_self, fixed_switchUnder, fixed_setVin]

theorem fixed_pcieLinkDownEffect (t s0) : fixed (pcieLinkDownEffect t s0) = fixed (advance t s0) := by
  unfold pcieLinkDownEffect
  simp only [fixed_hostLinkDown]

theorem fixed_pcieLinkUpEffect (t width rate msi busMaster s0) : fixed (pcieLinkUpEffect t width rate msi busMaster s0) = fixed (advance t s0) := by
  unfold pcieLinkUpEffect
  simp only [fixed_mk, fixed_ite, ite_self, updHost, fixed_hostLinkEvent]

theorem fixed_peerStrikeTimeoutEffect (t l s0) : fixed (peerStrikeTimeoutEffect t l s0) = fixed (advance t s0) := by
  unfold peerStrikeTimeoutEffect
  simp only [fixed_ite, ite_self, fixed_updLink]

theorem fixed_perfOverflowEffect (t w counter task pc s0) : fixed (perfOverflowEffect t w counter task pc s0) = fixed (advance t s0) := by
  unfold perfOverflowEffect
  dsimp only
  generalize advance t s0 = s at *
  (repeat' split) <;> simp only [fixed_updCore]

theorem fixed_perstNEffect (t asserted s0) : fixed (perstNEffect t asserted s0) = fixed (advance t s0) := by
  unfold perstNEffect
  simp only [fixed_mk, fixed_ite, ite_self, updHost, fixed_pcieReset]

theorem fixed_planeTransferEffect (t m slot ecc s0) : fixed (planeTransferEffect t m slot ecc s0) = fixed (advance t s0) := by
  unfold planeTransferEffect
  dsimp only
  generalize advance t s0 = s at *
  (repeat' split) <;> simp only [fixed_mk, fixed_enterSlot, fixed_updPlane, fixed_updDeck, fixed_cellError]

theorem fixed_ppsEdgeEffect (t s0) : fixed (ppsEdgeEffect t s0) = fixed (advance t s0) := by
  unfold ppsEdgeEffect
  simp only [fixed_mk, fixed_ite, ite_self, fixed_loseSource, fixed_ppsPulse, fixed_takeSnap]

theorem fixed_ppsLossEffect (t s0) : fixed (ppsLossEffect t s0) = fixed (advance t s0) := by
  unfold ppsLossEffect
  simp only [fixed_mk, fixed_ite, ite_self, fixed_loseSource]

theorem fixed_ppsOutEffect (t s0) : fixed (ppsOutEffect t s0) = fixed (advance t s0) := by
  unfold ppsOutEffect
  simp only [fixed_mk, fixed_ite, ite_self, fixed_emit]

theorem fixed_prbsLockEffect (t l inverted s0) : fixed (prbsLockEffect t l inverted s0) = fixed (advance t s0) := by
  unfold prbsLockEffect
  simp only [fixed_ite, ite_self, fixed_updLane]

theorem fixed_prbsLockLossEffect (t l errs s0) : fixed (prbsLockLossEffect t l errs s0) = fixed (advance t s0) := by
  unfold prbsLockLossEffect
  simp only [fixed_ite, ite_self, fixed_takeErrors, fixed_updLane, fixed_prbsStop]

theorem fixed_probeTimeoutEffect (t s0) : fixed (probeTimeoutEffect t s0) = fixed (advance t s0) := by
  unfold probeTimeoutEffect
  simp only [fixed_ite, ite_self, fixed_goAlone]

theorem fixed_ptpLossEffect (t s0) : fixed (ptpLossEffect t s0) = fixed (advance t s0) := by
  unfold ptpLossEffect
  simp only [fixed_ite, ite_self, fixed_loseSource]

theorem fixed_pulseEndEffect (t pin s0) : fixed (pulseEndEffect t pin s0) = fixed (advance t s0) := by
  unfold pulseEndEffect
  dsimp only
  generalize advance t s0 = s at *
  (repeat' split) <;> simp only [fixed_setTimer, fixed_updFio]

theorem fixed_pulseStartEffect (t pin s0) : fixed (pulseStartEffect t pin s0) = fixed (advance t s0) := by
  unfold pulseStartEffect
  dsimp only
  generalize advance t s0 = s at *
  (repeat' split) <;> simp only [fixed_setTimer, fixed_updFio]

theorem fixed_puntRefillEffect (t s0) : fixed (puntRefillEffect t s0) = fixed (advance t s0) := by
  unfold puntRefillEffect
  simp only [fixed_mk, fixed_ite, ite_self, fixed_forEach, implies_true, fixed_updPunt]

theorem fixed_quarantineExitEffect (t l s0) : fixed (quarantineExitEffect t l s0) = fixed (advance t s0) := by
  unfold quarantineExitEffect
  simp only [fixed_ite, ite_self, fixed_raise, fixed_updLane]

theorem fixed_readbackConflictEffect (t pin s0) : fixed (readbackConflictEffect t pin s0) = fixed (advance t s0) := by
  unfold readbackConflictEffect
  simp only [fixed_ite, ite_self, fixed_fioFault, fixed_updFio]

theorem fixed_referenceRetryEffect (t s0) : fixed (referenceRetryEffect t s0) = fixed (advance t s0) := by
  unfold referenceRetryEffect
  simp only [fixed_mk, fixed_ite, ite_self]

theorem fixed_referenceStartFailEffect (t s0) : fixed (referenceStartFailEffect t s0) = fixed (advance t s0) := by
  unfold referenceStartFailEffect
  simp only [fixed_mk, fixed_ite, ite_self, fixed_clockFailed, fixed_setCause, fixed_setTransition]

theorem fixed_refreshEffect (t c busy s0) : fixed (refreshEffect t c busy s0) = fixed (advance t s0) := by
  unfold refreshEffect
  simp only [fixed_ite, ite_self, fixed_updChan]

theorem fixed_reinjectedEffect (t trie s0) : fixed (reinjectedEffect t trie s0) = fixed (advance t s0) := by
  unfold reinjectedEffect
  dsimp only
  generalize advance t s0 = s at *
  (repeat' split) <;> simp only [fixed_reinject, fixed_reinjectDatagram]

theorem fixed_remoteCellEffect (t k d seq sop eop pkt s0) : fixed (remoteCellEffect t k d seq sop eop pkt s0) = fixed (advance t s0) := by
  unfold remoteCellEffect
  simp only [fixed_ite, ite_self, fixed_remoteCell, fixed_countSpan]

theorem fixed_replayFrameEffect (t l raw cws hit trie s0) : fixed (replayFrameEffect t l raw cws hit trie s0) = fixed (advance t s0) := by
  unfold replayFrameEffect
  simp only [fixed_ite, ite_self, fixed_forEach, implies_true, fixed_cwAfter, fixed_jointUnit, fixed_fecStep, fixed_trunkFrame,
      fixed_bumpFree]

theorem fixed_replayMarkEffect (t l seq s0) : fixed (replayMarkEffect t l seq s0) = fixed (advance t s0) := by
  unfold replayMarkEffect
  simp only [fixed_ite, ite_self, fixed_takeCtrl]

theorem fixed_replayTimerEffect (t l s0) : fixed (replayTimerEffect t l s0) = fixed (advance t s0) := by
  unfold replayTimerEffect
  dsimp only
  generalize advance t s0 = s at *
  (repeat' split) <;> simp only [fixed_cwAfter, fixed_startReplay, fixed_updLink]

theorem fixed_requestEntryFetchEffect (t entry s0) : fixed (requestEntryFetchEffect t entry s0) = fixed (advance t s0) := by
  unfold requestEntryFetchEffect
  simp only [fixed_mk, fixed_ite, ite_self, updRings, updHost, fixed_setCause, fixed_messageArrives, fixed_countDiscard]

theorem fixed_reseqTimeoutEffect (t d k s0) : fixed (reseqTimeoutEffect t d k s0) = fixed (advance t s0) := by
  unfold reseqTimeoutEffect
  dsimp only
  generalize advance t s0 = s at *
  (repeat' split) <;> simp only [fixed_skipTo, fixed_updDeck]

theorem fixed_retentionLostEffect (t mv s0) : fixed (retentionLostEffect t mv s0) = fixed (advance t s0) := by
  unfold retentionLostEffect
  simp only [fixed_mk, fixed_ite, ite_self]

theorem fixed_retrainRepeatEffect (t c s0) : fixed (retrainRepeatEffect t c s0) = fixed (advance t s0) := by
  unfold retrainRepeatEffect
  dsimp only
  generalize advance t s0 = s at *
  (repeat' split) <;> simp only [fixed_updChan]

theorem fixed_retrainSliceEffect (t c emptyNs sweep s0) : fixed (retrainSliceEffect t c emptyNs sweep s0) = fixed (advance t s0) := by
  unfold retrainSliceEffect
  simp only [fixed_ite, ite_self, fixed_runSlice]

theorem fixed_retrainWaitExpiryEffect (t c s0) : fixed (retrainWaitExpiryEffect t c s0) = fixed (advance t s0) := by
  unfold retrainWaitExpiryEffect
  simp only [fixed_ite, ite_self, fixed_updChan]

theorem fixed_rideThroughEffect (t vin lowVhold s0) : fixed (rideThroughEffect t vin lowVhold s0) = fixed (advance t s0) := by
  unfold rideThroughEffect
  dsimp only
  generalize advance t s0 = s at *
  (repeat' split) <;> simp only [fixed_mk, fixed_setVin, fixed_raise]

theorem fixed_ringDmaFaultEffect (t s0) : fixed (ringDmaFaultEffect t s0) = fixed (advance t s0) := by
  unfold ringDmaFaultEffect
  simp only [fixed_ite, ite_self, fixed_ringFault]

theorem fixed_routeRepairEffect (t c clean s0) : fixed (routeRepairEffect t c clean s0) = fixed (advance t s0) := by
  unfold routeRepairEffect
  dsimp only
  generalize advance t s0 = s at *
  (repeat' split) <;> simp only [fixed_finishRepair]

theorem fixed_rtcAlarmEffect (t s0) : fixed (rtcAlarmEffect t s0) = fixed (advance t s0) := by
  unfold rtcAlarmEffect
  simp only [fixed_mk, fixed_ite, ite_self, fixed_wakeBy, fixed_raise]

theorem fixed_rtcAlignEffect (t s0) : fixed (rtcAlignEffect t s0) = fixed (advance t s0) := by
  unfold rtcAlignEffect
  simp only [fixed_mk, fixed_ite, ite_self, fixed_setRtc]

theorem fixed_rtcFailEffect (t s0) : fixed (rtcFailEffect t s0) = fixed (advance t s0) := by
  unfold rtcFailEffect
  simp only [fixed_mk, fixed_ite, ite_self, fixed_clockFailed]

theorem fixed_rxFrameEffect (t p raw damaged fecBad ageNs trie s0) : fixed (rxFrameEffect t p raw damaged fecBad ageNs trie s0) = fixed (advance t s0) := by
  unfold rxFrameEffect
  simp only [fixed_ite, ite_self, fixed_countFec, fixed_updPortCtrs, fixed_fcsError, fixed_countAccepted, fixed_ingress,
      fixed_bumpFree, fixed_trieSide]

theorem fixed_rxGapEffect (t u gapMs s0) : fixed (rxGapEffect t u gapMs s0) = fixed (advance t s0) := by
  unfold rxGapEffect
  simp only [fixed_ite, ite_self, fixed_countDiscard]

theorem fixed_samplePeriodEndEffect (t s0) : fixed (samplePeriodEndEffect t s0) = fixed (advance t s0) := by
  unfold samplePeriodEndEffect
  simp only [fixed_mk, fixed_ite, ite_self]

theorem fixed_samplePreloadEffect (t lands data s0) : fixed (samplePreloadEffect t lands data s0) = fixed (advance t s0) := by
  unfold samplePreloadEffect
  simp only [fixed_mk, fixed_ite, ite_self, fixed_loadIr, fixed_emit]

theorem fixed_searchLoadedEffect (t s0) : fixed (searchLoadedEffect t s0) = fixed (advance t s0) := by
  unfold searchLoadedEffect
  dsimp only
  generalize advance t s0 = s at *
  (repeat' split) <;> simp only [fixed_mk, fixed_trySwitch, fixed_raise]

theorem fixed_searchScrubEffect (t bank entry s0) : fixed (searchScrubEffect t bank entry s0) = fixed (advance t s0) := by
  unfold searchScrubEffect
  simp only [fixed_mk, fixed_ite, ite_self, fixed_updBank]

theorem fixed_sessionIdleEffect (t session s0) : fixed (sessionIdleEffect t session s0) = fixed (advance t s0) := by
  unfold sessionIdleEffect
  dsimp only
  generalize advance t s0 = s at *
  (repeat' split) <;> simp only [fixed_endSession]

theorem fixed_shaperRefillEffect (t s0) : fixed (shaperRefillEffect t s0) = fixed (advance t s0) := by
  unfold shaperRefillEffect
  simp only [fixed_mk, fixed_ite, ite_self]

theorem fixed_sheddingStepEffect (t vin vhold s0) : fixed (sheddingStepEffect t vin vhold s0) = fixed (advance t s0) := by
  unfold sheddingStepEffect
  dsimp only
  generalize advance t s0 = s at *
  (repeat' split) <;> simp only [fixed_setVhold, fixed_setVin, fixed_stopRun, fixed_downAndOn,
      fixed_abandonClimb]

theorem fixed_slewTriggerEffect (t mv s0) : fixed (slewTriggerEffect t mv s0) = fixed (advance t s0) := by
  unfold slewTriggerEffect
  simp only [fixed_ite, ite_self, fixed_strikeTrigger, fixed_setVin]

theorem fixed_snapshotScheduleFireEffect (t s0) : fixed (snapshotScheduleFireEffect t s0) = fixed (advance t s0) := by
  unfold snapshotScheduleFireEffect
  dsimp only
  generalize advance t s0 = s at *
  (repeat' split) <;> simp only [fixed_mk, fixed_setTimer, fixed_storeSnap, fixed_raise]

theorem fixed_spanClaimEffect (t claim s0) : fixed (spanClaimEffect t claim s0) = fixed (advance t s0) := by
  unfold spanClaimEffect
  dsimp only
  generalize advance t s0 = s at *
  (repeat' split) <;> simp only [fixed_spanMismatch, fixed_decideRound]

theorem fixed_spanDecideEffect (t round serial s0) : fixed (spanDecideEffect t round serial s0) = fixed (advance t s0) := by
  unfold spanDecideEffect
  simp only [fixed_ite, ite_self, fixed_takeRole]

theorem fixed_spanReseqTimeoutEffect (t k d s0) : fixed (spanReseqTimeoutEffect t k d s0) = fixed (advance t s0) := by
  unfold spanReseqTimeoutEffect
  dsimp only
  generalize advance t s0 = s at *
  (repeat' split) <;> simp only [fixed_skipRemoteTo, fixed_countSpan]

theorem fixed_spanSplitEffect (t cause byLeave s0) : fixed (spanSplitEffect t cause byLeave s0) = fixed (advance t s0) := by
  unfold spanSplitEffect
  generalize advance t s0 = s at *
  (repeat' split) <;> simp only [fixed_ite, ite_self, fixed_quitJoin, fixed_splitAuto]

theorem fixed_spanTimingExchangeEffect (t offsetNs quality s0) : fixed (spanTimingExchangeEffect t offsetNs quality s0) = fixed (advance t s0) := by
  unfold spanTimingExchangeEffect
  simp only [fixed_mk, fixed_ite, ite_self, fixed_setQuality, fixed_stepTime]

theorem fixed_strikeCloseEffect (t s0) : fixed (strikeCloseEffect t s0) = fixed (advance t s0) := by
  unfold strikeCloseEffect
  dsimp only
  generalize advance t s0 = s at *
  (repeat' split) <;> simp only [fixed_mk, fixed_closeStrike, fixed_commandOn]

theorem fixed_supplyStatusEffect (t path byte w peek s0) : fixed (supplyStatusEffect t path byte w peek s0) = fixed (advance t s0) := by
  unfold supplyStatusEffect
  simp only [fixed_hostRead]

theorem fixed_surgeTriggerEffect (t mv s0) : fixed (surgeTriggerEffect t mv s0) = fixed (advance t s0) := by
  unfold surgeTriggerEffect
  simp only [fixed_ite, ite_self, fixed_setVin, fixed_strikeTrigger]

theorem fixed_syncCompleteEffect (t offsetNs items s0) : fixed (syncCompleteEffect t offsetNs items s0) = fixed (advance t s0) := by
  unfold syncCompleteEffect
  simp only [fixed_mk, fixed_ite, ite_self, fixed_enterJoined]

theorem fixed_syncMessageEffect (t port domain intervalNs off s0) : fixed (syncMessageEffect t port domain intervalNs off s0) = fixed (advance t s0) := by
  unfold syncMessageEffect
  simp only [fixed_mk, fixed_ite, ite_self, fixed_loseSource, fixed_measure]

theorem fixed_tableLoadedEffect (t s0) : fixed (tableLoadedEffect t s0) = fixed (advance t s0) := by
  unfold tableLoadedEffect
  dsimp only
  generalize advance t s0 = s at *
  (repeat' split) <;> simp only [fixed_mk, fixed_trySwitch, fixed_raise]

theorem fixed_tableRepairEffect (t g index ok s0) : fixed (tableRepairEffect t g index ok s0) = fixed (advance t s0) := by
  unfold tableRepairEffect
  dsimp only
  generalize advance t s0 = s at *
  (repeat' split) <;> simp only [fixed_tableErrorEvent, fixed_setBad]

theorem fixed_tableScrubEffect (t g index double s0) : fixed (tableScrubEffect t g index double s0) = fixed (advance t s0) := by
  unfold tableScrubEffect
  simp only [fixed_ite, ite_self, fixed_tableCheckFails]

theorem fixed_tablesInstalledEffect (t s0) : fixed (tablesInstalledEffect t s0) = fixed (advance t s0) := by
  unfold tablesInstalledEffect
  dsimp only
  generalize advance t s0 = s at *
  (repeat' split) <;> simp only [fixed_climbTo]

theorem fixed_tempReadEffect (t temps s0) : fixed (tempReadEffect t temps s0) = fixed (advance t s0) := by
  unfold tempReadEffect
  simp only [fixed_ite, ite_self, fixed_forEach, implies_true, fixed_evalSource, fixed_readTemp]

theorem fixed_tenMhzPresentEffect (t present s0) : fixed (tenMhzPresentEffect t present s0) = fixed (advance t s0) := by
  unfold tenMhzPresentEffect
  simp only [fixed_mk]

theorem fixed_thermalCutEffect (t die s0) : fixed (thermalCutEffect t die s0) = fixed (advance t s0) := by
  unfold thermalCutEffect
  simp only [fixed_ite, ite_self, fixed_thermalSet]

theorem fixed_thermalReleaseEffect (t die s0) : fixed (thermalReleaseEffect t die s0) = fixed (advance t s0) := by
  unfold thermalReleaseEffect
  simp only [fixed_ite, ite_self, fixed_thermalSet]

theorem fixed_timeLatchEffect (t path byte w peek s0) : fixed (timeLatchEffect t path byte w peek s0) = fixed (advance t s0) := by
  unfold timeLatchEffect
  simp only [fixed_hostRead]

theorem fixed_timerFireEffect (t g s0) : fixed (timerFireEffect t g s0) = fixed (advance t s0) := by
  unfold timerFireEffect
  simp only [fixed_ite, ite_self, fixed_raise, fixed_flipTout, fixed_setTimer]

theorem fixed_transmissionEndEffect (t p s0) : fixed (transmissionEndEffect t p s0) = fixed (advance t s0) := by
  unfold transmissionEndEffect
  dsimp only
  generalize advance t s0 = s at *
  (repeat' split) <;> simp only [fixed_endSending, fixed_startNext]

theorem fixed_transmissionStartEffect (t p s0) : fixed (transmissionStartEffect t p s0) = fixed (advance t s0) := by
  unfold transmissionStartEffect
  simp only [fixed_ite, ite_self, fixed_startNext]

theorem fixed_transportRevertedEffect (t tr s0) : fixed (transportRevertedEffect t tr s0) = fixed (advance t s0) := by
  unfold transportRevertedEffect
  dsimp only
  generalize advance t s0 = s at *
  (repeat' split) <;> simp only [fixed_mk, fixed_raise, fixed_restoreTransport]

theorem fixed_uart0CtsEffect (t asserted s0) : fixed (uart0CtsEffect t asserted s0) = fixed (advance t s0) := by
  unfold uart0CtsEffect
  simp only [fixed_mk, fixed_releaseUart0]

theorem fixed_uartFrameEffect (t u raw s0) : fixed (uartFrameEffect t u raw s0) = fixed (advance t s0) := by
  unfold uartFrameEffect
  generalize advance t s0 = s at *
  (repeat' split) <;> simp only [fixed_ite, ite_self, fixed_countDiscard, fixed_messageArrives]

theorem fixed_unalignedReadEffect (t path off w uneven s0) : fixed (unalignedReadEffect t path off w uneven s0) = fixed (advance t s0) := by
  unfold unalignedReadEffect
  simp only [fixed_hostRead]

theorem fixed_unmappedReadEffect (t path off w s0) : fixed (unmappedReadEffect t path off w s0) = fixed (advance t s0) := by
  unfold unmappedReadEffect
  simp only [fixed_hostRead]

theorem fixed_vinBelowOffEffect (t vin s0) : fixed (vinBelowOffEffect t vin s0) = fixed (advance t s0) := by
  unfold vinBelowOffEffect
  simp only [fixed_ite, ite_self, fixed_setVin]

theorem fixed_vinConversionEffect (t lowCode highCode s0) : fixed (vinConversionEffect t lowCode highCode s0) = fixed (advance t s0) := by
  unfold vinConversionEffect
  simp only [fixed_mk, fixed_ite, ite_self, fixed_takeSample]

theorem fixed_vinReachesWatchOnEffect (t vin s0) : fixed (vinReachesWatchOnEffect t vin s0) = fixed (advance t s0) := by
  unfold vinReachesWatchOnEffect
  simp only [fixed_ite, ite_self, fixed_setVin, fixed_startWake]

theorem fixed_vinRestoreEffect (t vin s0) : fixed (vinRestoreEffect t vin s0) = fixed (advance t s0) := by
  unfold vinRestoreEffect
  simp only [fixed_ite, ite_self, fixed_setVin, fixed_wakeBy]

theorem fixed_vioFaultEffect (t n s0) : fixed (vioFaultEffect t n s0) = fixed (advance t s0) := by
  unfold vioFaultEffect
  simp only [fixed_ite, ite_self, fixed_vioEvent, fixed_setVio]

theorem fixed_vioRetryEffect (t n holds s0) : fixed (vioRetryEffect t n holds s0) = fixed (advance t s0) := by
  unfold vioRetryEffect
  simp only [fixed_ite, ite_self, fixed_vioEvent, fixed_setVio]

theorem fixed_wakePinEffect (t level mv s0) : fixed (wakePinEffect t level mv s0) = fixed (advance t s0) := by
  unfold wakePinEffect
  simp only [fixed_ite, ite_self, fixed_setVin, fixed_wakeBy]

theorem fixed_warmWakeTimeoutEffect (t l s0) : fixed (warmWakeTimeoutEffect t l s0) = fixed (advance t s0) := by
  unfold warmWakeTimeoutEffect
  simp only [fixed_ite, ite_self, fixed_updLane]

theorem fixed_wettingSampleEffect (t pin mv s0) : fixed (wettingSampleEffect t pin mv s0) = fixed (advance t s0) := by
  unfold wettingSampleEffect
  dsimp only
  generalize advance t s0 = s at *
  (repeat' split) <;> simp only [fixed_updFio, fixed_wakeBy]

end Sys2Proof.Laws
end

