-- ==== Sys2Proof/Laws/Tbl.lean ====
section
/-! SUPPORT. Laws/Tbl.lean: the laws of sparse arrays and memories: a read after a write, and the canonical form, which every operation
keeps. -/

namespace Sys2Proof.Laws
open Sys2Proof Sys2Proof.Machine

variable {α : Type}

/-! ### A read after a write -/

theorem get_put_same (d v : α) (t : Tbl α) (k : Nat) : Tbl.get d (Tbl.put t k v) k = v := by
  induction t with
  | nil => simp [Tbl.put, Tbl.get]
  | cons c t ih =>
    obtain ⟨j, u⟩ := c
    unfold Tbl.put
    split
    · simp [Tbl.get]
    · split
      · simp [Tbl.get]
      · rename_i h; simp [Tbl.get, h, ih]

theorem get_put_other (d v : α) (t : Tbl α) (k j : Nat) (h : j ≠ k) : Tbl.get d (Tbl.put t k v) j = Tbl.get d t j := by
  induction t with
  | nil => simp [Tbl.put, Tbl.get, h.symm]
  | cons c t ih =>
    obtain ⟨i, u⟩ := c
    unfold Tbl.put
    split
    · simp [Tbl.get, h.symm]
    · split
      · rename_i e; subst e; simp [Tbl.get, h.symm]
      · simp [Tbl.get, ih]

theorem get_del_other (d : α) (t : Tbl α) (k j : Nat) (h : j ≠ k) : Tbl.get d (Tbl.del t k) j = Tbl.get d t j := by
  induction t with
  | nil => rfl
  | cons c t ih =>
    obtain ⟨i, u⟩ := c
    unfold Tbl.del
    split
    · rename_i e; subst e; simp [Tbl.get, h.symm]
    · simp [Tbl.get, ih]

/-! ### The canonical form -/

variable [DecidableEq α]

theorem wfFrom_mono {d : α} {t : Tbl α} {a b : Nat} (hab : a ≤ b) (h : Tbl.wfFrom d b t = true) : Tbl.wfFrom d a t = true := by
  cases t with
  | nil => rfl
  | cons c t =>
    obtain ⟨j, v⟩ := c
    simp only [Tbl.wfFrom, Bool.and_eq_true, decide_eq_true_eq] at h ⊢
    exact ⟨⟨Nat.le_trans hab h.1.1, h.1.2⟩, h.2⟩

theorem get_of_wfFrom {d : α} {t : Tbl α} {a k : Nat} (h : Tbl.wfFrom d a t = true) (hk : k < a) : Tbl.get d t k = d := by
  induction t generalizing a with
  | nil => rfl
  | cons c t ih =>
    obtain ⟨j, v⟩ := c
    simp only [Tbl.wfFrom, Bool.and_eq_true, decide_eq_true_eq] at h
    have hj : j ≠ k := by omega
    simp only [Tbl.get, if_neg hj]
    exact ih h.2 (by omega)

theorem wfFrom_put {d v : α} (hv : v ≠ d) {t : Tbl α} {a k : Nat} (h : Tbl.wfFrom d a t = true) (hk : a ≤ k) :
    Tbl.wfFrom d a (Tbl.put t k v) = true := by
  induction t generalizing a with
  | nil => simp [Tbl.put, Tbl.wfFrom, hk, hv]
  | cons c t ih =>
    obtain ⟨j, u⟩ := c
    have h0 := h
    simp only [Tbl.wfFrom, Bool.and_eq_true, decide_eq_true_eq] at h
    unfold Tbl.put
    split
    · simp only [Tbl.wfFrom, Bool.and_eq_true, decide_eq_true_eq]
      exact ⟨⟨hk, hv⟩, ⟨⟨by omega, h.1.2⟩, h.2⟩⟩
    · split
      · rename_i e; subst e
        simp only [Tbl.wfFrom, Bool.and_eq_true, decide_eq_true_eq]
        exact ⟨⟨hk, hv⟩, h.2⟩
      · simp only [Tbl.wfFrom, Bool.and_eq_true, decide_eq_true_eq]
        exact ⟨h.1, ih h.2 (by omega)⟩

theorem wfFrom_del {d : α} {t : Tbl α} {a : Nat} (k : Nat) (h : Tbl.wfFrom d a t = true) : Tbl.wfFrom d a (Tbl.del t k) = true := by
  induction t generalizing a with
  | nil => rfl
  | cons c t ih =>
    obtain ⟨j, u⟩ := c
    simp only [Tbl.wfFrom, Bool.and_eq_true, decide_eq_true_eq] at h
    unfold Tbl.del
    split
    · exact wfFrom_mono (by omega) h.2
    · simp only [Tbl.wfFrom, Bool.and_eq_true, decide_eq_true_eq]
      exact ⟨h.1, ih h.2⟩

theorem wfFrom_filter {d : α} (f : Nat × α → Bool) {t : Tbl α} {a : Nat} (h : Tbl.wfFrom d a t = true) :
    Tbl.wfFrom d a (t.filter f) = true := by
  induction t generalizing a with
  | nil => rfl
  | cons c t ih =>
    obtain ⟨j, u⟩ := c
    simp only [Tbl.wfFrom, Bool.and_eq_true, decide_eq_true_eq] at h
    simp only [List.filter_cons]
    split
    · simp only [Tbl.wfFrom, Bool.and_eq_true, decide_eq_true_eq]
      exact ⟨h.1, ih h.2⟩
    · exact wfFrom_mono (by omega) (ih h.2)

theorem wf_set {d : α} {t : Tbl α} (k : Nat) (v : α) (h : Tbl.wf d t = true) : Tbl.wf d (Tbl.set d t k v) = true := by
  unfold Tbl.set
  split
  · exact wfFrom_del k h
  · exact wfFrom_put ‹_› h (Nat.zero_le k)

theorem wf_upd {d : α} {t : Tbl α} (k : Nat) (f : α → α) (h : Tbl.wf d t = true) : Tbl.wf d (Tbl.upd d t k f) = true := wf_set k _ h

/-- In the canonical form, a read after a write gives the value written. -/
theorem get_set_same {d : α} {t : Tbl α} (k : Nat) (v : α) (h : Tbl.wf d t = true) : Tbl.get d (Tbl.set d t k v) k = v := by
  unfold Tbl.set
  split
  · rename_i e
    subst e
    unfold Tbl.wf at h
    revert h
    generalize 0 = a
    intro h
    induction t generalizing a with
    | nil => rfl
    | cons c t ih =>
      obtain ⟨j, u⟩ := c
      simp only [Tbl.wfFrom, Bool.and_eq_true, decide_eq_true_eq] at h
      unfold Tbl.del
      split
      · exact get_of_wfFrom h.2 (by omega)
      · rename_i hj; simp only [Tbl.get, if_neg hj]; exact ih (j + 1) h.2
  · exact get_put_same d v t k

/-- A write leaves every other entry alone. -/
theorem get_set_other {d : α} (t : Tbl α) (v : α) {k j : Nat} (h : j ≠ k) : Tbl.get d (Tbl.set d t k v) j = Tbl.get d t j := by
  unfold Tbl.set
  split
  · exact get_del_other d t k j h
  · exact get_put_other d v t k j h

/-! ### Memories -/

theorem wf_write {d : Byte} {m : Mem} (a : Nat) (b : List Byte) (h : Tbl.wf d m = true) : Tbl.wf d (Mem.write d m a b) = true := by
  induction b generalizing m a with
  | nil => exact h
  | cons x b ih => exact ih (a + 1) (wf_set a x h)

theorem wf_erase {d : Byte} {m : Mem} (a n : Nat) (h : Tbl.wf d m = true) : Tbl.wf d (Mem.erase m a n) = true := wfFrom_filter _ h

/-- A write of bytes leaves every byte outside them alone. -/
theorem get_write_other {d : Byte} (m : Mem) (a : Nat) (b : List Byte) {k : Nat} (h : k < a ∨ a + b.length ≤ k) :
    Tbl.get d (Mem.write d m a b) k = Tbl.get d m k := by
  induction b generalizing m a with
  | nil => rfl
  | cons x b ih =>
    simp only [List.length_cons] at h
    unfold Mem.write
    rw [ih (Tbl.set d m a x) (a + 1) (by omega), get_set_other m x (by omega)]

/-- A byte written reads back. -/
theorem get_write_same {d : Byte} {m : Mem} (a : Nat) (b : List Byte) (hm : Tbl.wf d m = true) {i : Nat} (h : i < b.length) :
    Tbl.get d (Mem.write d m a b) (a + i) = b[i] := by
  induction b generalizing m a i with
  | nil => simp at h
  | cons x b ih =>
    unfold Mem.write
    cases i with
    | zero => rw [get_write_other _ _ _ (by omega)]; exact get_set_same a x hm
    | succ i =>
      have := ih (a + 1) (wf_set a x hm) (i := i) (by simpa using h)
      rw [show a + (i + 1) = a + 1 + i by omega, this]; rfl

end Sys2Proof.Laws
end

