-- ==== Sys2Proof/Laws/Kept.lean ====
section
/-! SUPPORT. Laws/Kept.lean: what the operations that write the clock, the flash or the window's buffer keep of them. -/

namespace Sys2Proof.Laws
open Sys2Proof Sys2Proof.Machine

/-! ### What the writers do to it -/

/-- From `a` to `b` the queue and the identity stay, the clock does not go back, and the memories keep their canonical form. -/
structure Kept (a b : List Instr × Nat × Ident × Mem × Mem) : Prop where
  pending : b.1 = a.1
  elapsed : a.2.1 ≤ b.2.1
  ident : b.2.2.1 = a.2.2.1
  flash : Tbl.wf 0xFF a.2.2.2.1 = true → Tbl.wf 0xFF b.2.2.2.1 = true
  buffer : Tbl.wf 0 a.2.2.2.2 = true → Tbl.wf 0 b.2.2.2.2 = true

theorem kept_refl (a : List Instr × Nat × Ident × Mem × Mem) : Kept a a := ⟨rfl, Nat.le_refl _, rfl, id, id⟩

theorem Kept.trans {a b c : List Instr × Nat × Ident × Mem × Mem} (h : Kept a b) (g : Kept b c) : Kept a c :=
  ⟨g.pending.trans h.pending, Nat.le_trans h.elapsed g.elapsed, g.ident.trans h.ident, fun x => g.flash (h.flash x),
    fun x => g.buffer (h.buffer x)⟩

theorem kept_advance {a} (t : Nat) (s : State) (h : Kept a (fixed s)) : Kept a (fixed (advance t s)) := by
  refine h.trans ?_
  unfold advance
  split
  · exact kept_refl _
  · exact ⟨rfl, by simp only [fixed]; omega, rfl, id, id⟩

theorem kept_flashWrite {a} (n : Nat) (b : List Byte) (s : State) (h : Kept a (fixed s)) : Kept a (fixed (flashWrite n b s)) :=
  h.trans ⟨rfl, Nat.le_refl _, rfl, wf_write n b, id⟩

theorem kept_flashErase {a} (n m : Nat) (s : State) (h : Kept a (fixed s)) : Kept a (fixed (flashErase n m s)) :=
  h.trans ⟨rfl, Nat.le_refl _, rfl, wf_erase n m, id⟩

theorem kept_loseVolatile {a} (s : State) (h : Kept a (fixed s)) : Kept a (fixed (loseVolatile s)) :=
  h.trans ⟨rfl, Nat.le_refl _, rfl, id, fun _ => rfl⟩

theorem kept_abutmentReset {a} (mv : Nat) (s : State) (h : Kept a (fixed s)) : Kept a (fixed (abutmentReset mv s)) :=
  h.trans ⟨rfl, Nat.le_refl _, rfl, id, fun _ => rfl⟩

/-- The same of a command's own definition. -/
def KeptBody (s : State) (b : Body) : Prop := ∀ v r, b = .ok (v, r) → Kept (fixed s) (fixed v)

theorem keptBody_of_fixed {s : State} {b : Body} (h : FixedBody s b) : KeptBody s b := fun v r e => by rw [h v r e]; exact kept_refl _

theorem keptBody_ok {s v : State} {r : Reply} (h : Kept (fixed s) (fixed v)) : KeptBody s (.ok (v, r)) :=
  fun v' r' e => by cases e; exact h

theorem keptBody_error (s : State) (e : Err) : KeptBody s (.error e) := fun v r h => by cases h

theorem keptBody_checks {s : State} {l : List (Bool × Err)} {k : Body} (h : KeptBody s k) : KeptBody s (checks l k) := by
  induction l with
  | nil => exact h
  | cons x l ih =>
    unfold checks
    split
    · exact ih
    · exact keptBody_error s _

theorem kept_abutmentResetEffect {a0} (t mv s0) (h : Kept a0 (fixed s0)) : Kept a0 (fixed (abutmentResetEffect t mv s0)) := by
  unfold abutmentResetEffect
  try dsimp only
  repeat'
    first
    | with_reducible exact h
    | with_reducible exact kept_refl _
    | intro _
    | with_reducible apply kept_advance
    | with_reducible apply kept_abutmentReset
    | split
    | simp only [fixed_mk, fixed_ite, ite_self, updHost, updRings]

theorem kept_writeWord {a0} (p o v s) (h : Kept a0 (fixed s)) : Kept a0 (fixed (writeWord p o v s)) := by
  refine h.trans ?_
  unfold writeWord
  split <;> try (simp only [fixed_writeIntCause, fixed_afterIntWrite, fixed_writeRingCtrl, fixed_ringSetting, fixed_writeReqTail,
      fixed_writeRspHead, fixed_writeSnap, fixed_writeHostFlag, fixed_writeMsixCtl, fixed_writeLaneSel, fixed_writeCwSel, updHost,
      fixed_mk]; exact kept_refl _)
  split
  · exact ⟨rfl, Nat.le_refl _, rfl, id, wf_write _ _⟩
  · rw [fixed_writeSticky]; exact kept_refl _

theorem kept_hostWrite {a0} (p off w uneven data s) (h : Kept a0 (fixed s)) : Kept a0 (fixed (hostWrite p off w uneven data s)) := by
  unfold hostWrite
  try dsimp only
  repeat'
    first
    | with_reducible exact h
    | with_reducible exact kept_refl _
    | intro _
    | with_reducible apply kept_writeWord
    | split
    | simp only [fixed_logAccess, fixed_noteWrite]

theorem kept_regWrite {a0} (t reg set path k w peek data s0) (h : Kept a0 (fixed s0)) : Kept a0 (fixed (regWrite t reg set path k w peek data s0)) := by
  unfold regWrite
  try dsimp only
  repeat'
    first
    | with_reducible exact h
    | with_reducible exact kept_refl _
    | intro _
    | with_reducible apply kept_hostWrite
    | with_reducible apply kept_advance
    | split
    | simp only [fixed_mk, fixed_ite, ite_self, updHost, updRings]

theorem kept_armPpsEffect {a0} (t path byte w peek data s0) (h : Kept a0 (fixed s0)) : Kept a0 (fixed (armPpsEffect t path byte w peek data s0)) := by
  unfold armPpsEffect
  try dsimp only
  repeat'
    first
    | with_reducible exact h
    | with_reducible exact kept_refl _
    | intro _
    | with_reducible apply kept_regWrite
    | split
    | simp only [fixed_mk, fixed_ite, ite_self, updHost, updRings]

theorem kept_writeDir {a0} (d s) (h : Kept a0 (fixed s)) : Kept a0 (fixed (writeDir d s)) := by
  unfold writeDir
  try dsimp only
  repeat'
    first
    | with_reducible exact h
    | with_reducible exact kept_refl _
    | intro _
    | with_reducible apply kept_flashWrite
    | with_reducible apply kept_flashErase
    | split
    | simp only [fixed_mk]

theorem kept_confirmBank {a0} (auto reqId s) (h : Kept a0 (fixed s)) : Kept a0 (fixed (confirmBank auto reqId s)) := by
  unfold confirmBank
  try dsimp only
  repeat'
    first
    | with_reducible exact h
    | with_reducible exact kept_refl _
    | intro _
    | with_reducible apply kept_writeDir
    | split
    | simp only [fixed_mk, fixed_raise]

theorem kept_autoConfirmEffect {a0} (t s0) (h : Kept a0 (fixed s0)) : Kept a0 (fixed (autoConfirmEffect t s0)) := by
  unfold autoConfirmEffect
  try dsimp only
  repeat'
    first
    | with_reducible exact h
    | with_reducible exact kept_refl _
    | intro _
    | with_reducible apply kept_advance
    | with_reducible apply kept_confirmBank
    | split
    | simp only [fixed_mk, fixed_ite, ite_self, updHost, updRings]

theorem kept_flashSpoilt {a0} (a n s) (h : Kept a0 (fixed s)) : Kept a0 (fixed (flashSpoilt a n s)) := by
  unfold flashSpoilt
  try dsimp only
  repeat'
    first
    | with_reducible exact h
    | with_reducible exact kept_refl _
    | intro _
    | with_reducible apply kept_flashWrite
    | split
    | simp only [fixed_mk]

theorem kept_flashWork (verifies a n done s) (h : Kept (fixed s) (fixed done)) : KeptBody s (flashWork verifies a n done s) := by
  unfold flashWork
  split
  · exact keptBody_ok h
  · exact keptBody_ok (kept_flashSpoilt _ _ _ (kept_refl _))

theorem kept_dirWork (verifies done s) (h : Kept (fixed s) (fixed done)) : KeptBody s (dirWork verifies done s) :=
  kept_flashWork _ _ _ _ _ h

theorem kept_bankConfirmBody (q verifies s) : KeptBody s (bankConfirmBody q verifies s) := by
  unfold bankConfirmBody
  try dsimp only
  try simp only [okEmpty, okResp]
  repeat'
    first
    | exact keptBody_error _ _
    | refine keptBody_checks ?_
    | refine keptBody_ok ?_
    | with_reducible exact kept_refl _
    | refine kept_dirWork _ _ _ ?_
    | with_reducible apply kept_confirmBank
    | split
    | simp only [fixed_mk, fixed_ite, ite_self, updHost, updRings]

theorem kept_bankEraseBody (q verifies s) : KeptBody s (bankEraseBody q verifies s) := by
  unfold bankEraseBody
  try dsimp only
  try simp only [okEmpty, okResp]
  repeat'
    first
    | exact keptBody_error _ _
    | refine keptBody_checks ?_
    | refine keptBody_ok ?_
    | with_reducible exact kept_refl _
    | refine kept_flashWork _ _ _ _ _ ?_
    | with_reducible apply kept_flashErase
    | split
    | simp only [fixed_mk, fixed_ite, ite_self, updHost, updRings]

theorem kept_noteAttempt {a0} (b s) (h : Kept a0 (fixed s)) : Kept a0 (fixed (noteAttempt b s)) := by
  unfold noteAttempt
  try dsimp only
  repeat'
    first
    | with_reducible exact h
    | with_reducible exact kept_refl _
    | intro _
    | with_reducible apply kept_flashWrite
    | split
    | simp only [fixed_mk]

theorem kept_bankPasses {a0} (b s) (h : Kept a0 (fixed s)) : Kept a0 (fixed (bankPasses b s)) := by
  unfold bankPasses
  try dsimp only
  repeat'
    first
    | with_reducible exact h
    | with_reducible exact kept_refl _
    | intro _
    | with_reducible apply kept_noteAttempt
    | split
    | simp only [fixed_mk, fixed_startFirmware, fixed_raise]

theorem kept_sealBody (b verifies s) : KeptBody s (sealBody b verifies s) := by
  unfold sealBody
  dsimp only
  have hc : ∀ v, Kept (fixed s) (fixed v) →
      Kept (fixed s) (fixed (if bankBad b (dirOf s) = true then writeDir (markBank b false (dirOf s)) v else v)) := fun v hv => by
    split
    · exact kept_writeDir _ _ hv
    · exact hv
  split
  · exact keptBody_ok (hc _ (kept_refl _))
  · exact keptBody_error _ _
  · exact kept_flashWork _ _ _ _ _ (hc _ (kept_flashWrite _ _ _ (kept_refl _)))

theorem kept_bankSealBody (q verifies s) : KeptBody s (bankSealBody q verifies s) := by
  have ht : ∀ {u : State} {b : Body}, fixed u = fixed s → KeptBody u b → KeptBody s b := fun e hb v r h => by rw [← e]; exact hb v r h
  unfold bankSealBody
  dsimp only
  refine keptBody_checks ?_
  split
  · refine ht ?_ (kept_sealBody _ _ _); exact fixed_countCompare _ _
  · refine keptBody_ok ?_; rw [fixed_countCompare]; exact kept_refl _

theorem kept_bankSelectBody (q verifies s) : KeptBody s (bankSelectBody q verifies s) := by
  unfold bankSelectBody
  try dsimp only
  try simp only [okEmpty]
  repeat'
    first
    | exact keptBody_error _ _
    | refine keptBody_checks ?_
    | refine keptBody_ok ?_
    | with_reducible exact kept_refl _
    | refine kept_dirWork _ _ _ ?_
    | with_reducible apply kept_writeDir
    | split
    | simp only [fixed_mk, fixed_ite, ite_self, updHost, updRings]

theorem kept_beginKeystone {a0} (c ago s) (h : Kept a0 (fixed s)) : Kept a0 (fixed (beginKeystone c ago s)) := by
  unfold beginKeystone
  try dsimp only
  repeat'
    first
    | with_reducible exact h
    | with_reducible exact kept_refl _
    | intro _
    | with_reducible apply kept_loseVolatile
    | split
    | simp only [fixed_mk, fixed_defaultSettings, fixed_forgetPins, fixed_keepKmpTimers,
        fixed_keystoneDebug, fixed_fuseSlot0]

theorem kept_beginRun {a0} (ago s) (h : Kept a0 (fixed s)) : Kept a0 (fixed (beginRun ago s)) := by
  unfold beginRun
  try dsimp only
  repeat'
    first
    | with_reducible exact h
    | with_reducible exact kept_refl _
    | intro _
    | with_reducible apply kept_beginKeystone
    | split
    | simp only [fixed_mk, fixed_ite, ite_self, updHost, updRings]

theorem kept_judgeBank {a0} (s) (h : Kept a0 (fixed s)) : Kept a0 (fixed (judgeBank s)) := by
  unfold judgeBank
  try dsimp only
  repeat'
    first
    | with_reducible exact h
    | with_reducible exact kept_refl _
    | intro _
    | with_reducible apply kept_bankPasses
    | split
    | simp only [fixed_countCompare, fixed_bankFails]

theorem kept_bankVerdictEffect {a0} (t agoNs kat s0) (h : Kept a0 (fixed s0)) : Kept a0 (fixed (bankVerdictEffect t agoNs kat s0)) := by
  unfold bankVerdictEffect
  try dsimp only
  repeat'
    first
    | with_reducible exact h
    | with_reducible exact kept_refl _
    | intro _
    | with_reducible apply kept_beginRun
    | with_reducible apply kept_advance
    | with_reducible apply kept_judgeBank
    | split
    | simp only [fixed_readOnce]

theorem kept_programBody (a b verifies s) : KeptBody s (programBody a b verifies s) := by
  unfold programBody
  try dsimp only
  try simp only [okEmpty]
  repeat'
    first
    | exact keptBody_error _ _
    | refine keptBody_checks ?_
    | refine keptBody_ok ?_
    | with_reducible exact kept_refl _
    | refine kept_flashWork _ _ _ _ _ ?_
    | with_reducible apply kept_flashWrite
    | split
    | simp only [fixed_mk, fixed_ite, ite_self, updHost, updRings]

theorem kept_bankWriteBody (q verifies s) : KeptBody s (bankWriteBody q verifies s) := by
  unfold bankWriteBody
  try dsimp only
  try simp only [okEmpty, okResp]
  repeat'
    first
    | exact keptBody_error _ _
    | refine keptBody_checks ?_
    | refine keptBody_ok ?_
    | with_reducible exact kept_refl _
    | refine kept_programBody _ _ _ _ 
    | split
    | simp only [fixed_mk, fixed_ite, ite_self, updHost, updRings]

theorem kept_baselineSetBody (q verifies s) : KeptBody s (baselineSetBody q verifies s) := by
  unfold baselineSetBody
  try dsimp only
  try simp only [okEmpty, okResp]
  repeat'
    first
    | exact keptBody_error _ _
    | refine keptBody_checks ?_
    | refine keptBody_ok ?_
    | with_reducible exact kept_refl _
    | refine kept_dirWork _ _ _ ?_
    | with_reducible apply kept_writeDir
    | split
    | simp only [fixed_raise]

theorem kept_beginCommit {a0} (g reqId epoch s) (h : Kept a0 (fixed s)) : Kept a0 (fixed (beginCommit g reqId epoch s)) := by
  unfold beginCommit
  try dsimp only
  repeat'
    first
    | with_reducible exact h
    | with_reducible exact kept_refl _
    | intro _
    | with_reducible apply kept_flashErase
    | split
    | simp only [fixed_mk, fixed_setSlotRecord, fixed_relayMsg]

theorem kept_bootDirectory {a0} (s) (h : Kept a0 (fixed s)) : Kept a0 (fixed (bootDirectory s)) := by
  unfold bootDirectory
  try dsimp only
  repeat'
    first
    | with_reducible exact h
    | with_reducible exact kept_refl _
    | intro _
    | with_reducible apply kept_writeDir
    | split
    | simp only [fixed_mk, fixed_ite, ite_self, updHost, updRings]

theorem kept_dbgOp {a0} (t op s0) (hop : ∀ v,
    Kept (fixed v) (fixed (op v))) (h : Kept a0 (fixed s0)) : Kept a0 (fixed (dbgOp t op s0)) := by
  unfold dbgOp
  try dsimp only
  repeat'
    first
    | with_reducible exact h
    | with_reducible exact kept_refl _
    | intro _
    | with_reducible refine Kept.trans ?_ (hop _)
    | with_reducible apply kept_advance
    | split
    | simp only [fixed_emit]

theorem kept_clearLockBrokenEffect {a0} (t s0) (h : Kept a0 (fixed s0)) : Kept a0 (fixed (clearLockBrokenEffect t s0)) := by
  unfold clearLockBrokenEffect
  try dsimp only
  repeat'
    first
    | with_reducible exact h
    | with_reducible exact kept_refl _
    | intro _
    | with_reducible apply kept_dbgOp
    | split
    | simp only [fixed_clearBroken]

theorem kept_restartRun {a0} (c s0) (h : Kept a0 (fixed s0)) : Kept a0 (fixed (restartRun c s0)) := by
  unfold restartRun
  try dsimp only
  repeat'
    first
    | with_reducible exact h
    | with_reducible exact kept_refl _
    | intro _
    | with_reducible apply kept_beginKeystone
    | split
    | simp only [fixed_mk, fixed_hostLinkDown, fixed_planeLeavesFreeze, fixed_planeToWatch,
        fixed_reselect, fixed_resetSources]

theorem kept_preloadFailed {a0} (s) (h : Kept a0 (fixed s)) : Kept a0 (fixed (preloadFailed s)) := by
  unfold preloadFailed
  try dsimp only
  repeat'
    first
    | with_reducible exact h
    | with_reducible exact kept_refl _
    | intro _
    | with_reducible apply kept_restartRun
    | with_reducible apply kept_writeDir
    | split
    | simp only [fixed_raise]

theorem kept_clocksLockedEffect {a0} (t copyOk s0) (h : Kept a0 (fixed s0)) : Kept a0 (fixed (clocksLockedEffect t copyOk s0)) := by
  unfold clocksLockedEffect
  try dsimp only
  repeat'
    first
    | with_reducible exact h
    | with_reducible exact kept_refl _
    | intro _
    | with_reducible apply kept_advance
    | with_reducible apply kept_preloadFailed
    | split
    | simp only [fixed_clocksRun, fixed_countCompare]

theorem kept_killRecord {a0} (n s) (h : Kept a0 (fixed s)) : Kept a0 (fixed (killRecord n s)) := by
  unfold killRecord
  try dsimp only
  repeat'
    first
    | with_reducible exact h
    | with_reducible exact kept_refl _
    | intro _
    | with_reducible apply kept_flashWrite
    | split
    | simp only [fixed_setSlotRecord]

theorem kept_commitCancelBody (q s) : KeptBody s (commitCancelBody q s) := by
  unfold commitCancelBody
  try dsimp only
  try simp only [okEmpty]
  repeat'
    first
    | exact keptBody_error _ _
    | refine keptBody_checks ?_
    | refine keptBody_ok ?_
    | with_reducible exact kept_refl _
    | with_reducible apply kept_killRecord
    | split
    | simp only [fixed_mk, fixed_raise, fixed_tellPartner, fixed_dropPending]

theorem kept_enterShelf {a0} (c s) (h : Kept a0 (fixed s)) : Kept a0 (fixed (enterShelf c s)) := by
  unfold enterShelf
  try dsimp only
  repeat'
    first
    | with_reducible exact h
    | with_reducible exact kept_refl _
    | intro _
    | with_reducible apply kept_loseVolatile
    | split
    | simp only [fixed_mk, fixed_closeDebug, fixed_enterMode, fixed_releasePins,
        fixed_stopTimeBase, fixed_setClocks]

theorem kept_completeDown {a0} (x s) (h : Kept a0 (fixed s)) : Kept a0 (fixed (completeDown x s)) := by
  unfold completeDown
  try dsimp only
  repeat'
    first
    | with_reducible exact h
    | with_reducible exact kept_refl _
    | intro _
    | with_reducible apply kept_enterShelf
    | split
    | simp only [fixed_reloadPending, fixed_planeToKeep, fixed_enterMode,
        fixed_stepReported, fixed_controlStops, fixed_planeLeavesFreeze, fixed_raiseIf, fixed_planeToWatch]

theorem kept_controlPreloadEffect {a0} (t s0) (h : Kept a0 (fixed s0)) : Kept a0 (fixed (controlPreloadEffect t s0)) := by
  unfold controlPreloadEffect
  try dsimp only
  repeat'
    first
    | with_reducible exact h
    | with_reducible exact kept_refl _
    | intro _
    | with_reducible apply kept_advance
    | with_reducible apply kept_preloadFailed
    | split
    | simp only [fixed_mk, fixed_countCompare]

theorem kept_haltRequest {a0} (w seq leftNs addr s0) (h : Kept a0 (fixed s0)) : Kept a0 (fixed (haltRequest w seq leftNs addr s0)) := by
  unfold haltRequest
  try dsimp only
  repeat'
    first
    | with_reducible exact h
    | with_reducible exact kept_refl _
    | intro _
    | with_reducible apply kept_advance
    | split
    | simp only [fixed_setResult, fixed_haltCore, fixed_updCore]

theorem kept_debugResetRequest {a0} (s) (h : Kept a0 (fixed s)) : Kept a0 (fixed (debugResetRequest s)) := by
  unfold debugResetRequest
  try dsimp only
  repeat'
    first
    | with_reducible exact h
    | with_reducible exact kept_refl _
    | intro _
    | with_reducible apply kept_restartRun
    | split
    | simp only [fixed_setResult]

theorem kept_controlWrite {a0} (a v s) (h : Kept a0 (fixed s)) : Kept a0 (fixed (controlWrite a v s)) := by
  unfold controlWrite
  try dsimp only
  repeat'
    first
    | with_reducible exact h
    | with_reducible exact kept_refl _
    | intro _
    | with_reducible apply kept_haltRequest
    | with_reducible apply kept_debugResetRequest
    | split
    | simp only [fixed_mk, fixed_setResult, fixed_resumeRequest, fixed_stepRequest,
        fixed_debugFreezeRequest, fixed_clearBroken]

theorem kept_dbgHaltEffect {a0} (t w seq leftNs s0) (h : Kept a0 (fixed s0)) : Kept a0 (fixed (dbgHaltEffect t w seq leftNs s0)) := by
  unfold dbgHaltEffect
  try dsimp only
  repeat'
    first
    | with_reducible exact h
    | with_reducible exact kept_refl _
    | intro _
    | with_reducible apply kept_dbgOp
    | with_reducible apply kept_haltRequest
    | split
    | simp only [fixed_mk, fixed_ite, ite_self, updHost, updRings]

theorem kept_dbgResumeEffect {a0} (t w s0) (h : Kept a0 (fixed s0)) : Kept a0 (fixed (dbgResumeEffect t w s0)) := by
  unfold dbgResumeEffect
  try dsimp only
  repeat'
    first
    | with_reducible exact h
    | with_reducible exact kept_refl _
    | intro _
    | with_reducible apply kept_dbgOp
    | split
    | simp only [fixed_resumeRequest]

theorem kept_dbgStepEffect {a0} (t w s0) (h : Kept a0 (fixed s0)) : Kept a0 (fixed (dbgStepEffect t w s0)) := by
  unfold dbgStepEffect
  try dsimp only
  repeat'
    first
    | with_reducible exact h
    | with_reducible exact kept_refl _
    | intro _
    | with_reducible apply kept_dbgOp
    | split
    | simp only [fixed_stepRequest]

theorem kept_debugFreezeWriteEffect {a0} (t s0) (h : Kept a0 (fixed s0)) : Kept a0 (fixed (debugFreezeWriteEffect t s0)) := by
  unfold debugFreezeWriteEffect
  try dsimp only
  repeat'
    first
    | with_reducible exact h
    | with_reducible exact kept_refl _
    | intro _
    | with_reducible apply kept_dbgOp
    | split
    | simp only [fixed_debugFreezeRequest]

theorem kept_debugReadEffect {a0} (t space addr s0) (h : Kept a0 (fixed s0)) : Kept a0 (fixed (debugReadEffect t space addr s0)) := by
  unfold debugReadEffect
  try dsimp only
  repeat'
    first
    | with_reducible exact h
    | with_reducible exact kept_refl _
    | intro _
    | with_reducible apply kept_dbgOp
    | split
    | simp only [fixed_debugValue, fixed_setResult]

theorem kept_debugResetEffect {a0} (t s0) (h : Kept a0 (fixed s0)) : Kept a0 (fixed (debugResetEffect t s0)) := by
  unfold debugResetEffect
  try dsimp only
  repeat'
    first
    | with_reducible exact h
    | with_reducible exact kept_refl _
    | intro _
    | with_reducible apply kept_dbgOp
    | with_reducible apply kept_debugResetRequest
    | split
    | simp only [fixed_mk, fixed_ite, ite_self, updHost, updRings]

theorem kept_debugWriteEffect {a0} (t space addr data s0) (h : Kept a0 (fixed s0)) : Kept a0 (fixed (debugWriteEffect t space addr data s0)) := by
  unfold debugWriteEffect
  try dsimp only
  repeat'
    first
    | with_reducible exact h
    | with_reducible exact kept_refl _
    | intro _
    | with_reducible apply kept_dbgOp
    | with_reducible apply kept_controlWrite
    | split
    | simp only [fixed_setResult, fixed_debugStore]

theorem kept_enterWatch {a0} (x s) (h : Kept a0 (fixed s)) : Kept a0 (fixed (enterWatch x s)) := by
  unfold enterWatch
  try dsimp only
  repeat'
    first
    | with_reducible exact h
    | with_reducible exact kept_refl _
    | intro _
    | with_reducible apply kept_bootDirectory
    | split
    | simp only [fixed_mk, fixed_enterMode, fixed_loadTime, fixed_setStage, fixed_setClocks,
        fixed_heldOrEarly, fixed_restoreEnds, fixed_applyBase, fixed_raise]

theorem kept_epochReachedEffect {a0} (t tagsGood s0) (h : Kept a0 (fixed s0)) : Kept a0 (fixed (epochReachedEffect t tagsGood s0)) := by
  unfold epochReachedEffect
  try dsimp only
  repeat'
    first
    | with_reducible exact h
    | with_reducible exact kept_refl _
    | intro _
    | with_reducible apply kept_advance
    | with_reducible apply kept_killRecord
    | split
    | simp only [fixed_mk, fixed_trySwitch, fixed_raise, fixed_dropPending]

theorem kept_flashNotAnsweringEffect {a0} (t agoNs s0) (h : Kept a0 (fixed s0)) : Kept a0 (fixed (flashNotAnsweringEffect t agoNs s0)) := by
  unfold flashNotAnsweringEffect
  try dsimp only
  repeat'
    first
    | with_reducible exact h
    | with_reducible exact kept_refl _
    | intro _
    | with_reducible apply kept_beginRun
    | with_reducible apply kept_advance
    | split
    | simp only [fixed_enterRecovery]

theorem kept_followDrop {a0} (s) (h : Kept a0 (fixed s)) : Kept a0 (fixed (followDrop s)) := by
  unfold followDrop
  try dsimp only
  repeat'
    first
    | with_reducible exact h
    | with_reducible exact kept_refl _
    | intro _
    | with_reducible apply kept_killRecord
    | split
    | simp only [fixed_mk, fixed_dropPending]

theorem kept_followStage {a0} (id reqId epoch items s) (h : Kept a0 (fixed s)) : Kept a0 (fixed (followStage id reqId epoch items s)) := by
  unfold followStage
  try dsimp only
  repeat'
    first
    | with_reducible exact h
    | with_reducible exact kept_refl _
    | intro _
    | with_reducible apply kept_flashErase
    | split
    | simp only [fixed_mk, fixed_setSlotRecord]

theorem kept_followerTakes {a0} (r s) (h : Kept a0 (fixed s)) : Kept a0 (fixed (followerTakes r s)) := by
  unfold followerTakes
  try dsimp only
  repeat'
    first
    | with_reducible exact h
    | with_reducible exact kept_refl _
    | intro _
    | with_reducible apply kept_followStage
    | with_reducible apply kept_followDrop
    | split
    | simp only [fixed_mk, fixed_emit, fixed_followArm]

theorem kept_hostWindowWriteEffect {a0} (t path off w uneven data s0) (h : Kept a0 (fixed s0)) : Kept a0 (fixed (hostWindowWriteEffect t path off w uneven data s0)) := by
  unfold hostWindowWriteEffect
  try dsimp only
  repeat'
    first
    | with_reducible exact h
    | with_reducible exact kept_refl _
    | intro _
    | with_reducible apply kept_hostWrite
    | with_reducible apply kept_advance
    | split
    | simp only [fixed_mk, fixed_ite, ite_self, updHost, updRings]

theorem kept_intCauseEffect {a0} (t path byte w peek data s0) (h : Kept a0 (fixed s0)) : Kept a0 (fixed (intCauseEffect t path byte w peek data s0)) := by
  unfold intCauseEffect
  try dsimp only
  repeat'
    first
    | with_reducible exact h
    | with_reducible exact kept_refl _
    | intro _
    | with_reducible apply kept_regWrite
    | split
    | simp only [fixed_mk, fixed_ite, ite_self, updHost, updRings]

theorem kept_intMaskEffect {a0} (t path byte w peek data s0) (h : Kept a0 (fixed s0)) : Kept a0 (fixed (intMaskEffect t path byte w peek data s0)) := by
  unfold intMaskEffect
  try dsimp only
  repeat'
    first
    | with_reducible exact h
    | with_reducible exact kept_refl _
    | intro _
    | with_reducible apply kept_regWrite
    | split
    | simp only [fixed_mk, fixed_ite, ite_self, updHost, updRings]

theorem kept_partnerStage {a0} (good s) (h : Kept a0 (fixed s)) : Kept a0 (fixed (partnerStage good s)) := by
  unfold partnerStage
  try dsimp only
  repeat'
    first
    | with_reducible exact h
    | with_reducible exact kept_refl _
    | intro _
    | with_reducible apply kept_killRecord
    | split
    | simp only [fixed_mk, fixed_armBoth, fixed_raise]

theorem kept_leaderTakes {a0} (t r s) (h : Kept a0 (fixed s)) : Kept a0 (fixed (leaderTakes t r s)) := by
  unfold leaderTakes
  split
  · rw [fixed_messageArrives]; exact h
  · rw [fixed_ranOnPartner]; exact h
  · rw [fixed_relayedEvent]; exact h
  · rw [fixed_queueResult]; exact h
  · rw [fixed_forEach _ (fun _ _ => fixed_seenLater _ _ _ _)]; exact h
  · exact kept_partnerStage _ _ h
  · exact h
  · exact h
  · exact h

theorem kept_quiesceReqEffect {a0} (t path byte w peek data s0) (h : Kept a0 (fixed s0)) : Kept a0 (fixed (quiesceReqEffect t path byte w peek data s0)) := by
  unfold quiesceReqEffect
  try dsimp only
  repeat'
    first
    | with_reducible exact h
    | with_reducible exact kept_refl _
    | intro _
    | with_reducible apply kept_regWrite
    | split
    | simp only [fixed_mk, fixed_ite, ite_self, updHost, updRings]

theorem kept_recordEraseBody (q verifies s) : KeptBody s (recordEraseBody q verifies s) := by
  unfold recordEraseBody
  dsimp only
  refine keptBody_checks fun v r e => ?_
  have hk := kept_flashWork verifies _ _ _ _ (by
    rw [fixed_setSlotRecord, fixed_setSlotRecord]; exact kept_flashErase _ _ _ (kept_refl _)) v r e
  rw [fixed_setSlotRecord] at hk
  exact hk

theorem kept_recordWriteBody (q verifies s) : KeptBody s (recordWriteBody q verifies s) := by
  unfold recordWriteBody
  try dsimp only
  try simp only [okEmpty, okResp]
  repeat'
    first
    | exact keptBody_error _ _
    | refine keptBody_checks ?_
    | refine keptBody_ok ?_
    | with_reducible exact kept_refl _
    | refine kept_programBody _ _ _ _ 
    | split
    | simp only [fixed_mk, fixed_ite, ite_self, updHost, updRings]

theorem kept_relayedMessageEffect {a0} (t r s0) (h : Kept a0 (fixed s0)) : Kept a0 (fixed (relayedMessageEffect t r s0)) := by
  unfold relayedMessageEffect
  try dsimp only
  repeat'
    first
    | with_reducible exact h
    | with_reducible exact kept_refl _
    | intro _
    | with_reducible apply kept_advance
    | with_reducible apply kept_leaderTakes
    | with_reducible apply kept_followerTakes
    | split
    | simp only [fixed_mk, fixed_ite, ite_self, updHost, updRings]

theorem kept_reqTailEffect {a0} (t path byte w peek data s0) (h : Kept a0 (fixed s0)) : Kept a0 (fixed (reqTailEffect t path byte w peek data s0)) := by
  unfold reqTailEffect
  try dsimp only
  repeat'
    first
    | with_reducible exact h
    | with_reducible exact kept_refl _
    | intro _
    | with_reducible apply kept_regWrite
    | split
    | simp only [fixed_mk, fixed_ite, ite_self, updHost, updRings]

theorem kept_responseEntryWriteEffect {a0} (t s0) (h : Kept a0 (fixed s0)) : Kept a0 (fixed (responseEntryWriteEffect t s0)) := by
  have ha := kept_advance t s0 h
  unfold responseEntryWriteEffect
  dsimp only
  revert ha
  generalize advance t s0 = s
  intro ha
  split
  · exact ha
  · split
    · rw [fixed_noteQuiesced, fixed_setCause]
      refine ha.trans ⟨rfl, Nat.le_refl _, rfl, id, fun w => ?_⟩
      dsimp only [updHost, emit, fixed]
      split
      · exact wf_write _ _ w
      · exact w
    · exact ha

theorem kept_restartBody (q s) : KeptBody s (restartBody q s) := by
  unfold restartBody
  try dsimp only
  try simp only [okEmpty, okResp]
  repeat'
    first
    | exact keptBody_error _ _
    | refine keptBody_checks ?_
    | refine keptBody_ok ?_
    | with_reducible exact kept_refl _
    | with_reducible apply kept_restartRun
    | split
    | simp only [fixed_finish]

theorem kept_ringEnableEffect {a0} (t path byte w peek data s0) (h : Kept a0 (fixed s0)) : Kept a0 (fixed (ringEnableEffect t path byte w peek data s0)) := by
  unfold ringEnableEffect
  try dsimp only
  repeat'
    first
    | with_reducible exact h
    | with_reducible exact kept_refl _
    | intro _
    | with_reducible apply kept_regWrite
    | split
    | simp only [fixed_mk, fixed_ite, ite_self, updHost, updRings]

theorem kept_ringResetEffect {a0} (t path byte w peek data s0) (h : Kept a0 (fixed s0)) : Kept a0 (fixed (ringResetEffect t path byte w peek data s0)) := by
  unfold ringResetEffect
  try dsimp only
  repeat'
    first
    | with_reducible exact h
    | with_reducible exact kept_refl _
    | intro _
    | with_reducible apply kept_regWrite
    | split
    | simp only [fixed_mk, fixed_ite, ite_self, updHost, updRings]

theorem kept_rspHeadEffect {a0} (t path byte w peek data s0) (h : Kept a0 (fixed s0)) : Kept a0 (fixed (rspHeadEffect t path byte w peek data s0)) := by
  unfold rspHeadEffect
  try dsimp only
  repeat'
    first
    | with_reducible exact h
    | with_reducible exact kept_refl _
    | intro _
    | with_reducible apply kept_regWrite
    | split
    | simp only [fixed_mk, fixed_ite, ite_self, updHost, updRings]

theorem kept_sectionFailed {a0} (sec x items s) (h : Kept a0 (fixed s)) : Kept a0 (fixed (sectionFailed sec x items s)) := by
  unfold sectionFailed
  try dsimp only
  repeat'
    first
    | with_reducible exact h
    | with_reducible exact kept_refl _
    | intro _
    | with_reducible apply kept_killRecord
    | split
    | simp only [fixed_mk, fixed_raise, fixed_setSlotRecord, fixed_applyBase, fixed_abandonClimb]

theorem kept_sectionStreamedEffect {a0} (t full good items s0) (h : Kept a0 (fixed s0)) : Kept a0 (fixed (sectionStreamedEffect t full good items s0)) := by
  unfold sectionStreamedEffect
  try dsimp only
  repeat'
    first
    | with_reducible exact h
    | with_reducible exact kept_refl _
    | intro _
    | with_reducible apply kept_advance
    | with_reducible apply kept_sectionFailed
    | split
    | simp only [fixed_mk, fixed_countCompare, fixed_configLoaded, fixed_applySection,
        fixed_climbOn]

theorem kept_stageCommitBody (q s) : KeptBody s (stageCommitBody q s) := by
  unfold stageCommitBody
  try dsimp only
  try simp only [okResp]
  repeat'
    first
    | exact keptBody_error _ _
    | refine keptBody_checks ?_
    | refine keptBody_ok ?_
    | with_reducible exact kept_refl _
    | with_reducible apply kept_beginCommit
    | split
    | simp only [fixed_mk, fixed_ite, ite_self, updHost, updRings]

theorem kept_takeSnapshotEffect {a0} (t path byte w peek data s0) (h : Kept a0 (fixed s0)) : Kept a0 (fixed (takeSnapshotEffect t path byte w peek data s0)) := by
  unfold takeSnapshotEffect
  try dsimp only
  repeat'
    first
    | with_reducible exact h
    | with_reducible exact kept_refl _
    | intro _
    | with_reducible apply kept_regWrite
    | split
    | simp only [fixed_mk, fixed_ite, ite_self, updHost, updRings]

theorem kept_transitionCompleteEffect {a0} (t s0) (h : Kept a0 (fixed s0)) : Kept a0 (fixed (transitionCompleteEffect t s0)) := by
  unfold transitionCompleteEffect
  try dsimp only
  repeat'
    first
    | with_reducible exact h
    | with_reducible exact kept_refl _
    | intro _
    | with_reducible apply kept_advance
    | with_reducible apply kept_enterWatch
    | with_reducible apply kept_completeDown
    | split
    | simp only [fixed_afterStep, fixed_completeClimb, fixed_completeFreeze]

theorem kept_watchdogEffect {a0} (t control s0) (h : Kept a0 (fixed s0)) : Kept a0 (fixed (watchdogEffect t control s0)) := by
  unfold watchdogEffect
  try dsimp only
  repeat'
    first
    | with_reducible exact h
    | with_reducible exact kept_refl _
    | intro _
    | with_reducible apply kept_advance
    | with_reducible apply kept_restartRun
    | split
    | simp only [fixed_mk, fixed_ite, ite_self, updHost, updRings]
/-! ### A request -/

theorem kept_runChecks (c x s) (body : State → Body) (h : ∀ v, KeptBody v (body v)) : KeptBody s (runChecks c x s body) := by
  unfold runChecks
  (repeat' split) <;> first | exact keptBody_error _ _ | exact h _

theorem kept_bodyOrRun (c q x s) (body : State → Body) (h : ∀ v, KeptBody v (body v)) : KeptBody s (bodyOrRun c q x body s) := by
  unfold bodyOrRun
  split
  · split
    · exact keptBody_error _ _
    · refine keptBody_ok ?_
      simp only [fixed_sendVc0, fixed_mk]
      exact kept_refl _
  · exact h s

theorem kept_execute {a0} (c q s) (body : State → Body) (h : ∀ v, KeptBody v (body v)) (h0 : Kept a0 (fixed s)) :
    Kept a0 (fixed (execute c q body s)) := by
  have hr := kept_runChecks c (findSession q.session s) s _ (fun v => kept_bodyOrRun c q (findSession q.session s) v body h)
  refine h0.trans ?_
  unfold execute
  dsimp only
  split
  · rename_i e; rw [fixed_finish]; exact hr _ _ e
  · rename_i e; rw [fixed_finish]; exact hr _ _ e
  · rename_i e; exact hr _ _ e
  · rw [fixed_finish]; exact kept_refl _

/-- A request keeps what its command's own definition keeps. -/
theorem kept_kmpExec {a0} (c q s0) (body : State → Body) (h : ∀ v, KeptBody v (body v)) (h0 : Kept a0 (fixed s0)) :
    Kept a0 (fixed (kmpExec c q body s0)) := by
  have ha := kept_advance q.t s0 h0
  unfold kmpExec
  dsimp only
  revert ha
  generalize advance q.t s0 = s
  intro ha
  have ht : ∀ b : Arrival, arrive c.row.code q (takeRequest (if q.remote then s else countRx q.transport s)) = b →
      fixed (arrivalState b) = fixed s := fun b e => by
    rw [← e, fixed_arrive, fixed_takeRequest]; simp only [fixed_ite, fixed_countRx, ite_self]
  split
  · split
    · exact ha
    · exact kept_execute _ _ _ _ h (by rw [fixed_mk (h := rfl)]; exact ha)
  · split
    · exact ha
    · split
      · rw [fixed_relayMsg, fixed_countRx]; exact ha
      · split
        · rw [fixed_holdMessage]; simp only [fixed_ite, fixed_countRx, ite_self]; exact ha
        · split
          · rename_i e; rw [← ht _ e] at ha; exact ha
          · rename_i e
            rw [← ht _ e] at ha
            split
            · exact kept_execute _ _ _ _ h (by rw [fixed_mk (h := rfl)]; exact ha)
            · rw [fixed_enqueue]; exact ha

end Sys2Proof.Laws
end

