-- ==== Sys2Proof/Laws/Kmp.lean ====
section
/-! SUPPORT. Laws/Kmp.lean: what the handling of a request can do, said once: the state a command acts on, and the answer it leads to. -/

namespace Sys2Proof.Laws
open Sys2Proof Sys2Proof.Machine Sys2Proof.Safety

theorem find_map_session (l : List Session) (n : Nat) (f : Session → Session) (hf : ∀ x, (f x).number = x.number) :
    (l.map fun x => if x.number = n then f x else x).find? (fun x => x.number == n) = (l.find? fun x => x.number == n).map f := by
  induction l with
  | nil => rfl
  | cons a l ih =>
    by_cases h : a.number = n
    · simp [h, hf]
    · simp [h, ih]

theorem findSession_updSession (n : Nat) (f : Session → Session) (s : State) (hf : ∀ x, (f x).number = x.number) :
    findSession n (updSession n f s) = (findSession n s).map f := find_map_session s.kmp.sessions n f hf

theorem ackSession_frame (n a : Nat) (s : State) :
    ∃ k, ackSession n a s = { s with kmp := k } ∧ k.waiting = s.kmp.waiting ∧ k.relayed = s.kmp.relayed ∧ k.ctlCache = s.kmp.ctlCache := by
  unfold ackSession
  split
  · exact ⟨s.kmp, rfl, rfl, rfl, rfl⟩
  · dsimp only
    split
    · split
      · exact ⟨_, rfl, rfl, rfl, rfl⟩
      · exact ⟨_, rfl, rfl, rfl, rfl⟩
    · exact ⟨s.kmp, rfl, rfl, rfl, rfl⟩

theorem ackSession_find (n a : Nat) (s : State) :
    ∃ f : Session → Session, findSession n (ackSession n a s) = (findSession n s).map f ∧
      ∀ x, (f x).number = x.number ∧ (f x).controlling = x.controlling ∧ (f x).target = x.target ∧ (f x).keySlot = x.keySlot := by
  unfold ackSession
  split
  · rename_i h; exact ⟨id, by simp [h], by simp⟩
  · rename_i x hx
    dsimp only
    split
    · split
      · exact ⟨_, findSession_updSession n _ s (fun x => rfl), fun x => ⟨rfl, rfl, rfl, rfl⟩⟩
      · exact ⟨_, findSession_updSession n _ s (fun x => rfl), fun x => ⟨rfl, rfl, rfl, rfl⟩⟩
    · exact ⟨id, by simp [hx], by simp⟩

/-- What the handling of an arriving request may change: the mailbox, the compares counted, the messages and requests counted. -/
structure Handled (s v : State) : Prop where
  only : v = { s with kmp := v.kmp, dig := v.dig, cnt := v.cnt, dbg := v.dbg }
  waiting : v.kmp.waiting = s.kmp.waiting
  relayed : v.kmp.relayed = s.kmp.relayed
  ctlCache : v.kmp.ctlCache = s.kmp.ctlCache
  watchHalted : v.dbg.watch.halted = s.dbg.watch.halted
  controlHalted : v.dbg.control.halted = s.dbg.control.halted
  watchPend : v.dbg.watch.pend = s.dbg.watch.pend
  controlPend : v.dbg.control.pend = s.dbg.control.pend

theorem Handled.refl (s : State) : Handled s s := ⟨rfl, rfl, rfl, rfl, rfl, rfl, rfl, rfl⟩

theorem Handled.trans {s u v : State} (h : Handled s u) (g : Handled u v) : Handled s v where
  only := by rw [g.only, h.only]
  waiting := g.waiting.trans h.waiting
  relayed := g.relayed.trans h.relayed
  ctlCache := g.ctlCache.trans h.ctlCache
  watchHalted := g.watchHalted.trans h.watchHalted
  controlHalted := g.controlHalted.trans h.controlHalted
  watchPend := g.watchPend.trans h.watchPend
  controlPend := g.controlPend.trans h.controlPend

theorem updSession_handled (n : Nat) (f : Session → Session) (s : State) : Handled s (updSession n f s) :=
  ⟨rfl, rfl, rfl, rfl, rfl, rfl, rfl, rfl⟩

theorem updRates_handled (tr : Transport) (f : TransportRates → TransportRates) (s : State) : Handled s (updRates tr f s) :=
  ⟨rfl, rfl, rfl, rfl, rfl, rfl, rfl, rfl⟩

theorem countRx_handled (tr : Transport) (s : State) : Handled s (countRx tr s) := ⟨rfl, rfl, rfl, rfl, rfl, rfl, rfl, rfl⟩

theorem countCompare_handled (b : Bool) (s : State) : Handled s (countCompare b s) := ⟨rfl, rfl, rfl, rfl, rfl, rfl, rfl, rfl⟩

theorem takeRequest_handled (s : State) : Handled s (takeRequest s) := by
  unfold takeRequest; split <;> exact ⟨rfl, rfl, rfl, rfl, rfl, rfl, rfl, rfl⟩

theorem ackSession_handled (n a : Nat) (s : State) : Handled s (ackSession n a s) := by
  obtain ⟨k, e, hw, hr, hc⟩ := ackSession_frame n a s
  rw [e]; exact ⟨rfl, hw, hr, hc, rfl, rfl, rfl, rfl⟩

theorem touchSession_handled (q : Req) (x : Session) (s : State) : Handled s (touchSession q x s) := by
  unfold touchSession
  dsimp only
  refine Handled.trans ?_ (ackSession_handled _ _ _)
  split
  · exact (updSession_handled _ _ _).trans (updRates_handled _ _ _)
  · exact updSession_handled _ _ _

theorem findSession_updRates (n : Nat) (tr : Transport) (f : TransportRates → TransportRates) (s : State) :
    findSession n (updRates tr f s) = findSession n s := rfl

theorem touchSession_find (q : Req) (x : Session) (s : State) (hx : findSession q.session s = some x) :
    ∃ y, findSession q.session (touchSession q x s) = some y ∧
      y.number = q.session ∧ y.controlling = x.controlling ∧ y.target = x.target ∧ y.keySlot = x.keySlot := by
  have hn : x.number = q.session := by simpa using List.find?_some hx
  unfold touchSession
  dsimp only
  rw [hn]
  obtain ⟨f, e, hf⟩ := ackSession_find q.session q.ack
    (if x.keySlot.isSome = true then
      updRates q.transport (fun r => { r with lastAuthOk := some s.elapsed })
        (updSession q.session (fun y => { y with dest := reqDest q, lastRequestAt := s.elapsed }) s)
    else updSession q.session (fun y => { y with dest := reqDest q, lastRequestAt := s.elapsed }) s)
  have e2 : ∀ b : Bool, findSession q.session
      (if b = true then
        updRates q.transport (fun r => { r with lastAuthOk := some s.elapsed })
          (updSession q.session (fun y => { y with dest := reqDest q, lastRequestAt := s.elapsed }) s)
      else updSession q.session (fun y => { y with dest := reqDest q, lastRequestAt := s.elapsed }) s)
      = some { x with dest := reqDest q, lastRequestAt := s.elapsed } := by
    intro b
    cases b <;> simp [findSession_updRates, findSession_updSession, hx]
  rw [e, e2]
  exact ⟨_, rfl, (hf _).1.trans hn, (hf _).2.1, (hf _).2.2.1, (hf _).2.2.2⟩

theorem Handled.sessionCache {s v : State} (h : Handled s v) (x : Session) : sessionCache x v = Machine.sessionCache x s := by
  unfold Machine.sessionCache; rw [h.ctlCache]

theorem Handled.elapsed {s v : State} (h : Handled s v) : v.elapsed = s.elapsed := by rw [h.only]
theorem Handled.sup {s v : State} (h : Handled s v) : v.sup = s.sup := by rw [h.only]
theorem Handled.boot {s v : State} (h : Handled s v) : v.boot = s.boot := by rw [h.only]
theorem Handled.span {s v : State} (h : Handled s v) : v.span = s.span := by rw [h.only]
theorem Handled.ports {s v : State} (h : Handled s v) : v.ports = s.ports := by rw [h.only]

theorem Handled.spanLeads {s v : State} (h : Handled s v) : spanLeads v = Machine.spanLeads s := by
  unfold Machine.spanLeads spanJoined; rw [h.span]

theorem Handled.spanFollows {s v : State} (h : Handled s v) : spanFollows v = Machine.spanFollows s := by
  unfold Machine.spanFollows spanJoined; rw [h.span]

theorem Handled.mustWait {s v : State} (h : Handled s v) (c : Cmd) (q : Req) : mustWait c q v = Machine.mustWait c q s := by
  unfold Machine.mustWait requestHeld kmpHalted shedUnderWay masterBusy kmpHaltPends
  rw [h.relayed, h.ports, h.sup, h.watchHalted, h.controlHalted, h.watchPend, h.controlPend]

theorem Handled.cmdKnown {s v : State} (h : Handled s v) (c : Cmd) : cmdKnown c v = Machine.cmdKnown c s := by
  unfold Machine.cmdKnown; rw [h.boot]

/-- A request that passes steps 2 to 6 of R167 goes on, in a state that differs by the mailbox alone. -/
theorem arrive_go {c : Cmd} {q : Req} {s : State} {x : Session} (hs : q.session ≠ 0) (hr : s.boot.recovery = false)
    (hx : findSession q.session s = some x) (ha : q.auth = x.keySlot.isSome)
    (hc : cacheFind q.requestId s.elapsed (sessionCache x s) = none) (hw : s.kmp.waiting = [])
    (h1 : 1 ≤ seqDist q.seq x.h) (h2 : seqDist q.seq x.h ≤ seqWindow) :
    ∃ v y, arrive c.row.code q s = .go x.h v ∧ Handled s v ∧ findSession q.session v = some y ∧
      y.number = q.session ∧ y.controlling = x.controlling ∧ y.target = x.target ∧ y.keySlot = x.keySlot := by
  have hn : x.number = q.session := by simpa using List.find?_some hx
  unfold arrive
  dsimp only
  generalize hu : (if tagCompared c.row.code q s = true then countCompare true s else s) = u
  have hsu : Handled s u := by
    rw [← hu]; split
    · exact countCompare_handled _ _
    · exact Handled.refl s
  have hxu : findSession q.session u = some x := by
    rw [← hu]; split <;> exact hx
  have ht := hsu.trans (touchSession_handled q x u)
  have hru : u.boot.recovery = false := by rw [hsu.boot]; exact hr
  have hcu : cacheFind q.requestId (touchSession q x u).elapsed (sessionCache x (touchSession q x u)) = none := by
    rw [ht.sessionCache, ht.elapsed]; exact hc
  have hwu : (touchSession q x u).kmp.waiting = [] := by rw [ht.waiting]; exact hw
  obtain ⟨y, hy, y1, y2, y3, y4⟩ := touchSession_find q x u hxu
  refine ⟨updSession x.number (fun y => { y with h := q.seq }) (touchSession q x u), { y with h := q.seq }, ?_, ?_, ?_, y1, y2, y3, y4⟩
  · simp [hru, hs, hxu, ha, hcu, hwu, h1, h2, waitingMax]
  · exact ht.trans (updSession_handled _ _ _)
  · have e := findSession_updSession q.session (fun y : Session => { y with h := q.seq }) (touchSession q x u) (fun _ => rfl)
    rw [hn, e, hy]; rfl

theorem isHead_empty {code : Nat} {q : Req} {s : State} (h : s.kmp.waiting = []) : isHead code q s = none := by
  unfold isHead; rw [h]

/-- An admitted request finds an open session, and arrives at the state in which its command acts. -/
theorem entered_of_admitted {c : Cmd} {q : Req} {s0 : State} (h : admitted c q s0 = true) :
    Handled (advance q.t s0) (entered c q s0) ∧
      (∃ x y v, findSession q.session (advance q.t s0) = some x ∧ findSession q.session (entered c q s0) = some y ∧
        y.controlling = x.controlling ∧ y.target = x.target ∧ y.keySlot = x.keySlot ∧ y.number = q.session ∧
        (c.row.control = true → x.controlling = true) ∧
        (spanLeads (advance q.t s0) = true → actsOnTarget c = true → x.target = 0) ∧
        arrive c.row.code q (takeRequest (if q.remote then advance q.t s0 else countRx q.transport (advance q.t s0))) = .go x.h v ∧
        entered c q s0 = { v with kmp := { v.kmp with hBefore := x.h } }) := by
  unfold admitted at h
  simp only [Bool.and_eq_true, Bool.not_eq_true', decide_eq_true_eq, List.isEmpty_iff, sessionPasses] at h
  obtain ⟨⟨⟨⟨⟨⟨⟨⟨⟨hs, hw⟩, hd⟩, hf⟩, hk⟩, hr⟩, hm⟩, hkn⟩, hmode⟩, hp⟩ := h
  revert hp
  cases hx : findSession q.session (advance q.t s0) with
  | none => simp
  | some x =>
    intro hp
    simp only [Bool.and_eq_true, beq_iff_eq, Option.isNone_iff_eq_none, decide_eq_true_eq, Bool.or_eq_true, Bool.not_eq_true'] at hp
    obtain ⟨⟨⟨⟨⟨ha, hc⟩, h1⟩, h2⟩, hctl⟩, htg⟩ := hp
    generalize hu : takeRequest (if q.remote = true then advance q.t s0 else countRx q.transport (advance q.t s0)) = u
    have hh : Handled (advance q.t s0) u := by
      rw [← hu]
      refine Handled.trans ?_ (takeRequest_handled _)
      split
      · exact Handled.refl _
      · exact countRx_handled _ _
    have hxu : findSession q.session u = some x := by
      rw [← hu, ← hx]
      unfold takeRequest
      split <;> split <;> rfl
    obtain ⟨v, y, e, hv, hy, y1, y2, y3, y4⟩ := arrive_go (c := c) (q := q) (s := u) (x := x) hs (by rw [hh.boot]; exact hr) hxu ha
      (by rw [hh.sessionCache, hh.elapsed]; exact hc) (by rw [hh.waiting]; exact hw) h1 h2
    have he : entered c q s0 = { v with kmp := { v.kmp with hBefore := x.h } } := by
      unfold entered; dsimp only; rw [hu, e]
    have hvv := hh.trans hv
    refine ⟨?_, x, y, v, rfl, ?_, y2, y3, y4, y1, ?_, ?_, e, he⟩
    · rw [he]
      exact hvv.trans ⟨rfl, rfl, rfl, rfl, rfl, rfl, rfl, rfl⟩
    · rw [he]; exact hy
    · intro hcc
      rcases hctl with h | h
      · rw [hcc] at h; exact absurd h (by simp)
      · exact h
    · intro hl hac
      rcases htg with (h | h) | h
      · rw [hl] at h; exact absurd h (by simp)
      · rw [hac] at h; exact absurd h (by simp)
      · exact h

/-- An admitted request is answered by its command's own definition, acting on the state it has entered. -/
theorem kmpExec_admitted {c : Cmd} {q : Req} {s0 : State} (body : State → Body) (h : admitted c q s0 = true) :
    kmpExec c q body s0 =
      match body (entered c q s0) with
      | .ok (v, .ok resp) => finish c.row.code q (findSession q.session (entered c q s0)) true 0 resp v
      | .ok (v, .err e resp) => finish c.row.code q (findSession q.session (entered c q s0)) false e.code resp v
      | .ok (v, .later) => v
      | .error e => finish c.row.code q (findSession q.session (entered c q s0)) false e.code [] (entered c q s0) := by
  obtain ⟨hh, x, y, v, hx, hy, y2, y3, y4, y5, hctl, htg, e, he⟩ := entered_of_admitted h
  unfold admitted at h
  simp only [Bool.and_eq_true, Bool.not_eq_true', decide_eq_true_eq, List.isEmpty_iff] at h
  obtain ⟨⟨⟨⟨⟨⟨⟨⟨⟨hs, hw⟩, hd⟩, hf⟩, hk⟩, hr⟩, hm⟩, hkn⟩, hmode⟩, hp⟩ := h
  have hvw : v.kmp.waiting = [] := by
    have := hh.waiting; rw [he] at this; simpa [hw] using this
  have hvm : mustWait c q v = false := by
    have := hh.mustWait c q; rw [he] at this
    rw [hm] at this; exact this
  have hrun : runChecks c (findSession q.session (entered c q s0)) (entered c q s0)
      (bodyOrRun c q (findSession q.session (entered c q s0)) body) = body (entered c q s0) := by
    have c1 : (entered c q s0).boot.recovery = false := by rw [hh.boot]; exact hr
    have c2 : cmdKnown c (entered c q s0) = true := by rw [hh.cmdKnown]; exact hkn
    have c3 : cmdInMode c (entered c q s0).sup.mode = true := by rw [hh.sup]; exact hmode
    have c4 : (c.row.control && !((some y).any fun y => y.controlling) && !spanFollows (entered c q s0)) = false := by
      by_cases hc : c.row.control = true
      · simp [hc, y2, hctl hc]
      · simp [hc]
    have c5 : forPartner c (some y) (entered c q s0) = false := by
      unfold forPartner
      by_cases hl : spanLeads (advance q.t s0) = true
      · by_cases ha : actsOnTarget c = true
        · simp [y3, htg hl ha]
        · simp [ha]
      · rw [hh.spanLeads]; simp [hl]
    rw [hy]
    unfold runChecks bodyOrRun
    simp only [c1, c2, c3, c4, c5, Bool.false_eq_true, if_false, Bool.not_true]
  have hgo : kmpExec c q body s0 = execute c q body (entered c q s0) := by
    rw [he]
    unfold kmpExec
    simp only [isHead_empty hw, hd, hf, hk, e, hvw, hvm, Bool.not_true, Bool.not_false, Bool.false_eq_true, if_false, and_self, if_true]
  rw [hgo]
  unfold execute
  dsimp only
  rw [hrun]
  all_goals
    rcases body (entered c q s0) with e | ⟨w, r⟩
    · rfl
    · cases r <;> rfl

/-- A command that comes out right on the state it acts on succeeds. -/
theorem succeeds_of_body {c : Cmd} {i : Req → Instr} {body : Req → State → Body} {pre : Req → State → Prop} {eff : Req → State → State}
    {resp : Req → State → List Byte} (hx : ∀ q s, exec (i q) s = .next (kmpExec c q (body q) s))
    (hb : ∀ q u, pre q u → body q u = .ok (eff q u, .ok (resp q u))) : Succeeds c i pre eff resp := by
  intro q s h hp
  unfold Answers
  rw [hx, kmpExec_admitted _ h, hb _ _ hp]

/-- A command that stops at a check is turned away. -/
theorem refuses_of_body {c : Cmd} {i : Req → Instr} {body : Req → State → Body} {pre : Req → State → Prop} {e : Err}
    (hx : ∀ q s, exec (i q) s = .next (kmpExec c q (body q) s)) (hb : ∀ q u, pre q u → body q u = .error e) : Refuses c i pre e := by
  intro q s h hp
  unfold TurnsAway
  rw [hx, kmpExec_admitted _ h, hb _ _ hp]

/-- Every row that is a request handles it as one. -/
theorem request_exec {i : Instr} {c : Cmd} {q : Req} (h : requestOf i = some (c, q)) :
    ∃ body : State → Body, ∀ s, exec i s = .next (kmpExec c q body s) := by
  cases i <;> first
    | (injection h with h; injection h with h1 h2; subst h1 h2; exact ⟨_, fun s => rfl⟩)
    | exact absurd h (by simp [requestOf])

/-- A request that reaches step 7 finds an open session, and arrives at the state in which its command acts. -/
theorem entered_of_reaches {c : Cmd} {q : Req} {s0 : State} (h : reaches c q s0 = true) :
    Handled (advance q.t s0) (entered c q s0) ∧
      (∃ x y v, findSession q.session (advance q.t s0) = some x ∧ findSession q.session (entered c q s0) = some y ∧
        y.controlling = x.controlling ∧
        arrive c.row.code q (takeRequest (if q.remote then advance q.t s0 else countRx q.transport (advance q.t s0))) = .go x.h v ∧
        entered c q s0 = { v with kmp := { v.kmp with hBefore := x.h } }) := by
  unfold reaches at h
  simp only [Bool.and_eq_true, Bool.not_eq_true', decide_eq_true_eq, List.isEmpty_iff] at h
  obtain ⟨⟨⟨⟨⟨⟨⟨hs, hw⟩, hd⟩, hf⟩, hk⟩, hr⟩, hm⟩, hp⟩ := h
  revert hp
  cases hx : findSession q.session (advance q.t s0) with
  | none => simp
  | some x =>
    intro hp
    simp only [Bool.and_eq_true, beq_iff_eq, Option.isNone_iff_eq_none, decide_eq_true_eq] at hp
    obtain ⟨⟨⟨ha, hc⟩, h1⟩, h2⟩ := hp
    generalize hu : takeRequest (if q.remote = true then advance q.t s0 else countRx q.transport (advance q.t s0)) = u
    have hh : Handled (advance q.t s0) u := by
      rw [← hu]
      refine Handled.trans ?_ (takeRequest_handled _)
      split
      · exact Handled.refl _
      · exact countRx_handled _ _
    have hxu : findSession q.session u = some x := by
      rw [← hu, ← hx]
      unfold takeRequest
      split <;> split <;> rfl
    obtain ⟨v, y, e, hv, hy, y1, y2, y3, y4⟩ := arrive_go (c := c) (q := q) (s := u) (x := x) hs (by rw [hh.boot]; exact hr) hxu ha
      (by rw [hh.sessionCache, hh.elapsed]; exact hc) (by rw [hh.waiting]; exact hw) h1 h2
    have he : entered c q s0 = { v with kmp := { v.kmp with hBefore := x.h } } := by
      unfold entered; dsimp only; rw [hu, e]
    have hvv := hh.trans hv
    refine ⟨?_, x, y, v, rfl, ?_, y2, e, he⟩
    · rw [he]
      exact hvv.trans ⟨rfl, rfl, rfl, rfl, rfl, rfl, rfl, rfl⟩
    · rw [he]; exact hy

/-- A request that reaches step 7 is executed at once. -/
theorem kmpExec_reaches {c : Cmd} {q : Req} {s0 : State} (body : State → Body) (h : reaches c q s0 = true) :
    kmpExec c q body s0 = execute c q body (entered c q s0) := by
  obtain ⟨hh, x, y, v, hx, hy, y2, e, he⟩ := entered_of_reaches h
  unfold reaches at h
  simp only [Bool.and_eq_true, Bool.not_eq_true', decide_eq_true_eq, List.isEmpty_iff] at h
  obtain ⟨⟨⟨⟨⟨⟨⟨hs, hw⟩, hd⟩, hf⟩, hk⟩, hr⟩, hm⟩, hp⟩ := h
  have hvw : v.kmp.waiting = [] := by
    have := hh.waiting; rw [he] at this; simpa [hw] using this
  have hvm : mustWait c q v = false := by
    have := hh.mustWait c q; rw [he] at this
    rw [hm] at this; exact this
  rw [he]
  unfold kmpExec
  simp only [isHead_empty hw, hd, hf, hk, e, hvw, hvm, Bool.not_true, Bool.not_false, Bool.false_eq_true, if_false, and_self, if_true]

theorem reaches_props {c q s0} (h : reaches c q s0 = true) :
    (advance q.t s0).boot.recovery = false ∧ spanFollows (advance q.t s0) = false := by
  unfold reaches at h
  simp only [Bool.and_eq_true, Bool.not_eq_true', decide_eq_true_eq, List.isEmpty_iff] at h
  obtain ⟨⟨⟨⟨⟨⟨⟨hs, hw⟩, hd⟩, hf⟩, hk⟩, hr⟩, hm⟩, hp⟩ := h
  exact ⟨hr, hf⟩

/-- What becomes of a request that is heard is what its arrival says. -/
theorem heard_kmpExec {c q s} (body) (h : heard c q s = true) :
    kmpExec c q body s = match arrive c.row.code q (takeRequest (if q.remote then advance q.t s else countRx q.transport (advance q.t s))) with
      | .done s1 => s1
      | .go h s1 =>
        if s1.kmp.waiting = [] ∧ !mustWait c q s1 then execute c q body { s1 with kmp := { s1.kmp with hBefore := h } }
        else enqueue c.row.code q h s1 := by
  unfold heard at h
  simp only [Bool.and_eq_true, Bool.not_eq_true', Option.isNone_iff_eq_none] at h
  obtain ⟨⟨⟨h1, h2⟩, h3⟩, h4⟩ := h
  unfold kmpExec
  simp only [h1, h2, h3, h4, Bool.not_true, Bool.false_eq_true, if_false]
  all_goals
    generalize arrive c.row.code q _ = a
    cases a <;> rfl

theorem take_handled (q : Req) (s : State) : Handled s (takeRequest (if q.remote then s else countRx q.transport s)) := by
  refine Handled.trans ?_ (takeRequest_handled _)
  split
  · exact Handled.refl _
  · exact countRx_handled _ _

theorem take_find (q : Req) (n : Nat) (s : State) : findSession n (takeRequest (if q.remote then s else countRx q.transport s)) = findSession n s := by
  unfold takeRequest; split <;> split <;> rfl

theorem counted_handled (c : Cmd) (q : Req) (s : State) : Handled (advance q.t s) (counted c q s) := by
  unfold counted; dsimp only
  generalize hu : takeRequest (if q.remote = true then advance q.t s else countRx q.transport (advance q.t s)) = u
  have h := take_handled q (advance q.t s)
  rw [hu] at h
  split
  · exact h.trans (countCompare_handled true u)
  · exact h

theorem counted_find (c : Cmd) (q : Req) (n : Nat) (s : State) : findSession n (counted c q s) = findSession n (advance q.t s) := by
  unfold counted; dsimp only; rw [← take_find q n (advance q.t s)]
  generalize takeRequest (if q.remote = true then advance q.t s else countRx q.transport (advance q.t s)) = u
  split <;> rfl


theorem ofCode_row (c : Cmd) : Cmd.ofCode c.row.code = some c := by cases c <;> decide
/-- Duplicate handling is what R174 and R175 say. -/
theorem duplicate_repeated (x : ReplyCtx) (e : CacheEntry) (c : Cmd) (q : Req) (u : State) :
    answerDuplicate x e c.row.code q u = repeated x e c q u := by
  unfold answerDuplicate repeated sameRequest codeReplayable
  rw [ofCode_row]
  by_cases h1 : e.code = c.row.code <;> by_cases h2 : e.request = q.payload <;> simp [h1, h2]

end Sys2Proof.Laws
end

