-- ==== Sys2Proof/Laws/PerInstr.lean ====
section
/-! SUPPORT. Laws/PerInstr.lean: statements made of every row, one lemma to a row. -/

namespace Sys2Proof.Laws.WellFormed

open Sys2Proof Sys2Proof.Machine Sys2Proof.Safety

/-- A well-formed row that is a KMP command has a request that fits its message (R152, R153), and the code of the command index names no
other command (R785). -/
def Statement (i : Instr) : Prop :=
  wellFormed i = true → ∀ c q, requestOf i = some (c, q) → reqWf q = true ∧ Cmd.ofCode c.row.code = some c

theorem of_request {i : Instr} {c : Cmd} {q : Req} (h : requestOf i = some (c, q)) (w : wellFormed i = true → reqWf q = true) :
    Statement i := by
  intro hw c' q' h'
  rw [h] at h'
  injection h' with e
  injection e with e1 e2
  subst e1 e2
  exact ⟨w hw, ofCode_row c⟩

theorem of_none {i : Instr} (h : requestOf i = none) : Statement i := by
  intro _ c q h'
  rw [h] at h'
  cases h'

theorem sessionOpen {q} : Statement (.sessionOpen q) := of_request rfl (fun h => h)
theorem sessionClose {q} : Statement (.sessionClose q) := of_request rfl (fun h => h)
theorem sessionStatus {q} : Statement (.sessionStatus q) := of_request rfl (fun h => h)
theorem identityGet {q} : Statement (.identityGet q) := of_request rfl (fun h => h)
theorem eventAck {q} : Statement (.eventAck q) := of_request rfl (fun h => h)
theorem eventFetch {q} : Statement (.eventFetch q) := of_request rfl (fun h => h)
theorem eventConfigSet {q} : Statement (.eventConfigSet q) := of_request rfl (fun h => h)
theorem transportConfigSet {q} : Statement (.transportConfigSet q) := of_request rfl (fun h => h)
theorem transportConfigGet {q} : Statement (.transportConfigGet q) := of_request rfl (fun h => h)
theorem timeGet {q} : Statement (.timeGet q) := of_request rfl (fun h => h)
theorem timeSet {q} : Statement (.timeSet q) := of_request rfl (fun h => h)
theorem timeSourceSet {q} : Statement (.timeSourceSet q) := of_request rfl (fun h => h)
theorem rtcAlarmSet {q} : Statement (.rtcAlarmSet q) := of_request rfl (fun h => h)
theorem timerClaim {q} : Statement (.timerClaim q) := of_request rfl (fun h => h)
theorem timerRelease {q} : Statement (.timerRelease q) := of_request rfl (fun h => h)
theorem timerStatusGet {q} : Statement (.timerStatusGet q) := of_request rfl (fun h => h)
theorem bootStatusGet {q} : Statement (.bootStatusGet q) := of_request rfl (fun h => h)
theorem bankErase {q verifies} : Statement (.bankErase q verifies) := of_request rfl (fun h => h)
theorem bankWrite {q verifies} : Statement (.bankWrite q verifies) := of_request rfl (fun h => h)
theorem bankSeal {q verifies} : Statement (.bankSeal q verifies) := of_request rfl (fun h => h)
theorem bankSelect {q verifies} : Statement (.bankSelect q verifies) := of_request rfl (fun h => h)
theorem bankConfirm {q verifies} : Statement (.bankConfirm q verifies) := of_request rfl (fun h => h)
theorem restart {q} : Statement (.restart q) := of_request rfl (fun h => h)
theorem stageOpen {q} : Statement (.stageOpen q) := of_request rfl (fun h => h)
theorem stageWrite {q} : Statement (.stageWrite q) := of_request rfl (fun h => h)
theorem stageVerify {q} : Statement (.stageVerify q) := of_request rfl (fun h => h)
theorem stageCommit {q} : Statement (.stageCommit q) := of_request rfl (fun h => h)
theorem commitCancel {q} : Statement (.commitCancel q) := of_request rfl (fun h => h)
theorem stageCancel {q} : Statement (.stageCancel q) := of_request rfl (fun h => h)
theorem baselineGet {q} : Statement (.baselineGet q) := of_request rfl (fun h => h)
theorem baselineSet {q verifies} : Statement (.baselineSet q verifies) := of_request rfl (fun h => h)
theorem recordErase {q verifies} : Statement (.recordErase q verifies) := of_request rfl (fun h => h)
theorem recordWrite {q verifies} : Statement (.recordWrite q verifies) := of_request rfl (fun h => h)
theorem siteLabelSet {q} : Statement (.siteLabelSet q) := of_request rfl (fun h => h)
theorem siteLabelGet {q} : Statement (.siteLabelGet q) := of_request rfl (fun h => h)
theorem modeGet {q} : Statement (.modeGet q) := of_request rfl (fun h => h)
theorem modeSet {q} : Statement (.modeSet q) := of_request rfl (fun h => h)
theorem modeConfigSet {q} : Statement (.modeConfigSet q) := of_request rfl (fun h => h)
theorem modeConfigGet {q} : Statement (.modeConfigGet q) := of_request rfl (fun h => h)
theorem wakeConfigSet {q} : Statement (.wakeConfigSet q) := of_request rfl (fun h => h)
theorem strikeConfigSet {q} : Statement (.strikeConfigSet q) := of_request rfl (fun h => h)
theorem strikeStatusGet {q} : Statement (.strikeStatusGet q) := of_request rfl (fun h => h)
theorem laneConfigSet {q} : Statement (.laneConfigSet q) := of_request rfl (fun h => h)
theorem laneConfigGet {q} : Statement (.laneConfigGet q) := of_request rfl (fun h => h)
theorem laneStatusGet {q} : Statement (.laneStatusGet q) := of_request rfl (fun h => h)
theorem laneSleepSet {q} : Statement (.laneSleepSet q) := of_request rfl (fun h => h)
theorem laneTestSet {q} : Statement (.laneTestSet q) := of_request rfl (fun h => h)
theorem lanePrbsGet {q errs struck} : Statement (.lanePrbsGet q errs struck) := of_request rfl (fun h => h)
theorem laneEyeStart {q} : Statement (.laneEyeStart q) := of_request rfl (fun h => h)
theorem laneEyeGet {q} : Statement (.laneEyeGet q) := of_request rfl (fun h => h)
theorem portForm {q} : Statement (.portForm q) := of_request rfl (fun h => h)
theorem portStatusGet {q} : Statement (.portStatusGet q) := of_request rfl (fun h => h)
theorem m0ConfigSet {q} : Statement (.m0ConfigSet q) := of_request rfl (fun h => h)
theorem m0ConfigGet {q} : Statement (.m0ConfigGet q) := of_request rfl (fun h => h)
theorem opticsMapSet {q} : Statement (.opticsMapSet q) := of_request rfl (fun h => h)
theorem opticsRead {q ans} : Statement (.opticsRead q ans) :=
  of_request rfl (fun h => by simp only [wellFormed, Bool.and_eq_true] at h; exact h.1)
theorem opticsWrite {q ans} : Statement (.opticsWrite q ans) :=
  of_request rfl (fun h => by simp only [wellFormed, Bool.and_eq_true] at h; exact h.1)
theorem cwLinkSet {q} : Statement (.cwLinkSet q) := of_request rfl (fun h => h)
theorem cwLinkStatusGet {q} : Statement (.cwLinkStatusGet q) := of_request rfl (fun h => h)
theorem cwCountersGet {q} : Statement (.cwCountersGet q) := of_request rfl (fun h => h)
theorem cwFlush {q} : Statement (.cwFlush q) := of_request rfl (fun h => h)
theorem fwdConfigSet {q} : Statement (.fwdConfigSet q) := of_request rfl (fun h => h)
theorem fwdConfigGet {q} : Statement (.fwdConfigGet q) := of_request rfl (fun h => h)
theorem vlanSet {q} : Statement (.vlanSet q) := of_request rfl (fun h => h)
theorem portLearnSet {q} : Statement (.portLearnSet q) := of_request rfl (fun h => h)
theorem bridgeEntrySet {q} : Statement (.bridgeEntrySet q) := of_request rfl (fun h => h)
theorem bridgeFlush {q} : Statement (.bridgeFlush q) := of_request rfl (fun h => h)
theorem tableLookup {q} : Statement (.tableLookup q) := of_request rfl (fun h => h)
theorem tableStatusGet {q} : Statement (.tableStatusGet q) := of_request rfl (fun h => h)
theorem parseConfigSet {q} : Statement (.parseConfigSet q) := of_request rfl (fun h => h)
theorem parseConfigGet {q} : Statement (.parseConfigGet q) := of_request rfl (fun h => h)
theorem portClassSet {q} : Statement (.portClassSet q) := of_request rfl (fun h => h)
theorem portClassGet {q} : Statement (.portClassGet q) := of_request rfl (fun h => h)
theorem searchBankSet {q} : Statement (.searchBankSet q) := of_request rfl (fun h => h)
theorem searchWrite {q} : Statement (.searchWrite q) := of_request rfl (fun h => h)
theorem searchInsert {q} : Statement (.searchInsert q) := of_request rfl (fun h => h)
theorem searchRead {q} : Statement (.searchRead q) := of_request rfl (fun h => h)
theorem meterSet {q} : Statement (.meterSet q) := of_request rfl (fun h => h)
theorem meterGet {q} : Statement (.meterGet q) := of_request rfl (fun h => h)
theorem puntConfigSet {q} : Statement (.puntConfigSet q) := of_request rfl (fun h => h)
theorem fragStatusGet {q} : Statement (.fragStatusGet q) := of_request rfl (fun h => h)
theorem deckQueueSet {q} : Statement (.deckQueueSet q) := of_request rfl (fun h => h)
theorem deckQueueGet {q} : Statement (.deckQueueGet q) := of_request rfl (fun h => h)
theorem deckStatusGet {q} : Statement (.deckStatusGet q) := of_request rfl (fun h => h)
theorem trussStatusGet {q} : Statement (.trussStatusGet q) := of_request rfl (fun h => h)
theorem egressConfigSet {q} : Statement (.egressConfigSet q) := of_request rfl (fun h => h)
theorem egressConfigGet {q} : Statement (.egressConfigGet q) := of_request rfl (fun h => h)
theorem schedSet {q} : Statement (.schedSet q) := of_request rfl (fun h => h)
theorem schedGet {q} : Statement (.schedGet q) := of_request rfl (fun h => h)
theorem gateListSet {q} : Statement (.gateListSet q) := of_request rfl (fun h => h)
theorem gateListGet {q} : Statement (.gateListGet q) := of_request rfl (fun h => h)
theorem queueStatusGet {q} : Statement (.queueStatusGet q) := of_request rfl (fun h => h)
theorem spanConfigSet {q} : Statement (.spanConfigSet q) := of_request rfl (fun h => h)
theorem spanConfigGet {q} : Statement (.spanConfigGet q) := of_request rfl (fun h => h)
theorem spanJoin {q} : Statement (.spanJoin q) := of_request rfl (fun h => h)
theorem spanLeave {q} : Statement (.spanLeave q) := of_request rfl (fun h => h)
theorem spanStatusGet {q} : Statement (.spanStatusGet q) := of_request rfl (fun h => h)
theorem spanTargetSet {q} : Statement (.spanTargetSet q) := of_request rfl (fun h => h)
theorem dramStatusGet {q} : Statement (.dramStatusGet q) := of_request rfl (fun h => h)
theorem dramTrainGet {q} : Statement (.dramTrainGet q) := of_request rfl (fun h => h)
theorem dramPolicySet {q} : Statement (.dramPolicySet q) := of_request rfl (fun h => h)
theorem dramPolicyGet {q} : Statement (.dramPolicyGet q) := of_request rfl (fun h => h)
theorem dramRetrain {q} : Statement (.dramRetrain q) := of_request rfl (fun h => h)
theorem dramErrorLogGet {q} : Statement (.dramErrorLogGet q) := of_request rfl (fun h => h)
theorem dramRead {q} : Statement (.dramRead q) := of_request rfl (fun h => h)
theorem keyStatusGet {q} : Statement (.keyStatusGet q) := of_request rfl (fun h => h)
theorem keyLoad {q broken} : Statement (.keyLoad q broken) := of_request rfl (fun h => h)
theorem keyClear {q} : Statement (.keyClear q) := of_request rfl (fun h => h)
theorem digestRun {q} : Statement (.digestRun q) := of_request rfl (fun h => h)
theorem fioConfigSet {q} : Statement (.fioConfigSet q) := of_request rfl (fun h => h)
theorem fioStatusGet {q} : Statement (.fioStatusGet q) := of_request rfl (fun h => h)
theorem fioOutputSet {q} : Statement (.fioOutputSet q) := of_request rfl (fun h => h)
theorem fioPulse {q} : Statement (.fioPulse q) := of_request rfl (fun h => h)
theorem fioClear {q} : Statement (.fioClear q) := of_request rfl (fun h => h)
theorem gpioConfigSet {q} : Statement (.gpioConfigSet q) := of_request rfl (fun h => h)
theorem gpioWrite {q} : Statement (.gpioWrite q) := of_request rfl (fun h => h)
theorem gpioRead {q ext} : Statement (.gpioRead q ext) := of_request rfl (fun h => h)
theorem adcConfigSet {q} : Statement (.adcConfigSet q) := of_request rfl (fun h => h)
theorem adcRead {q} : Statement (.adcRead q) := of_request rfl (fun h => h)
theorem adcCaptureSet {q} : Statement (.adcCaptureSet q) := of_request rfl (fun h => h)
theorem countersGet {q} : Statement (.countersGet q) := of_request rfl (fun h => h)
theorem eventCounterSet {q} : Statement (.eventCounterSet q) := of_request rfl (fun h => h)
theorem snapshotTake {q} : Statement (.snapshotTake q) := of_request rfl (fun h => h)
theorem snapshotRead {q} : Statement (.snapshotRead q) := of_request rfl (fun h => h)
theorem snapshotScheduleSet {q} : Statement (.snapshotScheduleSet q) := of_request rfl (fun h => h)
theorem bwConfigSet {q} : Statement (.bwConfigSet q) := of_request rfl (fun h => h)
theorem bwGet {q} : Statement (.bwGet q) := of_request rfl (fun h => h)
theorem monitorSet {q} : Statement (.monitorSet q) := of_request rfl (fun h => h)
theorem monitorGet {q} : Statement (.monitorGet q) := of_request rfl (fun h => h)
theorem logRead {q} : Statement (.logRead q) := of_request rfl (fun h => h)
theorem strikeTallyGet {q} : Statement (.strikeTallyGet q) := of_request rfl (fun h => h)
theorem coreStatusGet {q} : Statement (.coreStatusGet q) := of_request rfl (fun h => h)
theorem perfConfigSet {q} : Statement (.perfConfigSet q) := of_request rfl (fun h => h)
theorem perfRead {q counts} : Statement (.perfRead q counts) :=
  of_request rfl (fun h => by simp only [wellFormed, Bool.and_eq_true] at h; exact h.1)
theorem perfSampleGet {q} : Statement (.perfSampleGet q) := of_request rfl (fun h => h)
theorem debugAccessSet {q} : Statement (.debugAccessSet q) := of_request rfl (fun h => h)
theorem debugFreeze {q} : Statement (.debugFreeze q) := of_request rfl (fun h => h)
theorem captureSet {q} : Statement (.captureSet q) := of_request rfl (fun h => h)
theorem captureRead {q} : Statement (.captureRead q) := of_request rfl (fun h => h)
theorem hostWindowWrite {t path off w uneven data} : Statement (.hostWindowWrite t path off w uneven data) := of_none rfl
theorem unmappedRead {t path off w} : Statement (.unmappedRead t path off w) := of_none rfl
theorem unalignedRead {t path off w uneven} : Statement (.unalignedRead t path off w uneven) := of_none rfl
theorem malformedSpiTransaction {t cmd off cut} : Statement (.malformedSpiTransaction t cmd off cut) := of_none rfl
theorem supplyStatus {t path byte w peek} : Statement (.supplyStatus t path byte w peek) := of_none rfl
theorem accessErr {t path byte w peek} : Statement (.accessErr t path byte w peek) := of_none rfl
theorem timeLatch {t path byte w peek} : Statement (.timeLatch t path byte w peek) := of_none rfl
theorem takeSnapshot {t path byte w peek data} : Statement (.takeSnapshot t path byte w peek data) := of_none rfl
theorem armPps {t path byte w peek data} : Statement (.armPps t path byte w peek data) := of_none rfl
theorem intCause {t path byte w peek data} : Statement (.intCause t path byte w peek data) := of_none rfl
theorem intMask {t path byte w peek data} : Statement (.intMask t path byte w peek data) := of_none rfl
theorem fence {t path byte w peek} : Statement (.fence t path byte w peek) := of_none rfl
theorem quiesceReq {t path byte w peek data} : Statement (.quiesceReq t path byte w peek data) := of_none rfl
theorem ringEnable {t path byte w peek data} : Statement (.ringEnable t path byte w peek data) := of_none rfl
theorem ringReset {t path byte w peek data} : Statement (.ringReset t path byte w peek data) := of_none rfl
theorem reqTail {t path byte w peek data} : Statement (.reqTail t path byte w peek data) := of_none rfl
theorem rspHead {t path byte w peek data} : Statement (.rspHead t path byte w peek data) := of_none rfl
theorem requestEntryFetch {t entry} : Statement (.requestEntryFetch t entry) := of_none rfl
theorem responseEntryWrite {t} : Statement (.responseEntryWrite t) := of_none rfl
theorem ringDmaFault {t} : Statement (.ringDmaFault t) := of_none rfl
theorem perstN {t asserted} : Statement (.perstN t asserted) := of_none rfl
theorem pcieLinkDown {t} : Statement (.pcieLinkDown t) := of_none rfl
theorem pcieLinkUp {t width rate msi busMaster} : Statement (.pcieLinkUp t width rate msi busMaster) := of_none rfl
theorem uartFrame {t u raw} : Statement (.uartFrame t u raw) := of_none rfl
theorem rxGap {t u gapMs} : Statement (.rxGap t u gapMs) := of_none rfl
theorem m0Frame {t raw} : Statement (.m0Frame t raw) := of_none rfl
theorem eventSend {t session} : Statement (.eventSend t session) := of_none rfl
theorem eventRetry {t session} : Statement (.eventRetry t session) := of_none rfl
theorem cacheExpiry {t} : Statement (.cacheExpiry t) := of_none rfl
theorem sessionIdle {t session} : Statement (.sessionIdle t session) := of_none rfl
theorem evTransportReverted {t tr} : Statement (.evTransportReverted t tr) := of_none rfl
theorem commitArmed {t good} : Statement (.commitArmed t good) := of_none rfl
theorem epochReached {t tagsGood} : Statement (.epochReached t tagsGood) := of_none rfl
theorem abutmentStart {t mv bankA33 bankB33 prtad} : Statement (.abutmentStart t mv bankA33 bankB33 prtad) := of_none rfl
theorem abutmentReset {t mv} : Statement (.abutmentReset t mv) := of_none rfl
theorem retentionLost {t mv} : Statement (.retentionLost t mv) := of_none rfl
theorem vinReachesWatchOn {t vin} : Statement (.vinReachesWatchOn t vin) := of_none rfl
theorem wakePin {t level mv} : Statement (.wakePin t level mv) := of_none rfl
theorem fieldInputEdgeWake {t pin rising mv} : Statement (.fieldInputEdgeWake t pin rising mv) := of_none rfl
theorem vinRestore {t vin} : Statement (.vinRestore t vin) := of_none rfl
theorem rtcAlarm {t} : Statement (.rtcAlarm t) := of_none rfl
theorem vinBelowOff {t vin} : Statement (.vinBelowOff t vin) := of_none rfl
theorem rideThrough {t vin lowVhold} : Statement (.rideThrough t vin lowVhold) := of_none rfl
theorem sheddingStep {t vin vhold} : Statement (.sheddingStep t vin vhold) := of_none rfl
theorem holdFloorCrossing {t vhold} : Statement (.holdFloorCrossing t vhold) := of_none rfl
theorem transitionComplete {t} : Statement (.transitionComplete t) := of_none rfl
theorem climb {t vin vhold} : Statement (.climb t vin vhold) := of_none rfl
theorem climbAbandoned {t vin} : Statement (.climbAbandoned t vin) := of_none rfl
theorem surgeTrigger {t mv} : Statement (.surgeTrigger t mv) := of_none rfl
theorem slewTrigger {t mv} : Statement (.slewTrigger t mv) := of_none rfl
theorem evStrikeClose {t} : Statement (.evStrikeClose t) := of_none rfl
theorem inputSwitchOpen {t vin} : Statement (.inputSwitchOpen t vin) := of_none rfl
theorem overvoltageTimeout {t vin} : Statement (.overvoltageTimeout t vin) := of_none rfl
theorem inputSwitchClose {t vin} : Statement (.inputSwitchClose t vin) := of_none rfl
theorem thermalCut {t die} : Statement (.thermalCut t die) := of_none rfl
theorem thermalRelease {t die} : Statement (.thermalRelease t die) := of_none rfl
theorem vioFault {t n} : Statement (.vioFault t n) := of_none rfl
theorem vioRetry {t n holds} : Statement (.vioRetry t n holds) := of_none rfl
theorem referenceStartFail {t} : Statement (.referenceStartFail t) := of_none rfl
theorem referenceRetry {t} : Statement (.referenceRetry t) := of_none rfl
theorem evClockFail {t n} : Statement (.evClockFail t n) := of_none rfl
theorem rtcFail {t} : Statement (.rtcFail t) := of_none rfl
theorem ppsEdge {t} : Statement (.ppsEdge t) := of_none rfl
theorem ppsLoss {t} : Statement (.ppsLoss t) := of_none rfl
theorem syncMessage {t port domain intervalNs off} : Statement (.syncMessage t port domain intervalNs off) := of_none rfl
theorem ptpLoss {t} : Statement (.ptpLoss t) := of_none rfl
theorem holdoverExpiry {t} : Statement (.holdoverExpiry t) := of_none rfl
theorem rtcAlign {t} : Statement (.rtcAlign t) := of_none rfl
theorem timerFire {t g} : Statement (.timerFire t g) := of_none rfl
theorem bankVerdict {t agoNs kat} : Statement (.bankVerdict t agoNs kat) := of_none rfl
theorem flashNotAnswering {t agoNs} : Statement (.flashNotAnswering t agoNs) := of_none rfl
theorem configLoad {t good items} : Statement (.configLoad t good items) := of_none rfl
theorem controlPreload {t} : Statement (.controlPreload t) := of_none rfl
theorem autoConfirm {t} : Statement (.autoConfirm t) := of_none rfl
theorem watchdog {t control} : Statement (.watchdog t control) := of_none rfl
theorem dramTraining {t c sweep} : Statement (.dramTraining t c sweep) := of_none rfl
theorem sectionStreamed {t full good items} : Statement (.sectionStreamed t full good items) := of_none rfl
theorem searchLoaded {t} : Statement (.searchLoaded t) := of_none rfl
theorem evTableLoaded {t} : Statement (.evTableLoaded t) := of_none rfl
theorem cdrLock {t l peak} : Statement (.cdrLock t l peak) := of_none rfl
theorem cdrLoss {t l signal} : Statement (.cdrLoss t l signal) := of_none rfl
theorem acquisitionRetry {t l} : Statement (.acquisitionRetry t l) := of_none rfl
theorem warmWakeTimeout {t l} : Statement (.warmWakeTimeout t l) := of_none rfl
theorem dfeAdapt {t l up} : Statement (.dfeAdapt t l up) := of_none rfl
theorem dfeRail {t l tap} : Statement (.dfeRail t l tap) := of_none rfl
theorem prbsLock {t l inverted} : Statement (.prbsLock t l inverted) := of_none rfl
theorem prbsLockLoss {t l errs} : Statement (.prbsLockLoss t l errs) := of_none rfl
theorem evLaneEyeDone {t eyes} : Statement (.evLaneEyeDone t eyes) := of_none rfl
theorem cwComma {t l expected wrong stuffErrs} : Statement (.cwComma t l expected wrong stuffErrs) := of_none rfl
theorem commonModeTrigger {t l} : Statement (.commonModeTrigger t l) := of_none rfl
theorem burstTrigger {t l lossNs} : Statement (.burstTrigger t l lossNs) := of_none rfl
theorem quarantineExit {t l} : Statement (.quarantineExit t l) := of_none rfl
theorem evLaneFault {t l tx} : Statement (.evLaneFault t l tx) := of_none rfl
theorem linkUp {t p anDone fullDuplex} : Statement (.linkUp t p anDone fullDuplex) := of_none rfl
theorem linkDown {t p cause} : Statement (.linkDown t p cause) := of_none rfl
theorem rxFrame {t p raw damaged fecBad ageNs trie} : Statement (.rxFrame t p raw damaged fecBad ageNs trie) := of_none rfl
theorem opticsPoll {t p ans} : Statement (.opticsPoll t p ans) := of_none rfl
theorem opticsStep {t p res} : Statement (.opticsStep t p res) := of_none rfl
theorem i2cTimeout {t m} : Statement (.i2cTimeout t m) := of_none rfl
theorem transmissionStart {t p} : Statement (.transmissionStart t p) := of_none rfl
theorem cwInit {t l data} : Statement (.cwInit t l data) := of_none rfl
theorem cwInitSend {t l} : Statement (.cwInitSend t l) := of_none rfl
theorem replayFrame {t l raw cws hit trie} : Statement (.replayFrame t l raw cws hit trie) := of_none rfl
theorem cwAck {t l seq strike} : Statement (.cwAck t l seq strike) := of_none rfl
theorem cwNak {t l seq} : Statement (.cwNak t l seq) := of_none rfl
theorem replayMark {t l seq} : Statement (.replayMark t l seq) := of_none rfl
theorem cwCredit {t l data} : Statement (.cwCredit t l data) := of_none rfl
theorem ackTimer {t l} : Statement (.ackTimer t l) := of_none rfl
theorem nakRepeat {t l} : Statement (.nakRepeat t l) := of_none rfl
theorem creditTimer {t l} : Statement (.creditTimer t l) := of_none rfl
theorem replayTimer {t l} : Statement (.replayTimer t l) := of_none rfl
theorem peerStrikeTimeout {t l} : Statement (.peerStrikeTimeout t l) := of_none rfl
theorem fecLock {t l} : Statement (.fecLock t l) := of_none rfl
theorem lineLoss {t l} : Statement (.lineLoss t l) := of_none rfl
theorem graceEnd {t l} : Statement (.graceEnd t l) := of_none rfl
theorem meterRefill {t} : Statement (.meterRefill t) := of_none rfl
theorem puntRefill {t} : Statement (.puntRefill t) := of_none rfl
theorem followExpiry {t} : Statement (.followExpiry t) := of_none rfl
theorem reinjected {t trie} : Statement (.reinjected t trie) := of_none rfl
theorem holdExpired {t} : Statement (.holdExpired t) := of_none rfl
theorem searchScrub {t bank entry} : Statement (.searchScrub t bank entry) := of_none rfl
theorem evSearchError {t bank entry repaired} : Statement (.evSearchError t bank entry repaired) := of_none rfl
theorem learnWindowEnd {t} : Statement (.learnWindowEnd t) := of_none rfl
theorem learnResult {t} : Statement (.learnResult t) := of_none rfl
theorem agingSweep {t} : Statement (.agingSweep t) := of_none rfl
theorem tableScrub {t g index double} : Statement (.tableScrub t g index double) := of_none rfl
theorem tableRepair {t g index ok} : Statement (.tableRepair t g index ok) := of_none rfl
theorem cellLaunch {t k slot} : Statement (.cellLaunch t k slot) := of_none rfl
theorem planeTransfer {t m slot ecc} : Statement (.planeTransfer t m slot ecc) := of_none rfl
theorem cellArrival {t d} : Statement (.cellArrival t d) := of_none rfl
theorem reseqTimeout {t d k} : Statement (.reseqTimeout t d k) := of_none rfl
theorem shaperRefill {t} : Statement (.shaperRefill t) := of_none rfl
theorem evGateTakeover {t p} : Statement (.evGateTakeover t p) := of_none rfl
theorem samplePeriodEnd {t} : Statement (.samplePeriodEnd t) := of_none rfl
theorem probeTimeout {t} : Statement (.probeTimeout t) := of_none rfl
theorem aloneProbe {t} : Statement (.aloneProbe t) := of_none rfl
theorem linkTimeout {t} : Statement (.linkTimeout t) := of_none rfl
theorem electionRoundTimeout {t} : Statement (.electionRoundTimeout t) := of_none rfl
theorem spanClaim {t claim} : Statement (.spanClaim t claim) := of_none rfl
theorem spanDecide {t round serial} : Statement (.spanDecide t round serial) := of_none rfl
theorem syncComplete {t offsetNs items} : Statement (.syncComplete t offsetNs items) := of_none rfl
theorem heartbeat {t heard} : Statement (.heartbeat t heard) := of_none rfl
theorem evSpanSplit {t cause byLeave} : Statement (.evSpanSplit t cause byLeave) := of_none rfl
theorem mirrorUpdate {t kind payload} : Statement (.mirrorUpdate t kind payload) := of_none rfl
theorem relayedMessage {t r} : Statement (.relayedMessage t r) := of_none rfl
theorem remoteCell {t k d seq sop eop pkt} : Statement (.remoteCell t k d seq sop eop pkt) := of_none rfl
theorem spanReseqTimeout {t k d} : Statement (.spanReseqTimeout t k d) := of_none rfl
theorem refresh {t c busy} : Statement (.refresh t c busy) := of_none rfl
theorem tempRead {t temps} : Statement (.tempRead t temps) := of_none rfl
theorem retrainSlice {t c emptyNs sweep} : Statement (.retrainSlice t c emptyNs sweep) := of_none rfl
theorem retrainWaitExpiry {t c} : Statement (.retrainWaitExpiry t c) := of_none rfl
theorem retrainRepeat {t c} : Statement (.retrainRepeat t c) := of_none rfl
theorem dramScrub {t c line status beats} : Statement (.dramScrub t c line status beats) := of_none rfl
theorem caAlert {t c region again} : Statement (.caAlert t c region again) := of_none rfl
theorem routeRepair {t c clean} : Statement (.routeRepair t c clean) := of_none rfl
theorem copyRebuild {t c} : Statement (.copyRebuild t c) := of_none rfl
theorem fioInputChange {t pin mv} : Statement (.fioInputChange t pin mv) := of_none rfl
theorem debounce {t pin} : Statement (.debounce t pin) := of_none rfl
theorem wettingSample {t pin mv} : Statement (.wettingSample t pin mv) := of_none rfl
theorem currentLimit {t pin limited} : Statement (.currentLimit t pin limited) := of_none rfl
theorem overcurrentLatch {t pin} : Statement (.overcurrentLatch t pin) := of_none rfl
theorem outputRetry {t pin} : Statement (.outputRetry t pin) := of_none rfl
theorem readbackConflict {t pin} : Statement (.readbackConflict t pin) := of_none rfl
theorem conflictClear {t pin} : Statement (.conflictClear t pin) := of_none rfl
theorem pulseStart {t pin} : Statement (.pulseStart t pin) := of_none rfl
theorem pulseEnd {t pin} : Statement (.pulseEnd t pin) := of_none rfl
theorem vinConversion {t lowCode highCode} : Statement (.vinConversion t lowCode highCode) := of_none rfl
theorem adcConversion {t c openTest code value} : Statement (.adcConversion t c openTest code value) := of_none rfl
theorem adcCapture {t} : Statement (.adcCapture t) := of_none rfl
theorem snapshotScheduleFire {t} : Statement (.snapshotScheduleFire t) := of_none rfl
theorem bwWindowEnd {t} : Statement (.bwWindowEnd t) := of_none rfl
theorem monitorWindowEnd {t n} : Statement (.monitorWindowEnd t n) := of_none rfl
theorem perfOverflow {t watch counter task pc} : Statement (.perfOverflow t watch counter task pc) := of_none rfl
theorem extest {t} : Statement (.extest t) := of_none rfl
theorem idcode {t} : Statement (.idcode t) := of_none rfl
theorem samplePreload {t lands data} : Statement (.samplePreload t lands data) := of_none rfl
theorem clamp {t} : Statement (.clamp t) := of_none rfl
theorem highz {t} : Statement (.highz t) := of_none rfl
theorem bypass {t opcode} : Statement (.bypass t opcode) := of_none rfl
theorem dbg {t} : Statement (.dbg t) := of_none rfl
theorem debugRead {t space addr} : Statement (.debugRead t space addr) := of_none rfl
theorem debugWrite {t space addr data} : Statement (.debugWrite t space addr data) := of_none rfl
theorem dbgHalt {t watch seq leftNs} : Statement (.dbgHalt t watch seq leftNs) := of_none rfl
theorem dbgResume {t watch} : Statement (.dbgResume t watch) := of_none rfl
theorem dbgStep {t watch} : Statement (.dbgStep t watch) := of_none rfl
theorem debugReset {t} : Statement (.debugReset t) := of_none rfl
theorem debugFreezeWrite {t} : Statement (.debugFreezeWrite t) := of_none rfl
theorem clearLockBroken {t} : Statement (.clearLockBroken t) := of_none rfl
theorem forcedHalt {t watch} : Statement (.forcedHalt t watch) := of_none rfl
theorem debugAccessExpiry {t} : Statement (.debugAccessExpiry t) := of_none rfl
theorem clocksLocked {t copyOk} : Statement (.clocksLocked t copyOk) := of_none rfl
theorem tablesInstalled {t} : Statement (.tablesInstalled t) := of_none rfl
theorem transmissionEnd {t p} : Statement (.transmissionEnd t p) := of_none rfl
theorem lanePllLock {t l tx} : Statement (.lanePllLock t l tx) := of_none rfl
theorem tenMhzPresent {t present} : Statement (.tenMhzPresent t present) := of_none rfl
theorem alertNHigh {t c} : Statement (.alertNHigh t c) := of_none rfl
theorem ppsOut {t} : Statement (.ppsOut t) := of_none rfl
theorem uart0Cts {t asserted} : Statement (.uart0Cts t asserted) := of_none rfl
theorem aloneProbeEnd {t} : Statement (.aloneProbeEnd t) := of_none rfl
theorem frameSlot {t l} : Statement (.frameSlot t l) := of_none rfl
theorem spanTimingExchange {t offsetNs quality} : Statement (.spanTimingExchange t offsetNs quality) := of_none rfl

end Sys2Proof.Laws.WellFormed
end

