-- ==== Sys2Proof/Laws/State.lean ====
section
/-! SUPPORT. Laws/State.lean: what each field of the state is after each of the named updates, and what the shared operations can
change. -/

namespace Sys2Proof.Laws
open Sys2Proof Sys2Proof.Machine

/-! ### emit -/

section
variable (o : Output) (s : State)

@[simp] theorem emit_pending : (emit o s).pending = s.pending := rfl
@[simp] theorem emit_elapsed : (emit o s).elapsed = s.elapsed := rfl
@[simp] theorem emit_ident : (emit o s).ident = s.ident := rfl
@[simp] theorem emit_sup : (emit o s).sup = s.sup := rfl
@[simp] theorem emit_sw : (emit o s).sw = s.sw := rfl
@[simp] theorem emit_wake : (emit o s).wake = s.wake := rfl
@[simp] theorem emit_strike : (emit o s).strike = s.strike := rfl
@[simp] theorem emit_vio : (emit o s).vio = s.vio := rfl
@[simp] theorem emit_clk : (emit o s).clk = s.clk := rfl
@[simp] theorem emit_rtc : (emit o s).rtc = s.rtc := rfl
@[simp] theorem emit_tb : (emit o s).tb = s.tb := rfl
@[simp] theorem emit_disc : (emit o s).disc = s.disc := rfl
@[simp] theorem emit_timers : (emit o s).timers = s.timers := rfl
@[simp] theorem emit_boot : (emit o s).boot = s.boot := rfl
@[simp] theorem emit_flash : (emit o s).flash = s.flash := rfl
@[simp] theorem emit_kmp : (emit o s).kmp = s.kmp := rfl
@[simp] theorem emit_host : (emit o s).host = s.host := rfl
@[simp] theorem emit_dig : (emit o s).dig = s.dig := rfl
@[simp] theorem emit_cnt : (emit o s).cnt = s.cnt := rfl
@[simp] theorem emit_dram : (emit o s).dram = s.dram := rfl
@[simp] theorem emit_lanes : (emit o s).lanes = s.lanes := rfl
@[simp] theorem emit_ports : (emit o s).ports = s.ports := rfl
@[simp] theorem emit_cls : (emit o s).cls = s.cls := rfl
@[simp] theorem emit_fwd : (emit o s).fwd = s.fwd := rfl
@[simp] theorem emit_dp : (emit o s).dp = s.dp := rfl
@[simp] theorem emit_cw : (emit o s).cw = s.cw := rfl
@[simp] theorem emit_span : (emit o s).span = s.span := rfl
@[simp] theorem emit_cap : (emit o s).cap = s.cap := rfl
@[simp] theorem emit_dbg : (emit o s).dbg = s.dbg := rfl
@[simp] theorem emit_io : (emit o s).io = s.io := rfl
@[simp] theorem emit_out : (emit o s).out = s.out ++ [o] := rfl
@[simp] theorem emit_freeCtr : (emit o s).freeCtr = s.freeCtr := rfl

end

/-! ### bumpFree -/

section
variable (s : State)

@[simp] theorem bumpFree_pending : (bumpFree s).pending = s.pending := rfl
@[simp] theorem bumpFree_elapsed : (bumpFree s).elapsed = s.elapsed := rfl
@[simp] theorem bumpFree_ident : (bumpFree s).ident = s.ident := rfl
@[simp] theorem bumpFree_sup : (bumpFree s).sup = s.sup := rfl
@[simp] theorem bumpFree_sw : (bumpFree s).sw = s.sw := rfl
@[simp] theorem bumpFree_wake : (bumpFree s).wake = s.wake := rfl
@[simp] theorem bumpFree_strike : (bumpFree s).strike = s.strike := rfl
@[simp] theorem bumpFree_vio : (bumpFree s).vio = s.vio := rfl
@[simp] theorem bumpFree_clk : (bumpFree s).clk = s.clk := rfl
@[simp] theorem bumpFree_rtc : (bumpFree s).rtc = s.rtc := rfl
@[simp] theorem bumpFree_tb : (bumpFree s).tb = s.tb := rfl
@[simp] theorem bumpFree_disc : (bumpFree s).disc = s.disc := rfl
@[simp] theorem bumpFree_timers : (bumpFree s).timers = s.timers := rfl
@[simp] theorem bumpFree_boot : (bumpFree s).boot = s.boot := rfl
@[simp] theorem bumpFree_flash : (bumpFree s).flash = s.flash := rfl
@[simp] theorem bumpFree_kmp : (bumpFree s).kmp = s.kmp := rfl
@[simp] theorem bumpFree_host : (bumpFree s).host = s.host := rfl
@[simp] theorem bumpFree_dig : (bumpFree s).dig = s.dig := rfl
@[simp] theorem bumpFree_cnt : (bumpFree s).cnt = s.cnt := rfl
@[simp] theorem bumpFree_dram : (bumpFree s).dram = s.dram := rfl
@[simp] theorem bumpFree_lanes : (bumpFree s).lanes = s.lanes := rfl
@[simp] theorem bumpFree_ports : (bumpFree s).ports = s.ports := rfl
@[simp] theorem bumpFree_cls : (bumpFree s).cls = s.cls := rfl
@[simp] theorem bumpFree_fwd : (bumpFree s).fwd = s.fwd := rfl
@[simp] theorem bumpFree_dp : (bumpFree s).dp = s.dp := rfl
@[simp] theorem bumpFree_cw : (bumpFree s).cw = s.cw := rfl
@[simp] theorem bumpFree_span : (bumpFree s).span = s.span := rfl
@[simp] theorem bumpFree_cap : (bumpFree s).cap = s.cap := rfl
@[simp] theorem bumpFree_dbg : (bumpFree s).dbg = s.dbg := rfl
@[simp] theorem bumpFree_io : (bumpFree s).io = s.io := rfl
@[simp] theorem bumpFree_out : (bumpFree s).out = s.out := rfl
@[simp] theorem bumpFree_freeCtr : (bumpFree s).freeCtr = s.freeCtr + 1 := rfl

end

/-! ### setTimer -/

section
variable (n : Nat) (x : GTimer) (s : State)

@[simp] theorem setTimer_pending : (setTimer n x s).pending = s.pending := rfl
@[simp] theorem setTimer_elapsed : (setTimer n x s).elapsed = s.elapsed := rfl
@[simp] theorem setTimer_ident : (setTimer n x s).ident = s.ident := rfl
@[simp] theorem setTimer_sup : (setTimer n x s).sup = s.sup := rfl
@[simp] theorem setTimer_sw : (setTimer n x s).sw = s.sw := rfl
@[simp] theorem setTimer_wake : (setTimer n x s).wake = s.wake := rfl
@[simp] theorem setTimer_strike : (setTimer n x s).strike = s.strike := rfl
@[simp] theorem setTimer_vio : (setTimer n x s).vio = s.vio := rfl
@[simp] theorem setTimer_clk : (setTimer n x s).clk = s.clk := rfl
@[simp] theorem setTimer_rtc : (setTimer n x s).rtc = s.rtc := rfl
@[simp] theorem setTimer_tb : (setTimer n x s).tb = s.tb := rfl
@[simp] theorem setTimer_disc : (setTimer n x s).disc = s.disc := rfl
@[simp] theorem setTimer_timers : (setTimer n x s).timers = Tbl.set {} s.timers n x := rfl
@[simp] theorem setTimer_boot : (setTimer n x s).boot = s.boot := rfl
@[simp] theorem setTimer_flash : (setTimer n x s).flash = s.flash := rfl
@[simp] theorem setTimer_kmp : (setTimer n x s).kmp = s.kmp := rfl
@[simp] theorem setTimer_host : (setTimer n x s).host = s.host := rfl
@[simp] theorem setTimer_dig : (setTimer n x s).dig = s.dig := rfl
@[simp] theorem setTimer_cnt : (setTimer n x s).cnt = s.cnt := rfl
@[simp] theorem setTimer_dram : (setTimer n x s).dram = s.dram := rfl
@[simp] theorem setTimer_lanes : (setTimer n x s).lanes = s.lanes := rfl
@[simp] theorem setTimer_ports : (setTimer n x s).ports = s.ports := rfl
@[simp] theorem setTimer_cls : (setTimer n x s).cls = s.cls := rfl
@[simp] theorem setTimer_fwd : (setTimer n x s).fwd = s.fwd := rfl
@[simp] theorem setTimer_dp : (setTimer n x s).dp = s.dp := rfl
@[simp] theorem setTimer_cw : (setTimer n x s).cw = s.cw := rfl
@[simp] theorem setTimer_span : (setTimer n x s).span = s.span := rfl
@[simp] theorem setTimer_cap : (setTimer n x s).cap = s.cap := rfl
@[simp] theorem setTimer_dbg : (setTimer n x s).dbg = s.dbg := rfl
@[simp] theorem setTimer_io : (setTimer n x s).io = s.io := rfl
@[simp] theorem setTimer_out : (setTimer n x s).out = s.out := rfl
@[simp] theorem setTimer_freeCtr : (setTimer n x s).freeCtr = s.freeCtr := rfl

end

/-! ### updHost -/

section
variable (f : HostWin → HostWin) (s : State)

@[simp] theorem updHost_pending : (updHost f s).pending = s.pending := rfl
@[simp] theorem updHost_elapsed : (updHost f s).elapsed = s.elapsed := rfl
@[simp] theorem updHost_ident : (updHost f s).ident = s.ident := rfl
@[simp] theorem updHost_sup : (updHost f s).sup = s.sup := rfl
@[simp] theorem updHost_sw : (updHost f s).sw = s.sw := rfl
@[simp] theorem updHost_wake : (updHost f s).wake = s.wake := rfl
@[simp] theorem updHost_strike : (updHost f s).strike = s.strike := rfl
@[simp] theorem updHost_vio : (updHost f s).vio = s.vio := rfl
@[simp] theorem updHost_clk : (updHost f s).clk = s.clk := rfl
@[simp] theorem updHost_rtc : (updHost f s).rtc = s.rtc := rfl
@[simp] theorem updHost_tb : (updHost f s).tb = s.tb := rfl
@[simp] theorem updHost_disc : (updHost f s).disc = s.disc := rfl
@[simp] theorem updHost_timers : (updHost f s).timers = s.timers := rfl
@[simp] theorem updHost_boot : (updHost f s).boot = s.boot := rfl
@[simp] theorem updHost_flash : (updHost f s).flash = s.flash := rfl
@[simp] theorem updHost_kmp : (updHost f s).kmp = s.kmp := rfl
@[simp] theorem updHost_host : (updHost f s).host = f s.host := rfl
@[simp] theorem updHost_dig : (updHost f s).dig = s.dig := rfl
@[simp] theorem updHost_cnt : (updHost f s).cnt = s.cnt := rfl
@[simp] theorem updHost_dram : (updHost f s).dram = s.dram := rfl
@[simp] theorem updHost_lanes : (updHost f s).lanes = s.lanes := rfl
@[simp] theorem updHost_ports : (updHost f s).ports = s.ports := rfl
@[simp] theorem updHost_cls : (updHost f s).cls = s.cls := rfl
@[simp] theorem updHost_fwd : (updHost f s).fwd = s.fwd := rfl
@[simp] theorem updHost_dp : (updHost f s).dp = s.dp := rfl
@[simp] theorem updHost_cw : (updHost f s).cw = s.cw := rfl
@[simp] theorem updHost_span : (updHost f s).span = s.span := rfl
@[simp] theorem updHost_cap : (updHost f s).cap = s.cap := rfl
@[simp] theorem updHost_dbg : (updHost f s).dbg = s.dbg := rfl
@[simp] theorem updHost_io : (updHost f s).io = s.io := rfl
@[simp] theorem updHost_out : (updHost f s).out = s.out := rfl
@[simp] theorem updHost_freeCtr : (updHost f s).freeCtr = s.freeCtr := rfl

end

/-! ### updSession -/

section
variable (n : Nat) (f : Session → Session) (s : State)

@[simp] theorem updSession_pending : (updSession n f s).pending = s.pending := rfl
@[simp] theorem updSession_elapsed : (updSession n f s).elapsed = s.elapsed := rfl
@[simp] theorem updSession_ident : (updSession n f s).ident = s.ident := rfl
@[simp] theorem updSession_sup : (updSession n f s).sup = s.sup := rfl
@[simp] theorem updSession_sw : (updSession n f s).sw = s.sw := rfl
@[simp] theorem updSession_wake : (updSession n f s).wake = s.wake := rfl
@[simp] theorem updSession_strike : (updSession n f s).strike = s.strike := rfl
@[simp] theorem updSession_vio : (updSession n f s).vio = s.vio := rfl
@[simp] theorem updSession_clk : (updSession n f s).clk = s.clk := rfl
@[simp] theorem updSession_rtc : (updSession n f s).rtc = s.rtc := rfl
@[simp] theorem updSession_tb : (updSession n f s).tb = s.tb := rfl
@[simp] theorem updSession_disc : (updSession n f s).disc = s.disc := rfl
@[simp] theorem updSession_timers : (updSession n f s).timers = s.timers := rfl
@[simp] theorem updSession_boot : (updSession n f s).boot = s.boot := rfl
@[simp] theorem updSession_flash : (updSession n f s).flash = s.flash := rfl
@[simp] theorem updSession_kmp : (updSession n f s).kmp =
    { s.kmp with sessions := s.kmp.sessions.map fun x => if x.number = n then f x else x } := rfl
@[simp] theorem updSession_host : (updSession n f s).host = s.host := rfl
@[simp] theorem updSession_dig : (updSession n f s).dig = s.dig := rfl
@[simp] theorem updSession_cnt : (updSession n f s).cnt = s.cnt := rfl
@[simp] theorem updSession_dram : (updSession n f s).dram = s.dram := rfl
@[simp] theorem updSession_lanes : (updSession n f s).lanes = s.lanes := rfl
@[simp] theorem updSession_ports : (updSession n f s).ports = s.ports := rfl
@[simp] theorem updSession_cls : (updSession n f s).cls = s.cls := rfl
@[simp] theorem updSession_fwd : (updSession n f s).fwd = s.fwd := rfl
@[simp] theorem updSession_dp : (updSession n f s).dp = s.dp := rfl
@[simp] theorem updSession_cw : (updSession n f s).cw = s.cw := rfl
@[simp] theorem updSession_span : (updSession n f s).span = s.span := rfl
@[simp] theorem updSession_cap : (updSession n f s).cap = s.cap := rfl
@[simp] theorem updSession_dbg : (updSession n f s).dbg = s.dbg := rfl
@[simp] theorem updSession_io : (updSession n f s).io = s.io := rfl
@[simp] theorem updSession_out : (updSession n f s).out = s.out := rfl
@[simp] theorem updSession_freeCtr : (updSession n f s).freeCtr = s.freeCtr := rfl

end

/-! ### updRates -/

section
variable (tr : Transport) (f : TransportRates → TransportRates) (s : State)

@[simp] theorem updRates_pending : (updRates tr f s).pending = s.pending := rfl
@[simp] theorem updRates_elapsed : (updRates tr f s).elapsed = s.elapsed := rfl
@[simp] theorem updRates_ident : (updRates tr f s).ident = s.ident := rfl
@[simp] theorem updRates_sup : (updRates tr f s).sup = s.sup := rfl
@[simp] theorem updRates_sw : (updRates tr f s).sw = s.sw := rfl
@[simp] theorem updRates_wake : (updRates tr f s).wake = s.wake := rfl
@[simp] theorem updRates_strike : (updRates tr f s).strike = s.strike := rfl
@[simp] theorem updRates_vio : (updRates tr f s).vio = s.vio := rfl
@[simp] theorem updRates_clk : (updRates tr f s).clk = s.clk := rfl
@[simp] theorem updRates_rtc : (updRates tr f s).rtc = s.rtc := rfl
@[simp] theorem updRates_tb : (updRates tr f s).tb = s.tb := rfl
@[simp] theorem updRates_disc : (updRates tr f s).disc = s.disc := rfl
@[simp] theorem updRates_timers : (updRates tr f s).timers = s.timers := rfl
@[simp] theorem updRates_boot : (updRates tr f s).boot = s.boot := rfl
@[simp] theorem updRates_flash : (updRates tr f s).flash = s.flash := rfl
@[simp] theorem updRates_kmp : (updRates tr f s).kmp = { s.kmp with rates := Tbl.upd {} s.kmp.rates (transportNum tr) f } := rfl
@[simp] theorem updRates_host : (updRates tr f s).host = s.host := rfl
@[simp] theorem updRates_dig : (updRates tr f s).dig = s.dig := rfl
@[simp] theorem updRates_cnt : (updRates tr f s).cnt = s.cnt := rfl
@[simp] theorem updRates_dram : (updRates tr f s).dram = s.dram := rfl
@[simp] theorem updRates_lanes : (updRates tr f s).lanes = s.lanes := rfl
@[simp] theorem updRates_ports : (updRates tr f s).ports = s.ports := rfl
@[simp] theorem updRates_cls : (updRates tr f s).cls = s.cls := rfl
@[simp] theorem updRates_fwd : (updRates tr f s).fwd = s.fwd := rfl
@[simp] theorem updRates_dp : (updRates tr f s).dp = s.dp := rfl
@[simp] theorem updRates_cw : (updRates tr f s).cw = s.cw := rfl
@[simp] theorem updRates_span : (updRates tr f s).span = s.span := rfl
@[simp] theorem updRates_cap : (updRates tr f s).cap = s.cap := rfl
@[simp] theorem updRates_dbg : (updRates tr f s).dbg = s.dbg := rfl
@[simp] theorem updRates_io : (updRates tr f s).io = s.io := rfl
@[simp] theorem updRates_out : (updRates tr f s).out = s.out := rfl
@[simp] theorem updRates_freeCtr : (updRates tr f s).freeCtr = s.freeCtr := rfl

end

/-! ### updTransportCtrs -/

section
variable (n : Nat) (f : TransportCtrs → TransportCtrs) (s : State)

@[simp] theorem updTransportCtrs_pending : (updTransportCtrs n f s).pending = s.pending := rfl
@[simp] theorem updTransportCtrs_elapsed : (updTransportCtrs n f s).elapsed = s.elapsed := rfl
@[simp] theorem updTransportCtrs_ident : (updTransportCtrs n f s).ident = s.ident := rfl
@[simp] theorem updTransportCtrs_sup : (updTransportCtrs n f s).sup = s.sup := rfl
@[simp] theorem updTransportCtrs_sw : (updTransportCtrs n f s).sw = s.sw := rfl
@[simp] theorem updTransportCtrs_wake : (updTransportCtrs n f s).wake = s.wake := rfl
@[simp] theorem updTransportCtrs_strike : (updTransportCtrs n f s).strike = s.strike := rfl
@[simp] theorem updTransportCtrs_vio : (updTransportCtrs n f s).vio = s.vio := rfl
@[simp] theorem updTransportCtrs_clk : (updTransportCtrs n f s).clk = s.clk := rfl
@[simp] theorem updTransportCtrs_rtc : (updTransportCtrs n f s).rtc = s.rtc := rfl
@[simp] theorem updTransportCtrs_tb : (updTransportCtrs n f s).tb = s.tb := rfl
@[simp] theorem updTransportCtrs_disc : (updTransportCtrs n f s).disc = s.disc := rfl
@[simp] theorem updTransportCtrs_timers : (updTransportCtrs n f s).timers = s.timers := rfl
@[simp] theorem updTransportCtrs_boot : (updTransportCtrs n f s).boot = s.boot := rfl
@[simp] theorem updTransportCtrs_flash : (updTransportCtrs n f s).flash = s.flash := rfl
@[simp] theorem updTransportCtrs_kmp : (updTransportCtrs n f s).kmp = s.kmp := rfl
@[simp] theorem updTransportCtrs_host : (updTransportCtrs n f s).host = s.host := rfl
@[simp] theorem updTransportCtrs_dig : (updTransportCtrs n f s).dig = s.dig := rfl
@[simp] theorem updTransportCtrs_cnt : (updTransportCtrs n f s).cnt = { s.cnt with transports := Tbl.upd {} s.cnt.transports n f } := rfl
@[simp] theorem updTransportCtrs_dram : (updTransportCtrs n f s).dram = s.dram := rfl
@[simp] theorem updTransportCtrs_lanes : (updTransportCtrs n f s).lanes = s.lanes := rfl
@[simp] theorem updTransportCtrs_ports : (updTransportCtrs n f s).ports = s.ports := rfl
@[simp] theorem updTransportCtrs_cls : (updTransportCtrs n f s).cls = s.cls := rfl
@[simp] theorem updTransportCtrs_fwd : (updTransportCtrs n f s).fwd = s.fwd := rfl
@[simp] theorem updTransportCtrs_dp : (updTransportCtrs n f s).dp = s.dp := rfl
@[simp] theorem updTransportCtrs_cw : (updTransportCtrs n f s).cw = s.cw := rfl
@[simp] theorem updTransportCtrs_span : (updTransportCtrs n f s).span = s.span := rfl
@[simp] theorem updTransportCtrs_cap : (updTransportCtrs n f s).cap = s.cap := rfl
@[simp] theorem updTransportCtrs_dbg : (updTransportCtrs n f s).dbg = s.dbg := rfl
@[simp] theorem updTransportCtrs_io : (updTransportCtrs n f s).io = s.io := rfl
@[simp] theorem updTransportCtrs_out : (updTransportCtrs n f s).out = s.out := rfl
@[simp] theorem updTransportCtrs_freeCtr : (updTransportCtrs n f s).freeCtr = s.freeCtr := rfl

end

/-! ### updPortCtrs -/

section
variable (p : Nat) (f : PortCtrs → PortCtrs) (s : State)

@[simp] theorem updPortCtrs_pending : (updPortCtrs p f s).pending = s.pending := rfl
@[simp] theorem updPortCtrs_elapsed : (updPortCtrs p f s).elapsed = s.elapsed := rfl
@[simp] theorem updPortCtrs_ident : (updPortCtrs p f s).ident = s.ident := rfl
@[simp] theorem updPortCtrs_sup : (updPortCtrs p f s).sup = s.sup := rfl
@[simp] theorem updPortCtrs_sw : (updPortCtrs p f s).sw = s.sw := rfl
@[simp] theorem updPortCtrs_wake : (updPortCtrs p f s).wake = s.wake := rfl
@[simp] theorem updPortCtrs_strike : (updPortCtrs p f s).strike = s.strike := rfl
@[simp] theorem updPortCtrs_vio : (updPortCtrs p f s).vio = s.vio := rfl
@[simp] theorem updPortCtrs_clk : (updPortCtrs p f s).clk = s.clk := rfl
@[simp] theorem updPortCtrs_rtc : (updPortCtrs p f s).rtc = s.rtc := rfl
@[simp] theorem updPortCtrs_tb : (updPortCtrs p f s).tb = s.tb := rfl
@[simp] theorem updPortCtrs_disc : (updPortCtrs p f s).disc = s.disc := rfl
@[simp] theorem updPortCtrs_timers : (updPortCtrs p f s).timers = s.timers := rfl
@[simp] theorem updPortCtrs_boot : (updPortCtrs p f s).boot = s.boot := rfl
@[simp] theorem updPortCtrs_flash : (updPortCtrs p f s).flash = s.flash := rfl
@[simp] theorem updPortCtrs_kmp : (updPortCtrs p f s).kmp = s.kmp := rfl
@[simp] theorem updPortCtrs_host : (updPortCtrs p f s).host = s.host := rfl
@[simp] theorem updPortCtrs_dig : (updPortCtrs p f s).dig = s.dig := rfl
@[simp] theorem updPortCtrs_cnt : (updPortCtrs p f s).cnt = { s.cnt with ports := Tbl.upd {} s.cnt.ports p f } := rfl
@[simp] theorem updPortCtrs_dram : (updPortCtrs p f s).dram = s.dram := rfl
@[simp] theorem updPortCtrs_lanes : (updPortCtrs p f s).lanes = s.lanes := rfl
@[simp] theorem updPortCtrs_ports : (updPortCtrs p f s).ports = s.ports := rfl
@[simp] theorem updPortCtrs_cls : (updPortCtrs p f s).cls = s.cls := rfl
@[simp] theorem updPortCtrs_fwd : (updPortCtrs p f s).fwd = s.fwd := rfl
@[simp] theorem updPortCtrs_dp : (updPortCtrs p f s).dp = s.dp := rfl
@[simp] theorem updPortCtrs_cw : (updPortCtrs p f s).cw = s.cw := rfl
@[simp] theorem updPortCtrs_span : (updPortCtrs p f s).span = s.span := rfl
@[simp] theorem updPortCtrs_cap : (updPortCtrs p f s).cap = s.cap := rfl
@[simp] theorem updPortCtrs_dbg : (updPortCtrs p f s).dbg = s.dbg := rfl
@[simp] theorem updPortCtrs_io : (updPortCtrs p f s).io = s.io := rfl
@[simp] theorem updPortCtrs_out : (updPortCtrs p f s).out = s.out := rfl
@[simp] theorem updPortCtrs_freeCtr : (updPortCtrs p f s).freeCtr = s.freeCtr := rfl

end

/-! ### countSpan -/

section
variable (i n : Nat) (s : State)

@[simp] theorem countSpan_pending : (countSpan i n s).pending = s.pending := rfl
@[simp] theorem countSpan_elapsed : (countSpan i n s).elapsed = s.elapsed := rfl
@[simp] theorem countSpan_ident : (countSpan i n s).ident = s.ident := rfl
@[simp] theorem countSpan_sup : (countSpan i n s).sup = s.sup := rfl
@[simp] theorem countSpan_sw : (countSpan i n s).sw = s.sw := rfl
@[simp] theorem countSpan_wake : (countSpan i n s).wake = s.wake := rfl
@[simp] theorem countSpan_strike : (countSpan i n s).strike = s.strike := rfl
@[simp] theorem countSpan_vio : (countSpan i n s).vio = s.vio := rfl
@[simp] theorem countSpan_clk : (countSpan i n s).clk = s.clk := rfl
@[simp] theorem countSpan_rtc : (countSpan i n s).rtc = s.rtc := rfl
@[simp] theorem countSpan_tb : (countSpan i n s).tb = s.tb := rfl
@[simp] theorem countSpan_disc : (countSpan i n s).disc = s.disc := rfl
@[simp] theorem countSpan_timers : (countSpan i n s).timers = s.timers := rfl
@[simp] theorem countSpan_boot : (countSpan i n s).boot = s.boot := rfl
@[simp] theorem countSpan_flash : (countSpan i n s).flash = s.flash := rfl
@[simp] theorem countSpan_kmp : (countSpan i n s).kmp = s.kmp := rfl
@[simp] theorem countSpan_host : (countSpan i n s).host = s.host := rfl
@[simp] theorem countSpan_dig : (countSpan i n s).dig = s.dig := rfl
@[simp] theorem countSpan_cnt : (countSpan i n s).cnt = s.cnt := rfl
@[simp] theorem countSpan_dram : (countSpan i n s).dram = s.dram := rfl
@[simp] theorem countSpan_lanes : (countSpan i n s).lanes = s.lanes := rfl
@[simp] theorem countSpan_ports : (countSpan i n s).ports = s.ports := rfl
@[simp] theorem countSpan_cls : (countSpan i n s).cls = s.cls := rfl
@[simp] theorem countSpan_fwd : (countSpan i n s).fwd = s.fwd := rfl
@[simp] theorem countSpan_dp : (countSpan i n s).dp = s.dp := rfl
@[simp] theorem countSpan_cw : (countSpan i n s).cw = s.cw := rfl
@[simp] theorem countSpan_span : (countSpan i n s).span = { s.span with ctrs := Tbl.upd {} s.span.ctrs i (fun c => c.add64 n) } := rfl
@[simp] theorem countSpan_cap : (countSpan i n s).cap = s.cap := rfl
@[simp] theorem countSpan_dbg : (countSpan i n s).dbg = s.dbg := rfl
@[simp] theorem countSpan_io : (countSpan i n s).io = s.io := rfl
@[simp] theorem countSpan_out : (countSpan i n s).out = s.out := rfl
@[simp] theorem countSpan_freeCtr : (countSpan i n s).freeCtr = s.freeCtr := rfl

end

/-! ### setTransition -/

section
variable (x : Option Transition) (s : State)

@[simp] theorem setTransition_pending : (setTransition x s).pending = s.pending := rfl
@[simp] theorem setTransition_elapsed : (setTransition x s).elapsed = s.elapsed := rfl
@[simp] theorem setTransition_ident : (setTransition x s).ident = s.ident := rfl
@[simp] theorem setTransition_sup : (setTransition x s).sup = { s.sup with transition := x } := rfl
@[simp] theorem setTransition_sw : (setTransition x s).sw = s.sw := rfl
@[simp] theorem setTransition_wake : (setTransition x s).wake = s.wake := rfl
@[simp] theorem setTransition_strike : (setTransition x s).strike = s.strike := rfl
@[simp] theorem setTransition_vio : (setTransition x s).vio = s.vio := rfl
@[simp] theorem setTransition_clk : (setTransition x s).clk = s.clk := rfl
@[simp] theorem setTransition_rtc : (setTransition x s).rtc = s.rtc := rfl
@[simp] theorem setTransition_tb : (setTransition x s).tb = s.tb := rfl
@[simp] theorem setTransition_disc : (setTransition x s).disc = s.disc := rfl
@[simp] theorem setTransition_timers : (setTransition x s).timers = s.timers := rfl
@[simp] theorem setTransition_boot : (setTransition x s).boot = s.boot := rfl
@[simp] theorem setTransition_flash : (setTransition x s).flash = s.flash := rfl
@[simp] theorem setTransition_kmp : (setTransition x s).kmp = s.kmp := rfl
@[simp] theorem setTransition_host : (setTransition x s).host = s.host := rfl
@[simp] theorem setTransition_dig : (setTransition x s).dig = s.dig := rfl
@[simp] theorem setTransition_cnt : (setTransition x s).cnt = s.cnt := rfl
@[simp] theorem setTransition_dram : (setTransition x s).dram = s.dram := rfl
@[simp] theorem setTransition_lanes : (setTransition x s).lanes = s.lanes := rfl
@[simp] theorem setTransition_ports : (setTransition x s).ports = s.ports := rfl
@[simp] theorem setTransition_cls : (setTransition x s).cls = s.cls := rfl
@[simp] theorem setTransition_fwd : (setTransition x s).fwd = s.fwd := rfl
@[simp] theorem setTransition_dp : (setTransition x s).dp = s.dp := rfl
@[simp] theorem setTransition_cw : (setTransition x s).cw = s.cw := rfl
@[simp] theorem setTransition_span : (setTransition x s).span = s.span := rfl
@[simp] theorem setTransition_cap : (setTransition x s).cap = s.cap := rfl
@[simp] theorem setTransition_dbg : (setTransition x s).dbg = s.dbg := rfl
@[simp] theorem setTransition_io : (setTransition x s).io = s.io := rfl
@[simp] theorem setTransition_out : (setTransition x s).out = s.out := rfl
@[simp] theorem setTransition_freeCtr : (setTransition x s).freeCtr = s.freeCtr := rfl

end

/-! ### updLane -/

section
variable (l : Nat) (f : Lane → Lane) (s : State)

@[simp] theorem updLane_pending : (updLane l f s).pending = s.pending := rfl
@[simp] theorem updLane_elapsed : (updLane l f s).elapsed = s.elapsed := rfl
@[simp] theorem updLane_ident : (updLane l f s).ident = s.ident := rfl
@[simp] theorem updLane_sup : (updLane l f s).sup = s.sup := rfl
@[simp] theorem updLane_sw : (updLane l f s).sw = s.sw := rfl
@[simp] theorem updLane_wake : (updLane l f s).wake = s.wake := rfl
@[simp] theorem updLane_strike : (updLane l f s).strike = s.strike := rfl
@[simp] theorem updLane_vio : (updLane l f s).vio = s.vio := rfl
@[simp] theorem updLane_clk : (updLane l f s).clk = s.clk := rfl
@[simp] theorem updLane_rtc : (updLane l f s).rtc = s.rtc := rfl
@[simp] theorem updLane_tb : (updLane l f s).tb = s.tb := rfl
@[simp] theorem updLane_disc : (updLane l f s).disc = s.disc := rfl
@[simp] theorem updLane_timers : (updLane l f s).timers = s.timers := rfl
@[simp] theorem updLane_boot : (updLane l f s).boot = s.boot := rfl
@[simp] theorem updLane_flash : (updLane l f s).flash = s.flash := rfl
@[simp] theorem updLane_kmp : (updLane l f s).kmp = s.kmp := rfl
@[simp] theorem updLane_host : (updLane l f s).host = s.host := rfl
@[simp] theorem updLane_dig : (updLane l f s).dig = s.dig := rfl
@[simp] theorem updLane_cnt : (updLane l f s).cnt = s.cnt := rfl
@[simp] theorem updLane_dram : (updLane l f s).dram = s.dram := rfl
@[simp] theorem updLane_lanes : (updLane l f s).lanes = { s.lanes with lane := Tbl.upd {} s.lanes.lane l f } := rfl
@[simp] theorem updLane_ports : (updLane l f s).ports = s.ports := rfl
@[simp] theorem updLane_cls : (updLane l f s).cls = s.cls := rfl
@[simp] theorem updLane_fwd : (updLane l f s).fwd = s.fwd := rfl
@[simp] theorem updLane_dp : (updLane l f s).dp = s.dp := rfl
@[simp] theorem updLane_cw : (updLane l f s).cw = s.cw := rfl
@[simp] theorem updLane_span : (updLane l f s).span = s.span := rfl
@[simp] theorem updLane_cap : (updLane l f s).cap = s.cap := rfl
@[simp] theorem updLane_dbg : (updLane l f s).dbg = s.dbg := rfl
@[simp] theorem updLane_io : (updLane l f s).io = s.io := rfl
@[simp] theorem updLane_out : (updLane l f s).out = s.out := rfl
@[simp] theorem updLane_freeCtr : (updLane l f s).freeCtr = s.freeCtr := rfl

end

/-! ### updPort -/

section
variable (p : Nat) (f : Port → Port) (s : State)

@[simp] theorem updPort_pending : (updPort p f s).pending = s.pending := rfl
@[simp] theorem updPort_elapsed : (updPort p f s).elapsed = s.elapsed := rfl
@[simp] theorem updPort_ident : (updPort p f s).ident = s.ident := rfl
@[simp] theorem updPort_sup : (updPort p f s).sup = s.sup := rfl
@[simp] theorem updPort_sw : (updPort p f s).sw = s.sw := rfl
@[simp] theorem updPort_wake : (updPort p f s).wake = s.wake := rfl
@[simp] theorem updPort_strike : (updPort p f s).strike = s.strike := rfl
@[simp] theorem updPort_vio : (updPort p f s).vio = s.vio := rfl
@[simp] theorem updPort_clk : (updPort p f s).clk = s.clk := rfl
@[simp] theorem updPort_rtc : (updPort p f s).rtc = s.rtc := rfl
@[simp] theorem updPort_tb : (updPort p f s).tb = s.tb := rfl
@[simp] theorem updPort_disc : (updPort p f s).disc = s.disc := rfl
@[simp] theorem updPort_timers : (updPort p f s).timers = s.timers := rfl
@[simp] theorem updPort_boot : (updPort p f s).boot = s.boot := rfl
@[simp] theorem updPort_flash : (updPort p f s).flash = s.flash := rfl
@[simp] theorem updPort_kmp : (updPort p f s).kmp = s.kmp := rfl
@[simp] theorem updPort_host : (updPort p f s).host = s.host := rfl
@[simp] theorem updPort_dig : (updPort p f s).dig = s.dig := rfl
@[simp] theorem updPort_cnt : (updPort p f s).cnt = s.cnt := rfl
@[simp] theorem updPort_dram : (updPort p f s).dram = s.dram := rfl
@[simp] theorem updPort_lanes : (updPort p f s).lanes = s.lanes := rfl
@[simp] theorem updPort_ports : (updPort p f s).ports = { s.ports with port := Tbl.upd {} s.ports.port p f } := rfl
@[simp] theorem updPort_cls : (updPort p f s).cls = s.cls := rfl
@[simp] theorem updPort_fwd : (updPort p f s).fwd = s.fwd := rfl
@[simp] theorem updPort_dp : (updPort p f s).dp = s.dp := rfl
@[simp] theorem updPort_cw : (updPort p f s).cw = s.cw := rfl
@[simp] theorem updPort_span : (updPort p f s).span = s.span := rfl
@[simp] theorem updPort_cap : (updPort p f s).cap = s.cap := rfl
@[simp] theorem updPort_dbg : (updPort p f s).dbg = s.dbg := rfl
@[simp] theorem updPort_io : (updPort p f s).io = s.io := rfl
@[simp] theorem updPort_out : (updPort p f s).out = s.out := rfl
@[simp] theorem updPort_freeCtr : (updPort p f s).freeCtr = s.freeCtr := rfl

end

/-! ### updLink -/

section
variable (l : Nat) (f : CwLink → CwLink) (s : State)

@[simp] theorem updLink_pending : (updLink l f s).pending = s.pending := rfl
@[simp] theorem updLink_elapsed : (updLink l f s).elapsed = s.elapsed := rfl
@[simp] theorem updLink_ident : (updLink l f s).ident = s.ident := rfl
@[simp] theorem updLink_sup : (updLink l f s).sup = s.sup := rfl
@[simp] theorem updLink_sw : (updLink l f s).sw = s.sw := rfl
@[simp] theorem updLink_wake : (updLink l f s).wake = s.wake := rfl
@[simp] theorem updLink_strike : (updLink l f s).strike = s.strike := rfl
@[simp] theorem updLink_vio : (updLink l f s).vio = s.vio := rfl
@[simp] theorem updLink_clk : (updLink l f s).clk = s.clk := rfl
@[simp] theorem updLink_rtc : (updLink l f s).rtc = s.rtc := rfl
@[simp] theorem updLink_tb : (updLink l f s).tb = s.tb := rfl
@[simp] theorem updLink_disc : (updLink l f s).disc = s.disc := rfl
@[simp] theorem updLink_timers : (updLink l f s).timers = s.timers := rfl
@[simp] theorem updLink_boot : (updLink l f s).boot = s.boot := rfl
@[simp] theorem updLink_flash : (updLink l f s).flash = s.flash := rfl
@[simp] theorem updLink_kmp : (updLink l f s).kmp = s.kmp := rfl
@[simp] theorem updLink_host : (updLink l f s).host = s.host := rfl
@[simp] theorem updLink_dig : (updLink l f s).dig = s.dig := rfl
@[simp] theorem updLink_cnt : (updLink l f s).cnt = s.cnt := rfl
@[simp] theorem updLink_dram : (updLink l f s).dram = s.dram := rfl
@[simp] theorem updLink_lanes : (updLink l f s).lanes = s.lanes := rfl
@[simp] theorem updLink_ports : (updLink l f s).ports = s.ports := rfl
@[simp] theorem updLink_cls : (updLink l f s).cls = s.cls := rfl
@[simp] theorem updLink_fwd : (updLink l f s).fwd = s.fwd := rfl
@[simp] theorem updLink_dp : (updLink l f s).dp = s.dp := rfl
@[simp] theorem updLink_cw : (updLink l f s).cw = { s.cw with link := Tbl.upd {} s.cw.link l f } := rfl
@[simp] theorem updLink_span : (updLink l f s).span = s.span := rfl
@[simp] theorem updLink_cap : (updLink l f s).cap = s.cap := rfl
@[simp] theorem updLink_dbg : (updLink l f s).dbg = s.dbg := rfl
@[simp] theorem updLink_io : (updLink l f s).io = s.io := rfl
@[simp] theorem updLink_out : (updLink l f s).out = s.out := rfl
@[simp] theorem updLink_freeCtr : (updLink l f s).freeCtr = s.freeCtr := rfl

end

/-! ### updDeck -/

section
variable (d : Nat) (f : Deck → Deck) (s : State)

@[simp] theorem updDeck_pending : (updDeck d f s).pending = s.pending := rfl
@[simp] theorem updDeck_elapsed : (updDeck d f s).elapsed = s.elapsed := rfl
@[simp] theorem updDeck_ident : (updDeck d f s).ident = s.ident := rfl
@[simp] theorem updDeck_sup : (updDeck d f s).sup = s.sup := rfl
@[simp] theorem updDeck_sw : (updDeck d f s).sw = s.sw := rfl
@[simp] theorem updDeck_wake : (updDeck d f s).wake = s.wake := rfl
@[simp] theorem updDeck_strike : (updDeck d f s).strike = s.strike := rfl
@[simp] theorem updDeck_vio : (updDeck d f s).vio = s.vio := rfl
@[simp] theorem updDeck_clk : (updDeck d f s).clk = s.clk := rfl
@[simp] theorem updDeck_rtc : (updDeck d f s).rtc = s.rtc := rfl
@[simp] theorem updDeck_tb : (updDeck d f s).tb = s.tb := rfl
@[simp] theorem updDeck_disc : (updDeck d f s).disc = s.disc := rfl
@[simp] theorem updDeck_timers : (updDeck d f s).timers = s.timers := rfl
@[simp] theorem updDeck_boot : (updDeck d f s).boot = s.boot := rfl
@[simp] theorem updDeck_flash : (updDeck d f s).flash = s.flash := rfl
@[simp] theorem updDeck_kmp : (updDeck d f s).kmp = s.kmp := rfl
@[simp] theorem updDeck_host : (updDeck d f s).host = s.host := rfl
@[simp] theorem updDeck_dig : (updDeck d f s).dig = s.dig := rfl
@[simp] theorem updDeck_cnt : (updDeck d f s).cnt = s.cnt := rfl
@[simp] theorem updDeck_dram : (updDeck d f s).dram = s.dram := rfl
@[simp] theorem updDeck_lanes : (updDeck d f s).lanes = s.lanes := rfl
@[simp] theorem updDeck_ports : (updDeck d f s).ports = s.ports := rfl
@[simp] theorem updDeck_cls : (updDeck d f s).cls = s.cls := rfl
@[simp] theorem updDeck_fwd : (updDeck d f s).fwd = s.fwd := rfl
@[simp] theorem updDeck_dp : (updDeck d f s).dp = { s.dp with deck := Tbl.upd {} s.dp.deck d f } := rfl
@[simp] theorem updDeck_cw : (updDeck d f s).cw = s.cw := rfl
@[simp] theorem updDeck_span : (updDeck d f s).span = s.span := rfl
@[simp] theorem updDeck_cap : (updDeck d f s).cap = s.cap := rfl
@[simp] theorem updDeck_dbg : (updDeck d f s).dbg = s.dbg := rfl
@[simp] theorem updDeck_io : (updDeck d f s).io = s.io := rfl
@[simp] theorem updDeck_out : (updDeck d f s).out = s.out := rfl
@[simp] theorem updDeck_freeCtr : (updDeck d f s).freeCtr = s.freeCtr := rfl

end

/-! ### updQueue -/

section
variable (p q : Nat) (f : Queue → Queue) (s : State)

@[simp] theorem updQueue_pending : (updQueue p q f s).pending = s.pending := rfl
@[simp] theorem updQueue_elapsed : (updQueue p q f s).elapsed = s.elapsed := rfl
@[simp] theorem updQueue_ident : (updQueue p q f s).ident = s.ident := rfl
@[simp] theorem updQueue_sup : (updQueue p q f s).sup = s.sup := rfl
@[simp] theorem updQueue_sw : (updQueue p q f s).sw = s.sw := rfl
@[simp] theorem updQueue_wake : (updQueue p q f s).wake = s.wake := rfl
@[simp] theorem updQueue_strike : (updQueue p q f s).strike = s.strike := rfl
@[simp] theorem updQueue_vio : (updQueue p q f s).vio = s.vio := rfl
@[simp] theorem updQueue_clk : (updQueue p q f s).clk = s.clk := rfl
@[simp] theorem updQueue_rtc : (updQueue p q f s).rtc = s.rtc := rfl
@[simp] theorem updQueue_tb : (updQueue p q f s).tb = s.tb := rfl
@[simp] theorem updQueue_disc : (updQueue p q f s).disc = s.disc := rfl
@[simp] theorem updQueue_timers : (updQueue p q f s).timers = s.timers := rfl
@[simp] theorem updQueue_boot : (updQueue p q f s).boot = s.boot := rfl
@[simp] theorem updQueue_flash : (updQueue p q f s).flash = s.flash := rfl
@[simp] theorem updQueue_kmp : (updQueue p q f s).kmp = s.kmp := rfl
@[simp] theorem updQueue_host : (updQueue p q f s).host = s.host := rfl
@[simp] theorem updQueue_dig : (updQueue p q f s).dig = s.dig := rfl
@[simp] theorem updQueue_cnt : (updQueue p q f s).cnt = s.cnt := rfl
@[simp] theorem updQueue_dram : (updQueue p q f s).dram = s.dram := rfl
@[simp] theorem updQueue_lanes : (updQueue p q f s).lanes = s.lanes := rfl
@[simp] theorem updQueue_ports : (updQueue p q f s).ports = s.ports := rfl
@[simp] theorem updQueue_cls : (updQueue p q f s).cls = s.cls := rfl
@[simp] theorem updQueue_fwd : (updQueue p q f s).fwd = s.fwd := rfl
@[simp] theorem updQueue_dp : (updQueue p q f s).dp = { s.dp with queue := Tbl.upd {} s.dp.queue (qKey p q) f } := rfl
@[simp] theorem updQueue_cw : (updQueue p q f s).cw = s.cw := rfl
@[simp] theorem updQueue_span : (updQueue p q f s).span = s.span := rfl
@[simp] theorem updQueue_cap : (updQueue p q f s).cap = s.cap := rfl
@[simp] theorem updQueue_dbg : (updQueue p q f s).dbg = s.dbg := rfl
@[simp] theorem updQueue_io : (updQueue p q f s).io = s.io := rfl
@[simp] theorem updQueue_out : (updQueue p q f s).out = s.out := rfl
@[simp] theorem updQueue_freeCtr : (updQueue p q f s).freeCtr = s.freeCtr := rfl

end

/-! ### updEgress -/

section
variable (p : Nat) (f : Egress → Egress) (s : State)

@[simp] theorem updEgress_pending : (updEgress p f s).pending = s.pending := rfl
@[simp] theorem updEgress_elapsed : (updEgress p f s).elapsed = s.elapsed := rfl
@[simp] theorem updEgress_ident : (updEgress p f s).ident = s.ident := rfl
@[simp] theorem updEgress_sup : (updEgress p f s).sup = s.sup := rfl
@[simp] theorem updEgress_sw : (updEgress p f s).sw = s.sw := rfl
@[simp] theorem updEgress_wake : (updEgress p f s).wake = s.wake := rfl
@[simp] theorem updEgress_strike : (updEgress p f s).strike = s.strike := rfl
@[simp] theorem updEgress_vio : (updEgress p f s).vio = s.vio := rfl
@[simp] theorem updEgress_clk : (updEgress p f s).clk = s.clk := rfl
@[simp] theorem updEgress_rtc : (updEgress p f s).rtc = s.rtc := rfl
@[simp] theorem updEgress_tb : (updEgress p f s).tb = s.tb := rfl
@[simp] theorem updEgress_disc : (updEgress p f s).disc = s.disc := rfl
@[simp] theorem updEgress_timers : (updEgress p f s).timers = s.timers := rfl
@[simp] theorem updEgress_boot : (updEgress p f s).boot = s.boot := rfl
@[simp] theorem updEgress_flash : (updEgress p f s).flash = s.flash := rfl
@[simp] theorem updEgress_kmp : (updEgress p f s).kmp = s.kmp := rfl
@[simp] theorem updEgress_host : (updEgress p f s).host = s.host := rfl
@[simp] theorem updEgress_dig : (updEgress p f s).dig = s.dig := rfl
@[simp] theorem updEgress_cnt : (updEgress p f s).cnt = s.cnt := rfl
@[simp] theorem updEgress_dram : (updEgress p f s).dram = s.dram := rfl
@[simp] theorem updEgress_lanes : (updEgress p f s).lanes = s.lanes := rfl
@[simp] theorem updEgress_ports : (updEgress p f s).ports = s.ports := rfl
@[simp] theorem updEgress_cls : (updEgress p f s).cls = s.cls := rfl
@[simp] theorem updEgress_fwd : (updEgress p f s).fwd = s.fwd := rfl
@[simp] theorem updEgress_dp : (updEgress p f s).dp = { s.dp with egress := Tbl.upd {} s.dp.egress p f } := rfl
@[simp] theorem updEgress_cw : (updEgress p f s).cw = s.cw := rfl
@[simp] theorem updEgress_span : (updEgress p f s).span = s.span := rfl
@[simp] theorem updEgress_cap : (updEgress p f s).cap = s.cap := rfl
@[simp] theorem updEgress_dbg : (updEgress p f s).dbg = s.dbg := rfl
@[simp] theorem updEgress_io : (updEgress p f s).io = s.io := rfl
@[simp] theorem updEgress_out : (updEgress p f s).out = s.out := rfl
@[simp] theorem updEgress_freeCtr : (updEgress p f s).freeCtr = s.freeCtr := rfl

end

/-! ### updChan -/

section
variable (c : Nat) (f : Channel → Channel) (s : State)

@[simp] theorem updChan_pending : (updChan c f s).pending = s.pending := rfl
@[simp] theorem updChan_elapsed : (updChan c f s).elapsed = s.elapsed := rfl
@[simp] theorem updChan_ident : (updChan c f s).ident = s.ident := rfl
@[simp] theorem updChan_sup : (updChan c f s).sup = s.sup := rfl
@[simp] theorem updChan_sw : (updChan c f s).sw = s.sw := rfl
@[simp] theorem updChan_wake : (updChan c f s).wake = s.wake := rfl
@[simp] theorem updChan_strike : (updChan c f s).strike = s.strike := rfl
@[simp] theorem updChan_vio : (updChan c f s).vio = s.vio := rfl
@[simp] theorem updChan_clk : (updChan c f s).clk = s.clk := rfl
@[simp] theorem updChan_rtc : (updChan c f s).rtc = s.rtc := rfl
@[simp] theorem updChan_tb : (updChan c f s).tb = s.tb := rfl
@[simp] theorem updChan_disc : (updChan c f s).disc = s.disc := rfl
@[simp] theorem updChan_timers : (updChan c f s).timers = s.timers := rfl
@[simp] theorem updChan_boot : (updChan c f s).boot = s.boot := rfl
@[simp] theorem updChan_flash : (updChan c f s).flash = s.flash := rfl
@[simp] theorem updChan_kmp : (updChan c f s).kmp = s.kmp := rfl
@[simp] theorem updChan_host : (updChan c f s).host = s.host := rfl
@[simp] theorem updChan_dig : (updChan c f s).dig = s.dig := rfl
@[simp] theorem updChan_cnt : (updChan c f s).cnt = s.cnt := rfl
@[simp] theorem updChan_dram : (updChan c f s).dram = { s.dram with ch := Tbl.upd {} s.dram.ch c f } := rfl
@[simp] theorem updChan_lanes : (updChan c f s).lanes = s.lanes := rfl
@[simp] theorem updChan_ports : (updChan c f s).ports = s.ports := rfl
@[simp] theorem updChan_cls : (updChan c f s).cls = s.cls := rfl
@[simp] theorem updChan_fwd : (updChan c f s).fwd = s.fwd := rfl
@[simp] theorem updChan_dp : (updChan c f s).dp = s.dp := rfl
@[simp] theorem updChan_cw : (updChan c f s).cw = s.cw := rfl
@[simp] theorem updChan_span : (updChan c f s).span = s.span := rfl
@[simp] theorem updChan_cap : (updChan c f s).cap = s.cap := rfl
@[simp] theorem updChan_dbg : (updChan c f s).dbg = s.dbg := rfl
@[simp] theorem updChan_io : (updChan c f s).io = s.io := rfl
@[simp] theorem updChan_out : (updChan c f s).out = s.out := rfl
@[simp] theorem updChan_freeCtr : (updChan c f s).freeCtr = s.freeCtr := rfl

end

/-! ### updFio -/

section
variable (n : Nat) (f : FioPin → FioPin) (s : State)

@[simp] theorem updFio_pending : (updFio n f s).pending = s.pending := rfl
@[simp] theorem updFio_elapsed : (updFio n f s).elapsed = s.elapsed := rfl
@[simp] theorem updFio_ident : (updFio n f s).ident = s.ident := rfl
@[simp] theorem updFio_sup : (updFio n f s).sup = s.sup := rfl
@[simp] theorem updFio_sw : (updFio n f s).sw = s.sw := rfl
@[simp] theorem updFio_wake : (updFio n f s).wake = s.wake := rfl
@[simp] theorem updFio_strike : (updFio n f s).strike = s.strike := rfl
@[simp] theorem updFio_vio : (updFio n f s).vio = s.vio := rfl
@[simp] theorem updFio_clk : (updFio n f s).clk = s.clk := rfl
@[simp] theorem updFio_rtc : (updFio n f s).rtc = s.rtc := rfl
@[simp] theorem updFio_tb : (updFio n f s).tb = s.tb := rfl
@[simp] theorem updFio_disc : (updFio n f s).disc = s.disc := rfl
@[simp] theorem updFio_timers : (updFio n f s).timers = s.timers := rfl
@[simp] theorem updFio_boot : (updFio n f s).boot = s.boot := rfl
@[simp] theorem updFio_flash : (updFio n f s).flash = s.flash := rfl
@[simp] theorem updFio_kmp : (updFio n f s).kmp = s.kmp := rfl
@[simp] theorem updFio_host : (updFio n f s).host = s.host := rfl
@[simp] theorem updFio_dig : (updFio n f s).dig = s.dig := rfl
@[simp] theorem updFio_cnt : (updFio n f s).cnt = s.cnt := rfl
@[simp] theorem updFio_dram : (updFio n f s).dram = s.dram := rfl
@[simp] theorem updFio_lanes : (updFio n f s).lanes = s.lanes := rfl
@[simp] theorem updFio_ports : (updFio n f s).ports = s.ports := rfl
@[simp] theorem updFio_cls : (updFio n f s).cls = s.cls := rfl
@[simp] theorem updFio_fwd : (updFio n f s).fwd = s.fwd := rfl
@[simp] theorem updFio_dp : (updFio n f s).dp = s.dp := rfl
@[simp] theorem updFio_cw : (updFio n f s).cw = s.cw := rfl
@[simp] theorem updFio_span : (updFio n f s).span = s.span := rfl
@[simp] theorem updFio_cap : (updFio n f s).cap = s.cap := rfl
@[simp] theorem updFio_dbg : (updFio n f s).dbg = s.dbg := rfl
@[simp] theorem updFio_io : (updFio n f s).io = { s.io with fio := Tbl.upd {} s.io.fio n f } := rfl
@[simp] theorem updFio_out : (updFio n f s).out = s.out := rfl
@[simp] theorem updFio_freeCtr : (updFio n f s).freeCtr = s.freeCtr := rfl

end

/-! ### setStageState -/

section
variable (g : Option Stage) (s : State)

@[simp] theorem setStageState_pending : (setStageState g s).pending = s.pending := rfl
@[simp] theorem setStageState_elapsed : (setStageState g s).elapsed = s.elapsed := rfl
@[simp] theorem setStageState_ident : (setStageState g s).ident = s.ident := rfl
@[simp] theorem setStageState_sup : (setStageState g s).sup = s.sup := rfl
@[simp] theorem setStageState_sw : (setStageState g s).sw = s.sw := rfl
@[simp] theorem setStageState_wake : (setStageState g s).wake = s.wake := rfl
@[simp] theorem setStageState_strike : (setStageState g s).strike = s.strike := rfl
@[simp] theorem setStageState_vio : (setStageState g s).vio = s.vio := rfl
@[simp] theorem setStageState_clk : (setStageState g s).clk = s.clk := rfl
@[simp] theorem setStageState_rtc : (setStageState g s).rtc = s.rtc := rfl
@[simp] theorem setStageState_tb : (setStageState g s).tb = s.tb := rfl
@[simp] theorem setStageState_disc : (setStageState g s).disc = s.disc := rfl
@[simp] theorem setStageState_timers : (setStageState g s).timers = s.timers := rfl
@[simp] theorem setStageState_boot : (setStageState g s).boot = s.boot := rfl
@[simp] theorem setStageState_flash : (setStageState g s).flash = s.flash := rfl
@[simp] theorem setStageState_kmp : (setStageState g s).kmp = { s.kmp with stage := g } := rfl
@[simp] theorem setStageState_host : (setStageState g s).host = s.host := rfl
@[simp] theorem setStageState_dig : (setStageState g s).dig = s.dig := rfl
@[simp] theorem setStageState_cnt : (setStageState g s).cnt = s.cnt := rfl
@[simp] theorem setStageState_dram : (setStageState g s).dram = s.dram := rfl
@[simp] theorem setStageState_lanes : (setStageState g s).lanes = s.lanes := rfl
@[simp] theorem setStageState_ports : (setStageState g s).ports = s.ports := rfl
@[simp] theorem setStageState_cls : (setStageState g s).cls = s.cls := rfl
@[simp] theorem setStageState_fwd : (setStageState g s).fwd = s.fwd := rfl
@[simp] theorem setStageState_dp : (setStageState g s).dp = s.dp := rfl
@[simp] theorem setStageState_cw : (setStageState g s).cw = s.cw := rfl
@[simp] theorem setStageState_span : (setStageState g s).span = s.span := rfl
@[simp] theorem setStageState_cap : (setStageState g s).cap = s.cap := rfl
@[simp] theorem setStageState_dbg : (setStageState g s).dbg = s.dbg := rfl
@[simp] theorem setStageState_io : (setStageState g s).io = s.io := rfl
@[simp] theorem setStageState_out : (setStageState g s).out = s.out := rfl
@[simp] theorem setStageState_freeCtr : (setStageState g s).freeCtr = s.freeCtr := rfl

end

/-! ### flashWrite -/

section
variable (a : Nat) (b : List Byte) (s : State)

@[simp] theorem flashWrite_pending : (flashWrite a b s).pending = s.pending := rfl
@[simp] theorem flashWrite_elapsed : (flashWrite a b s).elapsed = s.elapsed := rfl
@[simp] theorem flashWrite_ident : (flashWrite a b s).ident = s.ident := rfl
@[simp] theorem flashWrite_sup : (flashWrite a b s).sup = s.sup := rfl
@[simp] theorem flashWrite_sw : (flashWrite a b s).sw = s.sw := rfl
@[simp] theorem flashWrite_wake : (flashWrite a b s).wake = s.wake := rfl
@[simp] theorem flashWrite_strike : (flashWrite a b s).strike = s.strike := rfl
@[simp] theorem flashWrite_vio : (flashWrite a b s).vio = s.vio := rfl
@[simp] theorem flashWrite_clk : (flashWrite a b s).clk = s.clk := rfl
@[simp] theorem flashWrite_rtc : (flashWrite a b s).rtc = s.rtc := rfl
@[simp] theorem flashWrite_tb : (flashWrite a b s).tb = s.tb := rfl
@[simp] theorem flashWrite_disc : (flashWrite a b s).disc = s.disc := rfl
@[simp] theorem flashWrite_timers : (flashWrite a b s).timers = s.timers := rfl
@[simp] theorem flashWrite_boot : (flashWrite a b s).boot = s.boot := rfl
@[simp] theorem flashWrite_flash : (flashWrite a b s).flash = Mem.write 0xFF s.flash a b := rfl
@[simp] theorem flashWrite_kmp : (flashWrite a b s).kmp = s.kmp := rfl
@[simp] theorem flashWrite_host : (flashWrite a b s).host = s.host := rfl
@[simp] theorem flashWrite_dig : (flashWrite a b s).dig = s.dig := rfl
@[simp] theorem flashWrite_cnt : (flashWrite a b s).cnt = s.cnt := rfl
@[simp] theorem flashWrite_dram : (flashWrite a b s).dram = s.dram := rfl
@[simp] theorem flashWrite_lanes : (flashWrite a b s).lanes = s.lanes := rfl
@[simp] theorem flashWrite_ports : (flashWrite a b s).ports = s.ports := rfl
@[simp] theorem flashWrite_cls : (flashWrite a b s).cls = s.cls := rfl
@[simp] theorem flashWrite_fwd : (flashWrite a b s).fwd = s.fwd := rfl
@[simp] theorem flashWrite_dp : (flashWrite a b s).dp = s.dp := rfl
@[simp] theorem flashWrite_cw : (flashWrite a b s).cw = s.cw := rfl
@[simp] theorem flashWrite_span : (flashWrite a b s).span = s.span := rfl
@[simp] theorem flashWrite_cap : (flashWrite a b s).cap = s.cap := rfl
@[simp] theorem flashWrite_dbg : (flashWrite a b s).dbg = s.dbg := rfl
@[simp] theorem flashWrite_io : (flashWrite a b s).io = s.io := rfl
@[simp] theorem flashWrite_out : (flashWrite a b s).out = s.out := rfl
@[simp] theorem flashWrite_freeCtr : (flashWrite a b s).freeCtr = s.freeCtr := rfl

end

/-! ### The clock -/

section
variable (t : Nat) (s : State)

theorem advance_elapsed : (advance t s).elapsed = max t s.elapsed := by
  unfold advance; split
  · omega
  · simp only; omega

@[simp] theorem advance_pending : (advance t s).pending = s.pending := by unfold advance; split <;> rfl
@[simp] theorem advance_ident : (advance t s).ident = s.ident := by unfold advance; split <;> rfl
@[simp] theorem advance_sup : (advance t s).sup = s.sup := by unfold advance; split <;> rfl
@[simp] theorem advance_sw : (advance t s).sw = s.sw := by unfold advance; split <;> rfl
@[simp] theorem advance_wake : (advance t s).wake = s.wake := by unfold advance; split <;> rfl
@[simp] theorem advance_strike : (advance t s).strike = s.strike := by unfold advance; split <;> rfl
@[simp] theorem advance_vio : (advance t s).vio = s.vio := by unfold advance; split <;> rfl
@[simp] theorem advance_clk : (advance t s).clk = s.clk := by unfold advance; split <;> rfl
@[simp] theorem advance_rtc : (advance t s).rtc = s.rtc := by unfold advance; split <;> rfl
@[simp] theorem advance_disc : (advance t s).disc = s.disc := by unfold advance; split <;> rfl
@[simp] theorem advance_timers : (advance t s).timers = s.timers := by unfold advance; split <;> rfl
@[simp] theorem advance_boot : (advance t s).boot = s.boot := by unfold advance; split <;> rfl
@[simp] theorem advance_flash : (advance t s).flash = s.flash := by unfold advance; split <;> rfl
@[simp] theorem advance_kmp : (advance t s).kmp = s.kmp := by unfold advance; split <;> rfl
@[simp] theorem advance_host : (advance t s).host = s.host := by unfold advance; split <;> rfl
@[simp] theorem advance_dig : (advance t s).dig = s.dig := by unfold advance; split <;> rfl
@[simp] theorem advance_cnt : (advance t s).cnt = s.cnt := by unfold advance; split <;> rfl
@[simp] theorem advance_dram : (advance t s).dram = s.dram := by unfold advance; split <;> rfl
@[simp] theorem advance_lanes : (advance t s).lanes = s.lanes := by unfold advance; split <;> rfl
@[simp] theorem advance_ports : (advance t s).ports = s.ports := by unfold advance; split <;> rfl
@[simp] theorem advance_cls : (advance t s).cls = s.cls := by unfold advance; split <;> rfl
@[simp] theorem advance_fwd : (advance t s).fwd = s.fwd := by unfold advance; split <;> rfl
@[simp] theorem advance_dp : (advance t s).dp = s.dp := by unfold advance; split <;> rfl
@[simp] theorem advance_cw : (advance t s).cw = s.cw := by unfold advance; split <;> rfl
@[simp] theorem advance_span : (advance t s).span = s.span := by unfold advance; split <;> rfl
@[simp] theorem advance_cap : (advance t s).cap = s.cap := by unfold advance; split <;> rfl
@[simp] theorem advance_dbg : (advance t s).dbg = s.dbg := by unfold advance; split <;> rfl
@[simp] theorem advance_io : (advance t s).io = s.io := by unfold advance; split <;> rfl
@[simp] theorem advance_out : (advance t s).out = s.out := by unfold advance; split <;> rfl
@[simp] theorem advance_freeCtr : (advance t s).freeCtr = s.freeCtr := by unfold advance; split <;> rfl

end

/-! ### Events and interrupts -/

/-- Logging an event changes the log, the archive and its record of spoilt lines, and nothing else. -/
theorem logEvent_only (c n : Nat) (a : List Byte) (s : State) :
    logEvent c n a s = { s with cnt := (logEvent c n a s).cnt, dram := (logEvent c n a s).dram } := by
  unfold logEvent; dsimp only; split <;> rfl

/-- Raising an event changes the log and the archive, the event sequence and the hold, and sends to the Span leader on a follower. -/
theorem raise_only (e : Ev) (id : Nat) (a : List Byte) (s : State) :
    raise e id a s = { s with
      kmp := (raise e id a s).kmp, cnt := (raise e id a s).cnt, dram := (raise e id a s).dram, out := (raise e id a s).out } := by
  unfold raise; dsimp only; rw [logEvent_only]; split <;> rfl

theorem logEvent_kmp (c n : Nat) (a : List Byte) (s : State) : (logEvent c n a s).kmp = s.kmp := by rw [logEvent_only]

/-- Off a Span follower the event takes the next sequence number and is held. -/
theorem raise_kmp (e : Ev) (id : Nat) (a : List Byte) (s : State) (h : spanFollows s = false) :
    (raise e id a s).kmp = { s.kmp with
      eventSeq := inc16 s.kmp.eventSeq
      hold := holdPush ⟨s.kmp.eventSeq, e.code, id, tb10 (stamp s) ++ a⟩ s.kmp.hold } := by
  unfold raise; dsimp only; rw [if_neg (by simp [h]), logEvent_kmp]

theorem sendMsi_only (s : State) : sendMsi s = { s with host := (sendMsi s).host, out := (sendMsi s).out } := by
  unfold sendMsi; split
  · rfl
  · split <;> rfl

theorem sendMsi_err (s : State) : (sendMsi s).host.err = s.host.err := by unfold sendMsi; repeat (first | rfl | split)

theorem sendMsi_cause (s : State) : (sendMsi s).host.intCause = s.host.intCause := by unfold sendMsi; repeat (first | rfl | split)

/-- Setting cause bits changes the host window's own state, and may send one message. -/
theorem setCause_only (b : BitVec 10) (s : State) : setCause b s = { s with host := (setCause b s).host, out := (setCause b s).out } := by
  unfold setCause; dsimp only; split <;> split <;> first
    | rfl
    | exact sendMsi_only _

theorem setCause_err (b : BitVec 10) (s : State) : (setCause b s).host.err = s.host.err := by
  unfold setCause; dsimp only; rw [apply_ite (fun x : State => x.host.err), sendMsi_err, ite_self]

theorem setCause_intCause (b : BitVec 10) (s : State) : (setCause b s).host.intCause = s.host.intCause ||| b := by
  unfold setCause; dsimp only; rw [apply_ite (fun x : State => x.host.intCause), sendMsi_cause, ite_self]

/-! ### Answers -/

/-- What sending a message, and answering a request, may change: the mailbox, the counters, the rings, what UART0 holds back, the relay
count, and what the module puts out. -/
def Answered (s v : State) : Prop :=
  v = { s with kmp := v.kmp, host := v.host, cnt := v.cnt, io := v.io, span := v.span, out := v.out }

theorem Answered.refl (s : State) : Answered s s := rfl

theorem Answered.trans {s u v : State} (h : Answered s u) (g : Answered u v) : Answered s v := by
  unfold Answered at *; rw [g, h]

theorem sendVc0_answered (m : Vc0) (s : State) : Answered s (sendVc0 m s) := rfl

theorem relayMsg_answered (r : Relay) (s : State) : Answered s (relayMsg r s) := rfl

theorem uart0Send_answered (d : Dest) (m : Msg) (s : State) : Answered s (uart0Send d m s) := by
  unfold uart0Send; split
  · rfl
  · split <;> rfl

theorem sendLocal_answered (d : Dest) (m : Msg) (s : State) : Answered s (sendLocal d m s) := by
  unfold sendLocal; dsimp only; split
  · rfl
  · rfl
  · split <;> rfl
  · exact Answered.trans (u := updTransportCtrs (transportNum d.transport) (fun c => { c with txMessages := c.txMessages.add64 1 }) s)
      rfl (uart0Send_answered _ _ _)
  · rfl

theorem sendMsg_answered (d : Dest) (m : Msg) (s : State) : Answered s (sendMsg d m s) := by
  unfold sendMsg; split
  · rfl
  · split
    · exact relayMsg_answered _ _
    · exact sendLocal_answered _ _ _

theorem respond_answered (x : ReplyCtx) (code : Nat) (q : Req) (status : Nat) (p : List Byte) (r : Bool) (s : State) :
    Answered s (respond x code q status p r s) := sendMsg_answered _ _ _

theorem cacheResponse_answered (code : Nat) (q : Req) (x : Option Session) (status : Nat) (p : List Byte) (s : State) :
    Answered s (cacheResponse code q x status p s) := by
  unfold cacheResponse; dsimp only; split
  · rfl
  · split
    · unfold cacheSession; split <;> rfl
    · rfl

theorem noteRequest_answered (q : Req) (x : Option Session) (s : State) : Answered s (noteRequest q x s) := by
  unfold noteRequest; split <;> rfl

/-- The answer to an executed request changes no more than that. -/
theorem finish_answered (code : Nat) (q : Req) (x : Option Session) (ok : Bool) (status : Nat) (p : List Byte) (s : State) :
    Answered s (finish code q x ok status p s) := by
  unfold finish; split
  · exact sendVc0_answered _ _
  · exact ((respond_answered _ _ _ _ _ _ _).trans (cacheResponse_answered _ _ _ _ _ _)).trans (noteRequest_answered _ _ _)

/-- What entering a request may change is what `Handled` says; its own clock and supply stay. -/
theorem entered_sup {c : Cmd} {q : Req} {s : State} (h : Safety.admitted c q s = true) : (Safety.entered c q s).sup = s.sup := by
  rw [(entered_of_admitted h).1.sup, advance_sup]

end Sys2Proof.Laws
end

