-- ==== Sys2Proof/Tests/Slice0.lean ====
section
/-! SUPPORT. Tests/Slice0.lean: the author's tests: ill-formed commands, states that meet the hypotheses of the statements, and a few
steps worked out by hand. -/

namespace Sys2Proof.Tests

open Sys2Proof Sys2Proof.Machine Sys2Proof.Safety

-- One thread decides the witnesses one after another: each alone is small, all at once exceed the memory limit.
set_option Elab.async false

/-! ### States and requests to test on -/

/-- A controlling session opened under key slot 0. -/
def owner : Session :=
  { number := 1, controlling := true, keySlot := some 0, key := [], salt := [], h := 0, ackPoint := 0, mask := 0, window := 0
    retryMs := 1000, dest := ⟨.uart1, 0, 0, false⟩, lastRequestAt := 0, cache := [], nextSend := 0, sent := [], waitMs := 1000
    target := 0 }

/-- A module of revision A with a zero slot-0 key, in a mode, serving that session. -/
def serving (m : Mode) : State :=
  { State.reset with
    sup := { mode := m }
    ident := ⟨1, false, false, List.replicate 48 0, true, 0, 0, 0⟩
    clk := { reference := true }
    boot := { controlUp := true }
    kmp := { sessions := [owner] }
    dig := { slots := [(0, { state := .fused, key := List.replicate 48 0, usage := 15, source := 2 })], katOk := true, slot0Ok := true } }

def full : State := serving .full
def watch : State := serving .watch

/-- The same with a command of the elapsed clock at 1,000 s. -/
def later : Nat := 1000000000000

def z (n : Nat) : List Byte := List.replicate n 0

/-- A request of that session. -/
def ask (p : List Byte) : Req :=
  { t := 0, transport := .uart1, addr := 0, port := 0, session := 1, requestId := 7, seq := 1, ack := 0, auth := true, payload := p
    remote := false }

def laneIs (l : Nat) (x : Lane) (s : State) : State := { s with lanes := { s.lanes with lane := [(l, x)] } }
def portIs (p : Nat) (x : Port) (s : State) : State := { s with ports := { s.ports with port := [(p, x)] } }
def linkIs (l : Nat) (x : CwLink) (s : State) : State := { s with cw := { link := [(l, x)] } }
def cageIs (p : Nat) (x : Cage) (s : State) : State := { s with ports := { s.ports with cage := [(p, x)] } }
def egressIs (p : Nat) (x : Egress) (s : State) : State := { s with dp := { s.dp with egress := [(p, x)] } }
def deckIs (d : Nat) (x : Deck) (s : State) : State := { s with dp := { s.dp with deck := [(d, x)] } }
def chanIs (c : Nat) (x : Channel) (s : State) : State := { s with dram := { s.dram with ch := [(c, x)] } }
def pinIs (n : Nat) (x : FioPin) (s : State) : State := { s with io := { s.io with released := false, fio := [(n, x)] } }
def timerIs (n : Nat) (x : GTimer) (s : State) : State := { s with timers := [(n, x)] }
def spanIs (x : SpanLayer) (s : State) : State := { s with span := x }
def moves (src dst : Mode) (n : Nat) (s : State) : State :=
  { s with sup := { s.sup with mode := src, transition := some ⟨src, dst, .command, 0, n, 0, none⟩ } }

/-- A held fragment finds the entry of its follow set. -/
theorem follow_ready {s : State} {h : HeldFrame} {f : Follow} (held : s.cls.held = [h])
    (kept : s.cls.follow = [(followSetOf h.key, [f])]) (missed : h.reason = 1) (live : s.elapsed < f.at0 + followLife)
    (key : f.key = h.key) (good : f.bad = false) (seen : f.at0 + followDelay ≤ s.elapsed) : missReady s = some h := by
  simp [missReady, followHit, liveFollow, Tbl.get, held, kept, missed, live, key, good, seen]

/-- An admitted request of a command meets a precondition. -/
abbrev Meets (c : Cmd) (_ : Req → Instr) (pre : Req → State → Prop) (q : Req) (s : State) : Prop :=
  admitted c q s = true ∧ pre q (entered c q s)

/-- A command at `t` meets a precondition. -/
abbrev Ready (_ : Nat → Instr) (pre : State → Prop) (t : Nat) (s : State) : Prop := pre (advance t s)

/-! ### Ill-formed commands, one for each check -/

theorem test_wf_request : wellFormed (.timeGet (ask [])) = true := by decide
theorem test_wf_address : wellFormed (.timeGet { ask [] with addr := 2 ^ 128 }) = false := by decide
theorem test_wf_port : wellFormed (.timeGet { ask [] with port := 65536 }) = false := by decide
theorem test_wf_session : wellFormed (.timeGet { ask [] with session := 65536 }) = false := by decide
theorem test_wf_request_id : wellFormed (.timeGet { ask [] with requestId := 2 ^ 32 }) = false := by decide
theorem test_wf_seq : wellFormed (.timeGet { ask [] with seq := 65536 }) = false := by decide
theorem test_wf_ack : wellFormed (.timeGet { ask [] with ack := 65536 }) = false := by decide
theorem test_wf_length : wellFormed (.timeGet (ask (z 1281))) = false := by decide +kernel
theorem test_wf_claim :
    claimWf ⟨65536, 0, 0, 0, 0⟩ = false ∧ claimWf ⟨0, 256, 0, 0, 0⟩ = false ∧ claimWf ⟨0, 0, 2 ^ 64, 0, 0⟩ = false ∧
      claimWf ⟨0, 0, 0, 2, 0⟩ = false ∧ claimWf ⟨0, 0, 0, 0, 2 ^ 32⟩ = false ∧ wellFormed (.spanClaim 0 (some ⟨0, 256, 0, 0, 0⟩)) = false := by
  decide
theorem test_wf_items : itemsWf [(65536, [])] = false ∧ itemsWf [(65535, [])] = true := by decide
theorem test_wf_i2c : ansWf (.ok (z 129)) = false ∧ ansWf (.ok (z 128)) = true := by decide +kernel
theorem test_wf_relay :
    relayWf (.event 65536 []) = false ∧ relayWf (.run 65536 (ask [])) = false ∧ relayWf (.request .uart1 0 65536 []) = false ∧
      relayWf (.outbound .uart1 (2 ^ 128) 0 []) = false ∧ relayWf (.ran 1 (ask []) 65536 []) = false ∧
      relayWf (.learned (2 ^ 48) 0 0 []) = false ∧ relayWf (.lastSeen [(4096, 0, 0)]) = false ∧
      relayWf (.stage 0 0 0 [(65536, [])]) = false := by
  decide

/-! ### Steps worked out by hand; most are the worked examples of the chapters -/

/-- Chapter 6, steps 2 and 3: a 16-bit write to REQ_TAIL is discarded and ACCESS_ERR reads 0x01310114. -/
def ringHost : State :=
  { full with host := { full.host with linkUp := true, rings := { enable := true, reqLog2 := 4, rspLog2 := 4, reqHead := 0xFFFE, reqTail := 0xFFFE } } }

theorem test_narrow_write_refused :
    (hostWindowWriteEffect 0 .pcie 0x0114 .w16 false 0 ringHost).host.rings.reqTail = 0xFFFE ∧
      (hostWindowWriteEffect 0 .pcie 0x0114 .w16 false 0 ringHost).host.err =
        { offset := 0x0114, kind := 1, path := false, write := true, width := 1, count := 1 } ∧
      (hostWindowWriteEffect 0 .pcie 0x0114 .w16 false 0 ringHost).host.intCause = 32 := by
  decide +kernel

/-- Step 7: 0x0000 lies 2 after 0xFFFE, within 16 entries. Step 8's note: 0x0011 lies 19 after it, ring fault 3. -/
theorem test_ring_tail_wraps :
    (hostWindowWriteEffect 0 .pcie 0x0114 .w32 false 0 ringHost).host.rings.reqTail = 0 ∧
      (hostWindowWriteEffect 0 .pcie 0x0114 .w32 false 0 ringHost).host.rings.enable = true := by
  decide +kernel
theorem test_ring_tail_too_far :
    (hostWindowWriteEffect 0 .pcie 0x0114 .w32 false 0x11 ringHost).host.rings.fault = 3 ∧
      (hostWindowWriteEffect 0 .pcie 0x0114 .w32 false 0x11 ringHost).host.rings.enable = false := by
  decide +kernel

/-- Chapter 2: the thresholds of the battery plant pass R29; with FULL_OFF 5.1 V below FULL_ON they do not. -/
theorem test_battery_thresholds :
    thresholdsOk ⟨24600, 22800, 23000, 21000, 20400, 19200⟩ = true ∧ thresholdsOk ⟨24600, 19500, 23000, 21000, 20400, 19200⟩ = false := by
  decide

/-- Chapter 3: 49,682,617 ns gained in 33,120.03 s without an alignment is a trim of +1,500 ppb. -/
theorem test_rtc_trim :
    (learnTrim 49682617 { full with tb := { full.tb with rtcLearn := true },
                                    disc := { full.disc with heldUnaligned := some 33120030000000 } }).rtc.trimPpb = 1500 := by
  decide +kernel

/-- Chapter 8: port 65 cannot hold a type of four lanes; port 66 finds lane 66 taken by port 64. -/
def refusedWith (b : Body) : Option Err :=
  match b with
  | .error e => some e
  | .ok _ => none
theorem test_port_align : refusedWith (portFormBody (ask (enc [(1, 65), (1, 6), (14, 0)])) full) = some .portAlign := by decide +kernel
theorem test_port_lane_busy :
    refusedWith (portFormBody (ask (enc [(1, 66), (1, 4), (1, 2), (1, 0), (2, 1518), (2, 10), (4, 200), (4, 0)]))
      (portIs 64 { typ := 7, fec := 2 } (laneIs 66 { owner := .ethernet } full))) = some .portLaneBusy := by
  decide +kernel

/-- Chapter 10: an insertion at entry 18 with the first free entry at 23 moves 5; the old rule stands at 19 with its count. -/
def insertBank : State :=
  { full with cls := { full.cls with bank := [(6, { profile := 2, list := 0, entries := (List.range' 16 7).map fun i =>
      (i, { action := 0x3301, hits := { val := if i = 18 then 41220 else 0 } }) })] } }
theorem test_search_insert :
    ((searchInsertBody (ask (enc [(1, 6), (1, 0), (2, 18), (2, 0x2381), (42, 0)])) insertBank).toOption.map fun r =>
        (r.2, (Tbl.get {} (bankOf 6 r.1).entries 18).action, (Tbl.get {} (bankOf 6 r.1).entries 19).action,
          (Tbl.get {} (bankOf 6 r.1).entries 19).hits.val)) =
      some (.ok (enc [(2, 5), (2, 23), (4, 0)]), 0x2381, 0x3301, 41220) := by
  decide +kernel

/-- Chapter 11: of ports 36 and 92 within 8 ns of the last stamp, 36 wins and 92 is the latest. -/
theorem test_learn_contest :
    lowestPort (candidates [(36, 0), (92, 212000), (36, 612000), (92, 612004)]) = 36 ∧
      latestPort [(36, 0), (92, 212000), (36, 612000), (92, 612004)] = 92 := by
  decide

/-- Chapter 12: packets 1, 2, 5, 6 and 7 of the admission table, with ALPHA_K -1 and RED_LIMIT 40. -/
theorem test_admission :
    underThreshold 0 (-1, 40) 405 820 = true ∧ underThreshold 1 (-1, 40) 406 819 = false ∧ underThreshold 0 (-1, 40) 408 817 = true ∧
      underThreshold 0 (-1, 40) 409 816 = false ∧ underThreshold 2 (-1, 40) 409 816 = false := by
  decide

/-- Chapter 13: entry 0 opens queue 7 for 50,000 ns; a frame of 1,001.6 ns at 49,000 ns does not fit, nor at the close of queue 3, and
one of 1,230.4 ns that ends exactly at the close does. Instants and durations are in 1/256 ns. -/
def gated : State :=
  { egressIs 16 { list := some ⟨[(0x80, 50000), (0x7F, 450000)], 500000, 0, 0⟩ } full with tb := { quality := .free } }
theorem test_gate_boundary :
    gateFits 16 7 (256 * 48000) (256 * 1000) gated = true ∧ gateFits 16 7 (256 * 49000) (2564096 / 10) gated = false ∧
      gateFits 16 3 (256 * 500000) (256 * 51) gated = false ∧ gateFits 16 7 (256 * 500000) (2564096 / 10) gated = true ∧
      gateFits 16 3 (256 * 498700) (256 * 1300) gated = true ∧ gateFits 16 3 (256 * 498701) (256 * 1300) gated = false := by
  decide +kernel

/-- Chapter 14: equal PRIORITY, the lower SERIAL leads. -/
theorem test_span_leader :
    leaderOf ⟨1, 128, 7100482, 0, 1⟩ ⟨1, 128, 7100519, 1, 1⟩ = 7100482 := by decide

/-- Chapter 15: the read sweep of byte lane 12, each row given by its first and last passing delay. -/
def passing (r : Nat × Nat) : BitVec 128 := BitVec.ofNat 128 (2 ^ (r.2 + 1) - 2 ^ r.1)
def laneRows : List (BitVec 128) :=
  List.replicate 14 0 ++ List.replicate 14 (passing (40, 80)) ++
    [passing (38, 82), passing (38, 83), passing (37, 83), passing (37, 82), passing (38, 82)] ++
      List.replicate 14 (passing (40, 80)) ++ List.replicate 17 0
theorem test_training_sweep : chooseEye laneRows = { delay := 60, width := 47, vref := 30, height := 33 } := by decide +kernel

/-- Chapter 17: the VIN samples at 20.500, 20.600 and 20.700 ms. -/
theorem test_vin_ranges :
    vinResult (some 12650) 4095 1398 = ⟨0, 22368, true, true⟩ ∧ vinResult (some 22368) 0 814 = ⟨0, 13024, false, true⟩ ∧
      vinResult (some 13024) 2531 0 = ⟨0, 12655, false, false⟩ := by
  decide

/-- Chapter 19: monitor 3 with HIGH 2 and LOW 0 trips on 3 and clears on 0. -/
theorem test_monitor_trips :
    tripsOn { kind := 1, high := 2, low := 0 } 3 = true ∧ tripsOn { kind := 1, high := 2, low := 0, tripped := true } 0 = false ∧
      tripsOn { kind := 1, high := 2, low := 0, tripped := true } 1 = true := by
  decide

/-- The check values of CRC-32 and HMAC-SHA-256 that other programs give for "123456789" and for an empty key and message. -/
theorem test_crc32 : Crc.crc32 [0x31, 0x32, 0x33, 0x34, 0x35, 0x36, 0x37, 0x38, 0x39] = 0xCBF43926 := by decide +kernel
theorem test_hmac256 :
    (Sha.hmac256 [] []).take 8 = [0xb6, 0x13, 0x67, 0x9a, 0x08, 0x14, 0xd9, 0xec] := by decide +kernel

/-- Chapter 2: the slew trigger at 0.9 µs and the surge-level trigger at 2.1 µs move the end of the window, with HOLD_MS 500. -/
theorem test_strike_window :
    (slewTriggerEffect 900 30600 full).strike.endsElapsed = 500000900 ∧
      (surgeTriggerEffect 2100 46000 (slewTriggerEffect 900 30600 full)).strike.endsElapsed = 500002100 ∧
      (surgeTriggerEffect 2100 46000 (slewTriggerEffect 900 30600 full)).strike.openedElapsed = 900 ∧
      (surgeTriggerEffect 2100 46000 (slewTriggerEffect 900 30600 full)).strike.triggers = 2 := by
  decide +kernel

/-- Chapter 13: the change accepted at R0 + 300 ns applies at R1, where 10,462 + 32 bytes are cut to 4,000; at R2 32 are added. -/
def shaped : Shaper := { en := true, rate := 1000000, burst := 16000, tokens := 10462000000, next := some (true, 250000, 4000, 300) }
theorem test_shaper_change :
    (refillShaper 1024 shaped).tokens = 4000000000 ∧
      (refillShaper 2048 { refillShaper 1024 shaped with tokens := 2462000000 }).tokens = 2494000000 := by
  decide

/-- A step takes the front command of the queue and leaves the rest. -/
theorem test_step_front :
    step { full with pending := [.cacheExpiry 5, .cacheExpiry 9] } = execCacheExpiry 5 { full with pending := [.cacheExpiry 9] } := rfl

/-! ### States that meet the hypotheses of each statement, clause by clause -/

/-- A KEY_LOAD payload: 16 zero bytes as wrapped key for slot 1, generation 1, with its KEY_CHECK (worked out with another program). -/
def keyLoadBytes : List Byte :=
  enc [(1, 1), (1, 1), (1, 16), (1, 0), (4, 1)] ++
    [188, 137, 50, 83, 229, 230, 250, 191, 105, 215, 180, 41, 23, 25, 100, 226] ++ z 16

/-- The header of a bundle with segments of one byte, of erased flash. -/
def bundleHeader : List Byte :=
  enc [(4, 0x4B5A4231), (2, 1), (2, 0), (4, 0), (1, 0), (1, 3), (2, 0), (4, 512), (4, 1), (4, 513), (4, 1)]

/-- The tag of either segment under a zero key, and of both as a transfer (worked out with another program). -/
def segmentTag : List Byte :=
  [57, 60, 91, 233, 118, 131, 176, 231, 227, 100, 35, 219, 251, 253, 49, 173, 113, 231, 236, 58, 208, 131, 166, 29] ++
    [8, 18, 108, 126, 44, 179, 51, 56, 122, 210, 27, 209, 88, 97, 69, 228, 45, 1, 187, 177, 10, 199, 130, 24]
def transferTag : List Byte :=
  [20, 52, 206, 148, 246, 1, 16, 36, 78, 218, 223, 107, 50, 229, 173, 182, 193, 60, 199, 93, 255, 94, 42, 102] ++
    [192, 102, 70, 67, 207, 190, 200, 204, 211, 131, 250, 233, 57, 107, 137, 125, 75, 141, 29, 42, 42, 156, 136, 109]

/-- A bundle before and after its seal: the tags of the seal are erased flash before it. -/
def sealable : List Byte := bundleHeader ++ List.replicate 96 0xFF ++ transferTag ++ [0]
def sealedBank : List Byte := bundleHeader ++ segmentTag ++ segmentTag ++ transferTag ++ [0]

/-- A frame of 64 bytes with its FCS. -/
def frame64 : List Byte := z 60 ++ fcsOf (z 60)

/-- A sweep in which every eye is open. -/
def sweeps : List LaneSweep := List.replicate 5 (List.replicate 64 (BitVec.allOnes 128), List.replicate 64 (BitVec.allOnes 128))

theorem witness_MailboxCommandsSucceed :
    Meets .sessionClose .sessionClose noPayload (ask ([])) full ∧
    Meets .sessionStatus .sessionStatus noPayload (ask ([])) full ∧
    Meets .identityGet .identityGet noPayload (ask ([])) full ∧
    Meets .eventAck .eventAck noPayload (ask ([])) full ∧
    Meets .eventFetch .eventFetch (fun q u => q.payload.length = 4 ∧ 1 ≤ f2 q.payload 2 ∧ f2 q.payload 2 ≤ 64 ∧ seqDist u.kmp.eventSeq (f2
      q.payload 0) < 32768) (ask (enc [(2, 0), (2, 64)])) full ∧
    Meets .eventConfigSet .eventConfigSet (fun q _ => q.payload.length = 8 ∧ f2 q.payload 2 ≤ 64 ∧ 500 ≤ f2 q.payload 4 ∧ f2 q.payload 4 ≤
      60000) (ask (enc [(2, 0), (2, 64), (2, 500), (2, 0)])) full ∧
    Meets .transportConfigSet .transportConfigSet (fun q _ => q.payload.length = 16 ∧ transportFieldsOk q.payload) (ask (enc [(4, 1200),
      (4, 921600), (2, 1), (1, 5), (1, 0), (2, 10), (2, 0)])) full ∧
    Meets .transportConfigGet .transportConfigGet noPayload (ask ([])) full :=
  ⟨by unfold noPayload; decide +kernel,
    by unfold noPayload; decide +kernel,
    by unfold noPayload; decide +kernel,
    by unfold noPayload; decide +kernel,
    by decide +kernel,
    by decide +kernel,
    by decide +kernel,
    by unfold noPayload; decide +kernel⟩

theorem witness_SessionOpenMakesSession :
    ∃ q s, opening q s = true ∧ q.payload.length = 20 ∧ openFieldsOk q = true ∧ openSlotOk q (entered .sessionOpen q s) = true ∧
      (q.auth || !bitOf (entered .sessionOpen q s).kmp.authRequired (transportAuthBit q.transport)) = true ∧
      openRoleFree q (entered .sessionOpen q s) = true ∧ openCount q (entered .sessionOpen q s) < 8 :=
  ⟨{ ask (enc [(1, 1), (1, 1), (2, 0), (8, 5), (2, 0xFFFF), (2, 64), (2, 500), (2, 0)]) with session := 0 }, full, by decide +kernel⟩

theorem witness_TimeCommandsSucceed :
    Meets .timeGet .timeGet noPayload (ask ([])) full ∧
    Meets .timeSet .timeSet (fun q u => q.payload.length = 12 ∧ tbFieldOk q.payload 0 ∧ (!isLocked u.tb.quality || bitOf (f1 q.payload 10)
      0)) (ask (z 12)) full ∧
    Meets .timeSourceSet .timeSourceSet (fun q u => q.payload.length = 20 ∧ sourceFieldsOk q.payload ∧ (f1 q.payload 2 = 0xFE ∨ (portOf
      (f1 q.payload 2) u).typ ≠ 0)) (ask (enc [(1, 1), (1, 2), (1, 0xFE), (1, 127), (1, 8), (1, 0), (4, 1000), (2, 500), (4, 60), (4,
      500000)])) full ∧
    Meets .rtcAlarmSet .rtcAlarmSet (fun q u => q.payload.length = 12 ∧ (f4 q.payload 6 = 0 ∨ 60 ≤ f4 q.payload 6 ∧ f4 q.payload 6 ≤
      604800) ∧ (field q.payload 0 6 = 0 ∨ rtcSeconds u < field q.payload 0 6)) (ask (z 12)) full ∧
    (∃ n, Meets .timerClaim .timerClaim (fun q u => q.payload.length = 22 ∧ tbFieldOk q.payload 4 ∧ (f1 q.payload 0 ≤ 7 ∨ f1 q.payload 0 =
      0xFF) ∧ (f8 q.payload 14 = 0 ∨ 1000 ≤ f8 q.payload 14 ∧ f8 q.payload 14 ≤ 10 ^ 12) ∧ grantTimer (f1 q.payload 0) u = some n) (ask
      (enc [(1, 7), (3, 0)] ++ z 18)) full) ∧
    Meets .timerRelease .timerRelease (fun q u => q.payload.length = 1 ∧ f1 q.payload 0 ≤ 7 ∧ ((timerOf (f1 q.payload 0) u).owner = .free
      ∨ (timerOf (f1 q.payload 0) u).owner = .kmp)) (ask (enc [(1, 7)])) full ∧
    Meets .timerStatusGet .timerStatusGet noPayload (ask ([])) full :=
  ⟨by unfold noPayload; decide +kernel,
    by decide +kernel,
    by decide +kernel,
    by decide +kernel,
    ⟨7, by decide +kernel⟩,
    by decide +kernel,
    by unfold noPayload; decide +kernel⟩

theorem witness_FlashCommandsSucceed :
    Meets .bankErase (fun q => .bankErase q true) (fun q u => q.payload.length = 4 ∧ f1 q.payload 0 ≤ 1 ∧ (u.boot.recovery ∨ u.boot.bankB
      ≠ bankNum q)) (ask (enc [(1, 1), (3, 0)])) full ∧
    Meets .bankWrite (fun q => .bankWrite q true) (fun q u => q.payload.length = 8 + f2 q.payload 2 ∧ 1 ≤ f2 q.payload 2 ∧ f2 q.payload 2
      ≤ 1024 ∧ f1 q.payload 0 ≤ 1 ∧ (u.boot.recovery ∨ u.boot.bankB ≠ bankNum q) ∧ f4 q.payload 4 + f2 q.payload 2 ≤ 0x400000 ∧ progCheck
      (bankBase (bankNum q) + f4 q.payload 4) (q.payload.drop 8) u = .done) (ask (enc [(1, 1), (1, 0), (2, 1), (4, 0x3FFFFF), (1, 5)]))
      full ∧
    Meets .bankWrite (fun q => .bankWrite q true) (fun q u => q.payload.length = 8 + f2 q.payload 2 ∧ 1 ≤ f2 q.payload 2 ∧ f2 q.payload 2
      ≤ 1024 ∧ f1 q.payload 0 ≤ 1 ∧ (u.boot.recovery ∨ u.boot.bankB ≠ bankNum q) ∧ f4 q.payload 4 + f2 q.payload 2 ≤ 0x400000 ∧ progCheck
      (bankBase (bankNum q) + f4 q.payload 4) (q.payload.drop 8) u = .same) (ask (enc [(1, 1), (1, 0), (2, 1), (4, 0), (1, 0xFF)])) full ∧
    Meets .bankSeal (fun q => .bankSeal q true) (fun q u => q.payload.length = 4 ∧ f1 q.payload 0 ≤ 1 ∧ (u.boot.recovery ∨ u.boot.bankB ≠
      bankNum q) ∧ headerOk (bankHeader (bankNum q) u) ∧ revisionOk (bankHeader (bankNum q) u) u ∧ transferOk (bankNum q) u ∧ bankBad
      (bankNum q) (dirOf u) = false ∧ progCheck (bankBase (bankNum q) + 32) (sealTags (bankNum q) (countCompare true u)) (countCompare
      true u) = .done) (ask (enc [(1, 1), (3, 0)])) ({ full with flash := Mem.write 0xFF [] 0x500000 sealable }) ∧
    Meets .bankSelect (fun q => .bankSelect q true) (fun q u => q.payload.length = 4 ∧ f1 q.payload 0 ≤ 1 ∧ 1 ≤ f1 q.payload 1 ∧ f1
      q.payload 1 ≤ 8 ∧ bankSealed (bankNum q) u ∧ bankBad (bankNum q) (dirOf u) = false ∧ listsBaseline (bankHeader (bankNum q) u) (if
      (dirOf u).baseline = 2 then 2 else 1)) (ask (enc [(1, 1), (1, 8), (2, 0)]))
      ({ full with flash := Mem.write 0xFF [] 0x500000 sealedBank }) ∧
    Meets .bankConfirm (fun q => .bankConfirm q true) (fun q u => q.payload = [] ∧ onTrial u) (ask ([]))
      ({ full with boot := { full.boot with trial := true, dir := some ⟨1, false, true, false, false, false, 3, 1, 1, 0⟩ } }) ∧
    Meets .baselineSet (fun q => .baselineSet q true) (fun q u => q.payload.length = 4 ∧ underSlot0 q u ∧ 1 ≤ f1 q.payload 0 ∧ bitOf (if
      u.ident.revB then 3 else 1) (f1 q.payload 0 - 1) ∧ bundlesList (f1 q.payload 0) u) (ask (enc [(1, 1), (3, 0)])) full ∧
    Meets .recordErase (fun q => .recordErase q true) (fun q u => q.payload.length = 4 ∧ f1 q.payload 0 ≤ 1 ∧ underSlot0 q u ∧ configValid
      u = false ∧ u.kmp.stage = none) (ask (enc [(1, 1), (3, 0)])) watch ∧
    Meets .recordWrite (fun q => .recordWrite q true) (fun q u => q.payload.length = 8 + f2 q.payload 2 ∧ 1 ≤ f2 q.payload 2 ∧ f2
      q.payload 2 ≤ 1024 ∧ f1 q.payload 0 ≤ 1 ∧ underSlot0 q u ∧ configValid u = false ∧ u.kmp.stage = none ∧ f4 q.payload 4 + f2
      q.payload 2 ≤ 0x2000000 ∧ slotRecord (f1 q.payload 0) u = none ∧ progCheck (slotBase (f1 q.payload 0) + f4 q.payload 4)
      (q.payload.drop 8) u = .done) (ask (enc [(1, 1), (1, 0), (2, 1), (4, 0x1FFFFFF), (1, 5)])) watch :=
  ⟨by decide +kernel,
    by decide +kernel,
    by decide +kernel,
    by decide +kernel,
    by decide +kernel,
    by decide +kernel,
    by decide +kernel,
    by decide +kernel,
    by decide +kernel⟩

theorem witness_BootCommandsSucceed :
    Meets .bootStatusGet .bootStatusGet noPayload (ask ([])) full ∧
    Meets .baselineGet .baselineGet noPayload (ask ([])) full ∧
    Meets .siteLabelSet .siteLabelSet (fun q _ => q.payload.length = 64) (ask (z 64))
      ({ full with boot := { full.boot with baseline := 2 } }) ∧
    Meets .siteLabelGet .siteLabelGet noPayload (ask ([])) ({ full with boot := { full.boot with baseline := 2 } }) ∧
    (∃ q s, admitted .restart q s = true ∧ q.payload.length = 4 ∧ f4 q.payload 0 = (entered .restart q s).boot.bootCount) :=
  ⟨by unfold noPayload; decide +kernel,
    by unfold noPayload; decide +kernel,
    by decide +kernel,
    by unfold noPayload; decide +kernel,
    ⟨ask (z 4), full, by decide +kernel⟩⟩

theorem witness_StageCommandsSucceed :
    Meets .stageOpen .stageOpen (fun q u => q.payload.length = 12 + 8 * f1 q.payload 8 ∧ 1 ≤ f1 q.payload 8 ∧ f1 q.payload 8 ≤ 32 ∧ f4
      q.payload 0 ≠ 0 ∧ u.kmp.stage = none ∧ ((parts q.payload 12 8 (f1 q.payload 8)).all fun x => itemTypeOk (f2 x 0)) ∧ ((parts
      q.payload 12 8 (f1 q.payload 8)).map fun x => f4 x 4).sum ≤ 524288) (ask (enc [(4, 1), (4, 0), (1, 1), (3, 0), (2, 0x0410), (2, 0),
      (4, 524288)])) full ∧
    (∃ g x d, Meets .stageWrite .stageWrite (fun q u => q.payload.length = 12 + f2 q.payload 6 ∧ 1 ≤ f2 q.payload 6 ∧ f2 q.payload 6 ≤
      1268 ∧ u.kmp.stage = some g ∧ g.id = f4 q.payload 0 ∧ g.items[f1 q.payload 4]? = some x ∧ g.phase ≠ .building ∧ f4 q.payload 8 + f2
      q.payload 6 ≤ x.length ∧ chunkInto (f4 q.payload 8) (q.payload.drop 12) x = some d) (ask (enc [(4, 1), (1, 0), (1, 0), (2, 1), (4,
      0), (1, 9)])) ({ full with kmp := { full.kmp with stage := some ⟨1, 0, [⟨0x0410, 100, [], .incomplete, none⟩], .opened⟩ } })) ∧
    (∃ g, Meets .stageVerify .stageVerify (fun q u => q.payload.length = 4 ∧ u.kmp.stage = some g ∧ g.id = f4 q.payload 0 ∧ g.phase ≠
      .building ∧ ((stageReports g u).all fun x => decide (x = .verified))) (ask (enc [(4, 1)]))
      ({ full with kmp := { full.kmp with stage := some ⟨1, 0, [⟨0x0810, 32, enc [(4, 0), (4, 16), (8, 0)] ++ z 12 ++ enc [(2, 3600), (2, 0)], .verified, none⟩], .verified⟩ } }))
      ∧
    (∃ g, Meets .stageCommit .stageCommit (fun q u => q.payload.length = 16 ∧ u.kmp.stage = some g ∧ g.id = f4 q.payload 0 ∧ tbFieldOk
      q.payload 4 ∧ g.phase ≠ .opened ∧ g.base = sequenceInForce u ∧ u.kmp.building = none ∧ u.kmp.committed = none ∧ (tbField q.payload 4
      = 0 ∨ u.tb.now < tbField q.payload 4)) (ask (enc [(4, 1), (4, 0), (4, 0), (4, 0)]))
      ({ full with kmp := { full.kmp with stage := some ⟨1, 0, [⟨0x0810, 32, enc [(4, 0), (4, 16), (8, 0)] ++ z 12 ++ enc [(2, 3600), (2, 0)], .verified, none⟩], .verified⟩ } }))
      ∧
    (∃ c, Meets .commitCancel .commitCancel (fun q u => q.payload.length = 4 ∧ u.kmp.committed = some c ∧ c.stageId = f4 q.payload 0 ∧
      commitDue c u = false) (ask (enc [(4, 1)]))
      ({ full with kmp := { full.kmp with committed := some ⟨1, 7, 1, 5000000000, 0, [], 0, false⟩ } })) ∧
    (∃ g, Meets .stageCancel .stageCancel (fun q u => q.payload.length = 4 ∧ u.kmp.stage = some g ∧ g.id = f4 q.payload 0 ∧ g.phase ≠
      .building) (ask (enc [(4, 1)]))
      ({ full with kmp := { full.kmp with stage := some ⟨1, 0, [⟨0x0410, 100, [], .incomplete, none⟩], .opened⟩ } })) :=
  ⟨by decide +kernel,
    ⟨⟨1, 0, [⟨0x0410, 100, [], .incomplete, none⟩], .opened⟩, ⟨0x0410, 100, [], .incomplete, none⟩, [9], by decide +kernel⟩,
    ⟨⟨1, 0, [⟨0x0810, 32, enc [(4, 0), (4, 16), (8, 0)] ++ z 12 ++ enc [(2, 3600), (2, 0)], .verified, none⟩], .verified⟩, by decide +kernel⟩,
    ⟨⟨1, 0, [⟨0x0810, 32, enc [(4, 0), (4, 16), (8, 0)] ++ z 12 ++ enc [(2, 3600), (2, 0)], .verified, none⟩], .verified⟩, by decide +kernel⟩,
    ⟨⟨1, 7, 1, 5000000000, 0, [], 0, false⟩, by decide +kernel⟩,
    ⟨⟨1, 0, [⟨0x0410, 100, [], .incomplete, none⟩], .opened⟩, by decide +kernel⟩⟩

theorem witness_SupplyCommandsSucceed :
    Meets .modeGet .modeGet noPayload (ask ([])) full ∧
    Meets .modeSet .modeSet (fun q u => q.payload.length = 4 ∧ f1 q.payload 0 ≤ 3 ∧ (effMode u = .freeze → f1 q.payload 0 < 2) ∧ (f1
      q.payload 0 = 0 → u.wake.sources ≠ 0) ∧ (f1 q.payload 0 ≤ rank (effMode u) ∨ onMv (f1 q.payload 0) u ≤ vinEff u)) (ask (enc [(1, 3),
      (3, 0)])) full ∧
    Meets .modeConfigSet .modeConfigSet (fun q u => q.payload.length = 28 ∧ f1 q.payload 0 ≤ 3 ∧ f1 q.payload 19 ≤ 8 ∧ thresholdsOk
      (newThresholds q.payload u.sup.th) ∧ 1 ≤ orKeep (f2 q.payload 14) u.sup.rideMs ∧ orKeep (f2 q.payload 14) u.sup.rideMs ≤ 1000 ∧ 1 ≤
      orKeep (f2 q.payload 16) u.sup.dwellS ∧ orKeep (f2 q.payload 16) u.sup.dwellS ≤ 3600 ∧ (newKeepPorts q.payload).all (keepPortOk u))
      (ask (z 28)) full ∧
    Meets .modeConfigGet .modeConfigGet noPayload (ask ([])) full ∧
    Meets .wakeConfigSet .wakeConfigSet (fun q u => q.payload.length = 4 ∧ f1 q.payload 1 ≤ 1 ∧ masksOutput (f1 q.payload 2) u = false ∧
      masksOutput (f1 q.payload 3) u = false) (ask (z 4)) full ∧
    Meets .strikeConfigSet .strikeConfigSet (fun q _ => q.payload.length = 8 ∧ 41000 ≤ f2 q.payload 0 ∧ f2 q.payload 0 ≤ 58000 ∧ 500 ≤ f2
      q.payload 2 ∧ f2 q.payload 2 ≤ 20000 ∧ 10 ≤ f2 q.payload 4 ∧ f2 q.payload 4 ≤ 10000) (ask (enc [(2, 58000), (2, 500), (2, 10000),
      (1, 7), (1, 0)])) full ∧
    Meets .strikeStatusGet .strikeStatusGet noPayload (ask ([])) full :=
  ⟨by unfold noPayload; decide +kernel,
    by decide +kernel,
    by decide +kernel,
    by unfold noPayload; decide +kernel,
    by decide +kernel,
    by decide +kernel,
    by unfold noPayload; decide +kernel⟩

theorem witness_LaneCommandsSucceed :
    Meets .laneConfigSet .laneConfigSet (fun q _ => q.payload.length = 16 ∧ f1 q.payload 0 ≤ 143 ∧ laneCfgOk q.payload) (ask (enc [(1,
      143), (1, 4), (1, 15), (1, 3), (4, 0), (2, 500), (2, 1), (4, 0)])) full ∧
    Meets .laneConfigGet .laneConfigGet (fun q _ => q.payload.length = 4 ∧ f1 q.payload 0 ≤ 143) (ask (enc [(1, 143), (3, 0)])) full ∧
    Meets .laneStatusGet .laneStatusGet (fun q _ => q.payload.length = 4 ∧ f1 q.payload 0 ≤ 143) (ask (enc [(1, 143), (3, 0)])) full ∧
    Meets .laneSleepSet .laneSleepSet (fun q u => q.payload.length = 4 ∧ f1 q.payload 0 ≤ 143 ∧ f1 q.payload 1 ≤ 3 ∧ f1 q.payload 2 ≤ 3 ∧
      (laneOf (f1 q.payload 0) u).owner ≠ .causeway ∧ (laneOf (f1 q.payload 0) u).owner ≠ .none) (ask (enc [(1, 0), (1, 3), (1, 3), (1,
      0)])) (laneIs 0 { owner := .test } full) ∧
    Meets .laneTestSet .laneTestSet (fun q u => q.payload.length = 8 ∧ f1 q.payload 0 ≤ 143 ∧ f1 q.payload 1 = 0 ∧ testFieldsOk q.payload
      ∧ (laneOf (f1 q.payload 0) u).owner ≠ .ethernet ∧ (laneOf (f1 q.payload 0) u).owner ≠ .causeway ∧ patternSuits (f1 q.payload 3) (f1
      q.payload 2) ∧ patternSuits (f1 q.payload 4) (f1 q.payload 2) ∧ ¬ (f1 q.payload 5 = 2 ∧ f1 q.payload 3 ≠ 0) ∧ ¬ (u.sup.mode = .keep
      ∧ u.clk.laneRefs.contains (laneGroup (f1 q.payload 0)) = false)) (ask (enc [(1, 0), (1, 0), (1, 1), (1, 1), (1, 1), (3, 0)])) full ∧
    Meets .laneTestSet .laneTestSet (fun q u => q.payload.length = 8 ∧ f1 q.payload 0 ≤ 143 ∧ f1 q.payload 1 = 1 ∧ (laneOf (f1 q.payload
      0) u).owner = .test) (ask (enc [(1, 0), (1, 1), (6, 0)])) (laneIs 0 { owner := .test } full) ∧
    (∃ errs struck, Meets .lanePrbsGet (fun q => .lanePrbsGet q errs struck) (fun q _ => q.payload.length = 4 ∧ f1 q.payload 0 ≤ 143) (ask
      (z 4)) full) ∧
    Meets .laneEyeStart .laneEyeStart (fun q u => q.payload.length = 4 ∧ f1 q.payload 0 ≤ 143 ∧ u.lanes.scan = none ∧ (laneOf (f1
      q.payload 0) u).rx = .active ∧ (laneOf (f1 q.payload 0) u).cdr ∧ 6 ≤ f1 q.payload 1 ∧ f1 q.payload 1 ≤ 9) (ask (enc [(1, 143), (1,
      9), (2, 0)])) (laneIs 143 { rx := .active, cdr := true } full) ∧
    Meets .laneEyeGet .laneEyeGet (fun q _ => q.payload.length = 4 ∧ f1 q.payload 0 ≤ 143) (ask (z 4)) full :=
  ⟨by decide +kernel,
    by decide +kernel,
    by decide +kernel,
    by decide +kernel,
    by decide +kernel,
    by decide +kernel,
    ⟨0, 0, by decide +kernel⟩,
    by decide +kernel,
    by decide +kernel⟩

theorem witness_PortCommandsSucceed :
    Meets .portForm .portForm (fun q u => q.payload.length = 16 ∧ f1 q.payload 0 ≤ 127 ∧ (f1 q.payload 1 = 0 ∨ f1 q.payload 0 % typeLanes
      (f1 q.payload 1) = 0 ∧ portFieldsOk q.payload) ∧ ((wantedLanes (f1 q.payload 0) (f1 q.payload 1)).all fun l => !laneTaken (f1
      q.payload 0) l u) ∧ (u.sup.keepPorts.contains (f1 q.payload 0) → f1 q.payload 1 = 1 ∨ f1 q.payload 1 = 2)) (ask (enc [(1, 124), (1,
      5), (1, 0), (1, 0), (2, 10240), (2, 1000), (2, 0), (6, 0)])) full ∧
    Meets .portStatusGet .portStatusGet (fun q _ => q.payload.length = 4 ∧ f1 q.payload 0 ≤ 127) (ask (enc [(1, 127), (3, 0)])) full ∧
    Meets .m0ConfigSet .m0ConfigSet (fun q _ => q.payload.length = 48 ∧ m0CfgOk (m0CfgOf q.payload) ∧ q.transport ≠ .m0) (ask (z 48)) full ∧
    Meets .m0ConfigSet .m0ConfigSet (fun q _ => q.payload.length = 48 ∧ m0CfgOk (m0CfgOf q.payload) ∧ q.transport = .m0)
      ({ ask (z 48) with transport := .m0 }) full ∧
    Meets .m0ConfigGet .m0ConfigGet noPayload (ask ([])) full ∧
    Meets .opticsMapSet .opticsMapSet (fun q u => q.payload.length = 8 ∧ f1 q.payload 0 ≤ 127 ∧ mapFieldsOk q.payload ∧ mapDuplicate
      q.payload u = false) (ask (enc [(1, 127), (1, 3), (1, 0x77), (1, 7), (4, 0)])) full ∧
    (∃ d, Meets .opticsRead (fun q => .opticsRead q (.ok d)) (fun q u => q.payload.length = 4 ∧ f1 q.payload 0 ≤ 127 ∧ opticsRangeOk (f1
      q.payload 2) (f1 q.payload 3) ∧ (cageOf (f1 q.payload 0) u).mapped) (ask (enc [(1, 127), (1, 0), (1, 127), (1, 1)])) (cageIs 127
      { mapped := true } full)) ∧
    (∃ d, Meets .opticsWrite (fun q => .opticsWrite q (.ok d)) (fun q u => q.payload.length = 4 + f1 q.payload 3 ∧ f1 q.payload 0 ≤ 127 ∧
      opticsRangeOk (f1 q.payload 2) (f1 q.payload 3) ∧ (cageOf (f1 q.payload 0) u).mapped ∧ managedBytes q.payload u = false) (ask (enc
      [(1, 127), (1, 0), (1, 27), (1, 1), (1, 9)])) (cageIs 127 { mapped := true } full)) :=
  ⟨by decide +kernel,
    by decide +kernel,
    by decide +kernel,
    by decide +kernel,
    by unfold noPayload; decide +kernel,
    by decide +kernel,
    ⟨[5], by decide +kernel⟩,
    ⟨[], by decide +kernel⟩⟩

theorem witness_CausewayCommandsSucceed :
    Meets .cwLinkSet .cwLinkSet (fun q u => q.payload.length = 20 ∧ f1 q.payload 0 ≤ 143 ∧ f1 q.payload 1 = 0 ∧ (laneOf (f1 q.payload 0)
      u).owner ≠ .ethernet ∧ (laneOf (f1 q.payload 0) u).owner ≠ .test ∧ ¬ (u.span.state ≠ .off ∧ spanLane (f1 q.payload 0) u) ∧
      cwFieldsOk q.payload ∧ holdSpaceOk (f1 q.payload 0) (withCwSettings q.payload (linkOf (f1 q.payload 0) u)) u) (ask (z 20)) full ∧
    Meets .cwLinkSet .cwLinkSet (fun q u => q.payload.length = 20 ∧ f1 q.payload 0 ≤ 143 ∧ f1 q.payload 1 = 1 ∧ (laneOf (f1 q.payload 0)
      u).owner ≠ .ethernet ∧ (laneOf (f1 q.payload 0) u).owner ≠ .test ∧ ¬ (u.span.state ≠ .off ∧ spanLane (f1 q.payload 0) u)) (ask (enc
      [(1, 127), (1, 1), (18, 0)])) full ∧
    Meets .cwLinkStatusGet .cwLinkStatusGet (fun q u => q.payload.length = 4 ∧ f1 q.payload 0 ≤ 143 ∧ (laneOf (f1 q.payload 0) u).owner =
      .causeway) (ask (enc [(1, 143), (3, 0)])) (laneIs 143 { owner := .causeway } (linkIs 143 { formed := true } full)) ∧
    Meets .cwCountersGet .cwCountersGet (fun q u => q.payload.length = 4 ∧ f1 q.payload 0 ≤ 143 ∧ (laneOf (f1 q.payload 0) u).owner =
      .causeway) (ask (enc [(1, 143), (3, 0)])) (laneIs 143 { owner := .causeway } (linkIs 143 { formed := true } full)) ∧
    Meets .cwFlush .cwFlush (fun q u => q.payload.length = 4 ∧ f1 q.payload 0 ≤ 143 ∧ (laneOf (f1 q.payload 0) u).owner = .causeway ∧
      ((linkOf (f1 q.payload 0) u).state = .up ∨ (linkOf (f1 q.payload 0) u).state = .hold)) (ask (enc [(1, 143), (3, 0)])) (laneIs 143
      { owner := .causeway } (linkIs 143 { formed := true, state := .up } full)) :=
  ⟨by decide +kernel,
    by decide +kernel,
    by decide +kernel,
    by decide +kernel,
    by decide +kernel⟩

theorem witness_ForwardingCommandsSucceed :
    Meets .fwdConfigSet .fwdConfigSet (fun q _ => q.payload.length = 144 ∧ fwdFieldsOk q.payload) (ask (enc [(1, 255), (1, 0), (2, 0), (4,
      983040), (4, 10), (4, 0)] ++ (List.replicate 16 (enc [(6, 0), (2, 0xFFFF)])).flatten)) full ∧
    Meets .fwdConfigGet .fwdConfigGet noPayload (ask ([])) full ∧
    Meets .vlanSet .vlanSet (fun q _ => q.payload.length = 36 ∧ 1 ≤ f2 q.payload 0 ∧ f2 q.payload 0 ≤ 4094 ∧ field q.payload 20 16 &&&
      field q.payload 4 16 = field q.payload 20 16) (ask (enc [(2, 4094)] ++ z 34)) full ∧
    Meets .portLearnSet .portLearnSet (fun q _ => q.payload.length = 4 ∧ f1 q.payload 0 ≤ 127) (ask (enc [(1, 127), (3, 0)])) full ∧
    (∃ k, Meets .bridgeEntrySet .bridgeEntrySet (fun q u => q.payload.length = 16 ∧ f1 q.payload 0 = 0 ∧ 1 ≤ f2 q.payload 2 ∧ f2 q.payload
      2 ≤ 4094 ∧ field q.payload 4 6 ≠ 0 ∧ resultOk u (f4 q.payload 10) ∧ bridgeFind u.fwd.live (f2 q.payload 2) (field q.payload 4 6) =
      none ∧ freeWay (f2 q.payload 2) (field q.payload 4 6) u = some k) (ask (enc [(1, 0), (1, 1), (2, 4094), (6, 5), (4, 127), (2, 0)]))
      full) ∧
    (∃ k e, Meets .bridgeEntrySet .bridgeEntrySet (fun q u => q.payload.length = 16 ∧ f1 q.payload 0 = 1 ∧ 1 ≤ f2 q.payload 2 ∧ f2
      q.payload 2 ≤ 4094 ∧ field q.payload 4 6 ≠ 0 ∧ bridgeFind u.fwd.live (f2 q.payload 2) (field q.payload 4 6) = some (k, e) ∧ e.image
      = false) (ask (enc [(1, 1), (1, 0), (2, 4094), (6, 5), (4, 0), (2, 0)]))
      ({ full with fwd := { full.fwd with live := { full.fwd.live with bridge := [(bridgeBucket 4094 5 * 8, (some ⟨4094, 5, true, false, false, 0, 0, false⟩))] } } }))
      ∧
    Meets .bridgeFlush .bridgeFlush (fun q u => q.payload.length = 4 ∧ (f1 q.payload 0 ≤ 127 ∨ f1 q.payload 0 = 0xFF ∨ u.span.spanPorts) ∧
      f2 q.payload 2 ≤ 4094) (ask (enc [(1, 127), (1, 0), (2, 4094)])) full ∧
    Meets .tableLookup .tableLookup (fun q _ => q.payload.length = 24 ∧ 1 ≤ f1 q.payload 0 ∧ f1 q.payload 0 ≤ 8 ∧ (f1 q.payload 0 = 2 ∨ f1
      q.payload 0 = 4 → f1 q.payload 4 = 4 ∨ f1 q.payload 4 = 6)) (ask (enc [(1, 8)] ++ z 23)) full ∧
    Meets .tableStatusGet .tableStatusGet noPayload (ask ([])) full :=
  ⟨by decide +kernel,
    by unfold noPayload; decide +kernel,
    by decide +kernel,
    by decide +kernel,
    ⟨bridgeBucket 4094 5 * 8, by decide +kernel⟩,
    ⟨bridgeBucket 4094 5 * 8, ⟨4094, 5, true, false, false, 0, 0, false⟩, by decide +kernel⟩,
    by decide +kernel,
    by decide +kernel,
    by unfold noPayload; decide +kernel⟩

theorem witness_ClassificationCommandsSucceed :
    Meets .parseConfigSet .parseConfigSet (fun q _ => q.payload.length = 140 ∧ parseCfgOk (parseCfgOf q.payload)) (ask (z 140)) full ∧
    Meets .parseConfigGet .parseConfigGet noPayload (ask ([])) full ∧
    Meets .portClassSet .portClassSet (fun q _ => q.payload.length = 48 ∧ f1 q.payload 0 ≤ 127 ∧ portClassOk q.payload) (ask (enc [(1,
      127), (3, 0), (2, 4094)] ++ z 42)) full ∧
    Meets .portClassGet .portClassGet (fun q _ => q.payload.length = 4 ∧ f1 q.payload 0 ≤ 127) (ask (enc [(1, 127), (3, 0)])) full ∧
    Meets .searchBankSet .searchBankSet (fun q u => q.payload.length = 4 ∧ bankFieldsOk q.payload ∧ (bankOf (f1 q.payload 0) u).reserved =
      false ∧ profileInList q.payload u = false ∧ (f1 q.payload 2 = 0xFF ∨ f1 q.payload 1 ≠ 0 ∧ rankTaken (f1 q.payload 0) (f1 q.payload
      2) (f1 q.payload 3) u = false)) (ask (enc [(1, 31), (1, 1), (1, 3), (1, 31)]))
      ({ full with cls := { full.cls with bank := [(31, { profile := 1 })] } }) ∧
    Meets .searchWrite .searchWrite (fun q u => f1 q.payload 0 ≤ 31 ∧ (bankOf (f1 q.payload 0) u).profile ≠ 0 ∧ f2 q.payload 2 <
      bankEntries (bankOf (f1 q.payload 0) u).profile ∧ q.payload.length = 8 + 20 * profileUnits (bankOf (f1 q.payload 0) u).profile ∧
      actionOk (f2 q.payload 4) ∧ (bankOf (f1 q.payload 0) u).reserved = false) (ask (enc [(1, 31), (1, 0), (2, 511), (2, 0), (2, 0)] ++ z
      40)) ({ full with cls := { full.cls with bank := [(31, { profile := 1 })] } }) ∧
    (∃ f, Meets .searchInsert .searchInsert (fun q u => f1 q.payload 0 ≤ 31 ∧ (bankOf (f1 q.payload 0) u).profile ≠ 0 ∧ f2 q.payload 2 <
      bankEntries (bankOf (f1 q.payload 0) u).profile ∧ q.payload.length = 8 + 20 * profileUnits (bankOf (f1 q.payload 0) u).profile ∧
      actionOk (f2 q.payload 4) ∧ bitOf (f2 q.payload 4) 0 ∧ (bankOf (f1 q.payload 0) u).reserved = false ∧ firstInvalid (bankOf (f1
      q.payload 0) u) (f2 q.payload 2) = some f) (ask (enc [(1, 31), (1, 0), (2, 511), (2, 1), (2, 0)] ++ z 40))
      ({ full with cls := { full.cls with bank := [(31, { profile := 1 })] } })) ∧
    Meets .searchRead .searchRead (fun q u => q.payload.length = 4 ∧ f1 q.payload 0 ≤ 31 ∧ (bankOf (f1 q.payload 0) u).profile ≠ 0 ∧ f2
      q.payload 2 < bankEntries (bankOf (f1 q.payload 0) u).profile) (ask (enc [(1, 31), (1, 0), (2, 511)]))
      ({ full with cls := { full.cls with bank := [(31, { profile := 1 })] } }) ∧
    Meets .meterSet .meterSet (fun q _ => q.payload.length = 20 ∧ f2 q.payload 0 ≤ 16383 ∧ meterCfgOk (meterCfgOf q.payload)) (ask (enc
      [(2, 16383), (1, 0), (1, 0), (4, 8), (4, 0), (4, 64), (4, 0)])) full ∧
    Meets .meterGet .meterGet (fun q _ => q.payload.length = 4 ∧ f2 q.payload 0 ≤ 16383) (ask (enc [(2, 16383), (2, 0)])) full ∧
    Meets .puntConfigSet .puntConfigSet (fun q _ => q.payload.length = 68 ∧ puntOk q.payload) (ask ((List.replicate 8 (enc [(4, 1000), (2,
      4096), (2, 0)])).flatten ++ enc [(2, 200), (2, 0)])) full ∧
    Meets .fragStatusGet .fragStatusGet noPayload (ask ([])) full :=
  ⟨by decide +kernel,
    by unfold noPayload; decide +kernel,
    by decide +kernel,
    by decide +kernel,
    by decide +kernel,
    by decide +kernel,
    ⟨511, by decide +kernel⟩,
    by decide +kernel,
    by decide +kernel,
    by decide +kernel,
    by decide +kernel,
    by unfold noPayload; decide +kernel⟩

theorem witness_EgressCommandsSucceed :
    Meets .deckQueueSet .deckQueueSet (fun q _ => q.payload.length = 8 ∧ f1 q.payload 0 ≤ 127 ∧ deckQueueOk q.payload) (ask (enc [(1,
      127), (1, 0xFF), (1, 3), (1, 0), (2, 16384), (2, 0)])) full ∧
    Meets .deckQueueGet .deckQueueGet (fun q _ => q.payload.length = 4 ∧ f1 q.payload 0 ≤ 127 ∧ f1 q.payload 1 ≤ 7) (ask (enc [(1, 127),
      (1, 7), (2, 0)])) full ∧
    Meets .deckStatusGet .deckStatusGet (fun q _ => q.payload.length = 4 ∧ f1 q.payload 0 ≤ 7) (ask (enc [(1, 7), (3, 0)])) full ∧
    Meets .trussStatusGet .trussStatusGet noPayload (ask ([])) full ∧
    Meets .egressConfigSet .egressConfigSet (fun q _ => q.payload.length = 8 ∧ 10 ≤ f4 q.payload 4 ∧ f4 q.payload 4 ≤ 1000000) (ask (enc
      [(4, 0), (4, 1000000)])) full ∧
    Meets .egressConfigGet .egressConfigGet noPayload (ask ([])) full ∧
    Meets .schedSet .schedSet (fun q _ => q.payload.length = 140 ∧ f1 q.payload 0 ≤ 127 ∧ schedOk q.payload) (ask (enc [(1, 127), (3, 0),
      (4, 64), (4, 64)] ++ (List.replicate 8 (enc [(1, 0), (1, 1), (2, 0), (4, 64), (4, 64), (4, 0)])).flatten)) full ∧
    Meets .schedGet .schedGet (fun q _ => q.payload.length = 4 ∧ f1 q.payload 0 ≤ 127) (ask (enc [(1, 127), (3, 0)])) full ∧
    Meets .gateListSet .gateListSet (fun q u => f1 q.payload 0 ≤ 127 ∧ isTrunk (f1 q.payload 0) u = false ∧ gateParamOk q.payload ∧ f1
      q.payload 1 ≠ 1 ∧ tbFieldOk q.payload 8 ∧ tbFieldOk q.payload 18 ∧ ((egressOf (f1 q.payload 0) u).pend.all fun d => !d.fromCommit) ∧
      (tbField q.payload 18 = 0 ∨ u.tb.now < tbField q.payload 18)) (ask (enc [(1, 127), (1, 0), (2, 1), (4, 1000), (10, 0), (10, 0), (4,
      0), (1, 1), (3, 500)])) full ∧
    Meets .gateListSet .gateListSet (fun q u => f1 q.payload 0 ≤ 127 ∧ isTrunk (f1 q.payload 0) u = false ∧ gateParamOk q.payload ∧ f1
      q.payload 1 = 1 ∧ tbFieldOk q.payload 8 ∧ tbFieldOk q.payload 18 ∧ ((egressOf (f1 q.payload 0) u).pend.any fun d => !d.fromCommit) ∧
      (tbField q.payload 18 = 0 ∨ u.tb.now < tbField q.payload 18)) (ask (enc [(1, 127), (1, 1), (2, 0), (4, 0), (10, 0), (10, 0), (4,
      0)])) (egressIs 127 { pend := some ⟨none, 5000, false⟩ } full) ∧
    (∃ l, Meets .gateListGet .gateListGet (fun q u => q.payload.length = 4 ∧ f1 q.payload 0 ≤ 127 ∧ f1 q.payload 1 = 0 ∧ (egressOf (f1
      q.payload 0) u).list = some l) (ask (enc [(1, 127), (3, 0)])) (egressIs 127 { list := some ⟨[(1, 1000)], 1000, 0, 0⟩ } full)) ∧
    (∃ d, Meets .gateListGet .gateListGet (fun q u => q.payload.length = 4 ∧ f1 q.payload 0 ≤ 127 ∧ f1 q.payload 1 = 1 ∧ (egressOf (f1
      q.payload 0) u).pend = some d) (ask (enc [(1, 127), (1, 1), (2, 0)])) (egressIs 127 { pend := some ⟨none, 5000, false⟩ } full)) ∧
    Meets .gateListGet .gateListGet (fun q u => q.payload.length = 4 ∧ f1 q.payload 0 ≤ 127 ∧ (f1 q.payload 1 = 0 ∧ (egressOf (f1
      q.payload 0) u).list = none ∨ f1 q.payload 1 = 1 ∧ (egressOf (f1 q.payload 0) u).pend = none)) (ask (enc [(1, 127), (1, 1), (2,
      0)])) full ∧
    Meets .queueStatusGet .queueStatusGet (fun q _ => q.payload.length = 4 ∧ f1 q.payload 0 ≤ 127 ∧ f1 q.payload 1 ≤ 7) (ask (enc [(1,
      127), (1, 7), (2, 0)])) full :=
  ⟨by decide +kernel,
    by decide +kernel,
    by decide +kernel,
    by unfold noPayload; decide +kernel,
    by decide +kernel,
    by unfold noPayload; decide +kernel,
    by decide +kernel,
    by decide +kernel,
    by decide +kernel,
    by decide +kernel,
    ⟨⟨[(1, 1000)], 1000, 0, 0⟩, by decide +kernel⟩,
    ⟨⟨none, 5000, false⟩, by decide +kernel⟩,
    by decide +kernel,
    by decide +kernel⟩

theorem witness_SpanCommandsSucceed :
    Meets .spanConfigSet .spanConfigSet (fun q u => q.payload.length = 16 ∧ spanCfgOk (spanCfgOf q.payload) ∧ (spanCfgMoves u.span.cfg
      (spanCfgOf q.payload) = false ∨ u.span.state = .off ∨ u.span.state = .alone)) (ask (enc [(1, 1), (1, 128), (1, 0), (1, 16), (4, 1),
      (2, 0xFFFF), (2, 1000), (2, 2), (2, 0)])) full ∧
    Meets .spanConfigGet .spanConfigGet noPayload (ask ([])) full ∧
    Meets .spanJoin .spanJoin (fun q u => q.payload = [] ∧ u.span.state = .off ∧ u.span.cfg.spanId ≠ 0 ∧ jointHeld u = false) (ask ([]))
      (spanIs { cfg := { spanId := 1 } } full) ∧
    Meets .spanJoin .spanJoin (fun q u => q.payload = [] ∧ u.span.state ≠ .off) (ask ([])) (spanIs { state := .probe } full) ∧
    Meets .spanLeave .spanLeave (fun q u => q.payload = [] ∧ u.span.state ≠ .off) (ask ([])) (spanIs { state := .alone } full) ∧
    Meets .spanLeave .spanLeave (fun q u => q.payload = [] ∧ u.span.state = .off) (ask ([])) full ∧
    Meets .spanStatusGet .spanStatusGet noPayload (ask ([])) full ∧
    Meets .spanTargetSet .spanTargetSet (fun q u => q.payload.length = 4 ∧ spanJoined u ∧ f1 q.payload 0 ≤ 1) (ask (enc [(1, 1), (3, 0)]))
      (spanIs { state := .joined, role := .leader } full) :=
  ⟨by decide +kernel,
    by unfold noPayload; decide +kernel,
    by decide +kernel,
    by decide +kernel,
    by decide +kernel,
    by decide +kernel,
    by unfold noPayload; decide +kernel,
    by decide +kernel⟩

theorem witness_DramCommandsSucceed :
    Meets .dramStatusGet .dramStatusGet noPayload (ask ([])) full ∧
    (∃ r, Meets .dramTrainGet .dramTrainGet (fun q u => q.payload.length = 4 ∧ f1 q.payload 0 ≤ 3 ∧ chPowered (f1 q.payload 0) u ∧ (chan
      (f1 q.payload 0) u).train = some r) (ask (enc [(1, 3), (3, 0)])) (chanIs 3
      { state := .ready, train := some ⟨true, 25, false, 0, []⟩ } full)) ∧
    Meets .dramPolicySet .dramPolicySet (fun q _ => q.payload.length = 16 ∧ dramPolicyOk q.payload) (ask ((z 12) ++ enc [(2, 3600), (2,
      0)])) full ∧
    Meets .dramPolicyGet .dramPolicyGet noPayload (ask ([])) full ∧
    Meets .dramRetrain .dramRetrain (fun q u => q.payload.length = 4 ∧ f1 q.payload 0 ≤ 3 ∧ chPowered (f1 q.payload 0) u ∧ (chan (f1
      q.payload 0) u).state ≠ .retraining) (ask (enc [(1, 3), (3, 0)])) (chanIs 3 { state := .ready } full) ∧
    Meets .dramErrorLogGet .dramErrorLogGet (fun q _ => q.payload.length = 8 ∧ 1 ≤ f1 q.payload 4 ∧ f1 q.payload 4 ≤ 32) (ask (enc [(4,
      0), (1, 32), (3, 0)])) full ∧
    Meets .dramRead .dramRead (fun q u => q.payload.length = 12 ∧ f1 q.payload 0 ≤ 3 ∧ f4 q.payload 4 % 64 = 0 ∧ 1 ≤ f1 q.payload 8 ∧ f1
      q.payload 8 ≤ 15 ∧ chPowered (f1 q.payload 0) u ∧ f4 q.payload 4 + 64 * f1 q.payload 8 ≤ 2 ^ 32) (ask (enc [(1, 3), (3, 0), (4,
      0xFFFFFFC0), (1, 1), (3, 0)])) (chanIs 3 { state := .ready } full) :=
  ⟨by unfold noPayload; decide +kernel,
    ⟨⟨true, 25, false, 0, []⟩, by decide +kernel⟩,
    by decide +kernel,
    by unfold noPayload; decide +kernel,
    by decide +kernel,
    by decide +kernel,
    by decide +kernel⟩

theorem witness_KeyCommandsSucceed :
    Meets .keyStatusGet .keyStatusGet noPayload (ask ([])) full ∧
    Meets .keyLoad (fun q => .keyLoad q false) (fun q u => f1 q.payload 0 ≠ 0 ∧ f1 q.payload 0 ≤ 15 ∧ 16 ≤ f1 q.payload 2 ∧ f1 q.payload 2
      ≤ 128 ∧ q.payload.length = 24 + f1 q.payload 2 ∧ underSlot0 q u ∧ f4 q.payload 4 = (slotOf (f1 q.payload 0) u).generation + 1 ∧
      keyCheckOk q.payload u) (ask (keyLoadBytes)) full ∧
    Meets .keyClear .keyClear (fun q u => f1 q.payload 0 ≠ 0 ∧ f1 q.payload 0 ≤ 15 ∧ q.payload.length = 8 ∧ underSlot0 q u ∧ f4 q.payload
      4 = (slotOf (f1 q.payload 0) u).generation + 1) (ask (enc [(1, 15), (3, 0), (4, 1)])) full ∧
    Meets .digestRun .digestRun (fun q u => q.payload.length = 56 + f2 q.payload 4 ∧ digestFieldsOk q.payload ∧ bitOf (f1 q.payload 2) 0 ∧
      (3 ≤ f1 q.payload 0 → slotHoldsKey (f1 q.payload 1) u ∧ bitOf (slotOf (f1 q.payload 1) u).usage 3)) (ask (enc [(1, 1), (1, 0), (1,
      1), (1, 16), (2, 0)] ++ z 50)) full ∧
    Meets .digestRun .digestRun (fun q _ => q.payload.length = 56 + f2 q.payload 4 ∧ digestFieldsOk q.payload ∧ bitOf (f1 q.payload 2) 0 =
      false ∧ f1 q.payload 0 < 3) (ask (enc [(1, 2), (1, 0), (1, 0), (1, 0), (2, 0)] ++ z 50)) full :=
  ⟨by unfold noPayload; decide +kernel,
    by decide +kernel,
    by decide +kernel,
    by decide +kernel,
    by decide +kernel⟩

theorem witness_FieldCommandsSucceed :
    Meets .fioConfigSet .fioConfigSet (fun q u => q.payload.length = 12 ∧ fioCfgOk q.payload 0 ∧ ¬ (f1 q.payload 1 = 3 ∧ wakeEdgeOn (f1
      q.payload 0) u) ∧ (f1 q.payload 1 = (fioOf (f1 q.payload 0) u).mode ∨ (fioOf (f1 q.payload 0) u).pulse = none)) (ask (enc [(1, 7),
      (1, 1), (2, 0), (2, 2000), (2, 1000), (2, 1000), (2, 0)])) full ∧
    Meets .fioStatusGet .fioStatusGet noPayload (ask ([])) full ∧
    Meets .fioOutputSet .fioOutputSet (fun q u => q.payload.length = 4 ∧ ((maskPins 8 (f1 q.payload 0)).all fun n => decide ((fioOf n
      u).mode = 3)) ∧ ((maskPins 8 (f1 q.payload 0)).all fun n => (fioOf n u).pulse.isNone)) (ask (enc [(1, 128), (1, 128), (2, 0)]))
      (pinIs 7 { mode := 3 } full) ∧
    (∃ g, Meets .fioPulse .fioPulse (fun q u => q.payload.length = 20 ∧ f1 q.payload 0 ≤ 7 ∧ f1 q.payload 1 ≤ 1 ∧ 1000 ≤ f4 q.payload 16 ∧
      f4 q.payload 16 ≤ 3600000000 ∧ startOk q.payload 4 u ∧ (fioOf (f1 q.payload 0) u).mode = 3 ∧ (fioOf (f1 q.payload 0) u).latched =
      false ∧ (fioOf (f1 q.payload 0) u).pulse = none ∧ armedModeChange (f1 q.payload 0) u = false ∧ grantTimer 0xFF u = some g) (ask (enc
      [(1, 7), (1, 1), (2, 0), (12, 0), (4, 1000)])) (pinIs 7 { mode := 3 } full)) ∧
    Meets .fioClear .fioClear (fun q _ => q.payload.length = 4) (ask (z 4)) full ∧
    Meets .gpioConfigSet .gpioConfigSet (fun q _ => q.payload.length = 8 ∧ gpioCfgOk q.payload 0) (ask (enc [(1, 31), (1, 0), (1, 2), (1,
      2), (4, 0)])) full ∧
    Meets .gpioWrite .gpioWrite (fun q _ => q.payload.length = 8) (ask (z 8)) full ∧
    (∃ (ext : BitVec 32), Meets .gpioRead (fun q => .gpioRead q ext) noPayload (ask ([])) full) ∧
    Meets .adcConfigSet .adcConfigSet (fun q _ => q.payload.length = 140 ∧ ((List.range 7).all fun c => adcCfgOk c q.payload (20 * c)))
      (ask ((List.replicate 7 (enc [(1, 0), (1, 0), (2, 3435), (4, 10000), (4, 0), (4, 0), (4, 0)])).flatten)) full ∧
    Meets .adcRead .adcRead noPayload (ask ([])) full ∧
    (∃ g, Meets .adcCaptureSet .adcCaptureSet (fun q u => q.payload.length = 20 ∧ f1 q.payload 0 = 0 ∧ 1 ≤ f4 q.payload 16 ∧ f4 q.payload
      16 ≤ 86400 ∧ startOk q.payload 4 u ∧ u.io.capture = none ∧ grantTimer 0xFF u = some g) (ask (enc [(4, 0), (12, 0), (4, 86400)]))
      full) ∧
    (∃ g, Meets .adcCaptureSet .adcCaptureSet (fun q u => q.payload.length = 20 ∧ f1 q.payload 0 = 1 ∧ u.io.capture = some g) (ask (enc
      [(1, 1), (15, 0), (4, 0)])) ({ full with io := { full.io with capture := some 3 } })) :=
  ⟨by decide +kernel,
    by unfold noPayload; decide +kernel,
    by decide +kernel,
    ⟨0, by decide +kernel⟩,
    by decide +kernel,
    by decide +kernel,
    by decide +kernel,
    ⟨0, by unfold noPayload; decide +kernel⟩,
    by decide +kernel,
    by unfold noPayload; decide +kernel,
    ⟨0, by decide +kernel⟩,
    ⟨3, by decide +kernel⟩⟩

theorem witness_CounterCommandsSucceed :
    Meets .countersGet .countersGet (fun q u => q.payload.length = 4 ∧ (u.sup.mode = .watch → f1 q.payload 0 = 2) ∧ setOk (f1 q.payload 0)
      (f1 q.payload 1)) (ask (enc [(1, 1), (1, 127), (2, 0)])) full ∧
    Meets .eventCounterSet .eventCounterSet (fun q _ => q.payload.length = 8 ∧ evtCfgOk q.payload 0) (ask (enc [(1, 63), (7, 0)])) full ∧
    Meets .snapshotTake .snapshotTake (fun q u => q.payload = [] ∧ chPowered 0 u) (ask ([])) (chanIs 0 { state := .ready } full) ∧
    (∃ x, Meets .snapshotRead .snapshotRead (fun q u => q.payload.length = 8 ∧ setOk (f1 q.payload 4) (f1 q.payload 5) ∧
      (u.cnt.snaps.find? fun x => decide (x.id = f4 q.payload 0)) = some x) (ask (enc [(4, 1), (1, 2), (1, 4), (2, 0)]))
      ({ full with cnt := { full.cnt with snaps := [⟨1, 0, 0, false, [], [], []⟩] } })) ∧
    (∃ g, Meets .snapshotScheduleSet .snapshotScheduleSet (fun q u => q.payload.length = 20 ∧ f1 q.payload 0 = 0 ∧ 60 ≤ f4 q.payload 16 ∧
      f4 q.payload 16 ≤ 86400 ∧ startOk q.payload 4 u ∧ schedTimer u = some g) (ask (enc [(4, 0), (12, 0), (4, 60)])) full) ∧
    Meets .snapshotScheduleSet .snapshotScheduleSet (fun q _ => q.payload.length = 20 ∧ f1 q.payload 0 = 1) (ask (enc [(1, 1), (15, 0),
      (4, 0)])) full ∧
    Meets .bwConfigSet .bwConfigSet (fun q _ => q.payload.length = 4 ∧ 1000 ≤ f4 q.payload 0 ∧ f4 q.payload 0 ≤ 10000000) (ask (enc [(4,
      10000000)])) full ∧
    Meets .bwGet .bwGet (fun q _ => q.payload.length = 4 ∧ f1 q.payload 0 ≤ 127) (ask (enc [(1, 127), (3, 0)])) full ∧
    Meets .monitorSet .monitorSet (fun q _ => q.payload.length = 20 ∧ monCfgOk q.payload 0) (ask (enc [(1, 15)] ++ z 19)) full ∧
    Meets .monitorGet .monitorGet noPayload (ask ([])) full ∧
    Meets .logRead .logRead (fun q u => q.payload.length = 8 ∧ f1 q.payload 0 = 0 ∧ 1 ≤ f2 q.payload 2 ∧ f2 q.payload 2 ≤ 64 ∧ f4
      q.payload 4 ≤ u.cnt.logWraps * 1024 + u.cnt.logHead) (ask (enc [(1, 0), (1, 0), (2, 64), (4, 0)])) full ∧
    Meets .logRead .logRead (fun q u => q.payload.length = 8 ∧ f1 q.payload 0 = 1 ∧ 1 ≤ f2 q.payload 2 ∧ f2 q.payload 2 ≤ 19 ∧ chPowered 0
      u ∧ f4 q.payload 4 ≤ u.cnt.archNext) (ask (enc [(1, 1), (1, 0), (2, 19), (4, 0)])) (chanIs 0 { state := .ready } full) ∧
    Meets .strikeTallyGet .strikeTallyGet noPayload (ask ([])) full :=
  ⟨by decide +kernel,
    by decide +kernel,
    by decide +kernel,
    ⟨⟨1, 0, 0, false, [], [], []⟩, by decide +kernel⟩,
    ⟨0, by decide +kernel⟩,
    by decide +kernel,
    by decide +kernel,
    by decide +kernel,
    by decide +kernel,
    by unfold noPayload; decide +kernel,
    by decide +kernel,
    by decide +kernel,
    by unfold noPayload; decide +kernel⟩

theorem witness_CoreCommandsSucceed :
    Meets .coreStatusGet .coreStatusGet noPayload (ask ([])) full ∧
    Meets .perfConfigSet .perfConfigSet (fun q u => q.payload.length = 12 ∧ perfOk q.payload ∧ coreUp (decide (f1 q.payload 0 = 1)) u)
      (ask (enc [(1, 0), (1, 5), (2, 0), (1, 2), (3, 0), (4, 10000)])) full ∧
    (∃ counts, Meets .perfRead (fun q => .perfRead q counts) (fun q _ => q.payload.length = 4 ∧ f1 q.payload 0 ≤ 1) (ask (enc [(1, 1), (3,
      0)])) full) ∧
    Meets .perfSampleGet .perfSampleGet (fun q _ => q.payload.length = 8 ∧ f1 q.payload 0 ≤ 1 ∧ 1 ≤ f2 q.payload 2 ∧ f2 q.payload 2 ≤ 48)
      (ask (enc [(1, 1), (1, 0), (2, 48), (4, 0)])) full ∧
    Meets .debugAccessSet .debugAccessSet (fun q u => q.payload.length = 8 ∧ f1 q.payload 0 = 1 ∧ underSlot0 q u ∧ 60 ≤ f4 q.payload 4 ∧
      f4 q.payload 4 ≤ 86400) (ask (enc [(1, 1), (3, 0), (4, 86400)])) full ∧
    Meets .debugAccessSet .debugAccessSet (fun q _ => q.payload.length = 8 ∧ f1 q.payload 0 = 0) (ask (z 8)) full ∧
    Meets .debugFreeze .debugFreeze noPayload (ask ([])) full ∧
    Meets .captureSet .captureSet (fun q _ => q.payload.length = 8 ∧ f1 q.payload 0 = 0 ∧ f1 q.payload 1 ≤ 127 ∧ f1 q.payload 2 ≤ 1 ∧ 64 ≤
      f2 q.payload 6 ∧ f2 q.payload 6 ≤ 10240) (ask (enc [(1, 0), (1, 127), (1, 1), (1, 0), (2, 0), (2, 10240)])) full ∧
    Meets .captureSet .captureSet (fun q u => q.payload.length = 8 ∧ f1 q.payload 0 = 1 ∧ u.cap.state = .running) (ask (enc [(1, 1)] ++ z
      7)) ({ full with cap := { full.cap with state := .running } }) ∧
    (∃ r, Meets .captureRead .captureRead (fun q u => q.payload.length = 8 ∧ 1 ≤ f2 q.payload 6 ∧ f2 q.payload 6 ≤ 1200 ∧
      (u.cap.recs.find? fun r => decide (r.seq = f4 q.payload 0)) = some r) (ask (enc [(4, 4), (2, 0), (2, 1200)]))
      ({ full with cap := { full.cap with recs := [⟨4, 0, 0, false, false, false, 64, 0, 0, []⟩] } })) :=
  ⟨by unfold noPayload; decide +kernel,
    by decide +kernel,
    ⟨[], by decide +kernel⟩,
    by decide +kernel,
    by decide +kernel,
    by decide +kernel,
    by unfold noPayload; decide +kernel,
    by decide +kernel,
    by decide +kernel,
    ⟨⟨4, 0, 0, false, false, false, 64, 0, 0, []⟩, by decide +kernel⟩⟩

theorem witness_HostReadsAnswer :
    (∃ path off w, Ready (fun t => .unmappedRead t path off w) (fun u => pathUp path u ∧ unaligned off.toNat w false = false ∧ windowWord
      path (off.toNat % 0x8000 / 4 * 4) u = none) (0) full) ∧
    (∃ path off w uneven, Ready (fun t => .unalignedRead t path off w uneven) (fun u => pathUp path u ∧ unaligned off.toNat w uneven) (0)
      full) ∧
    (∃ cmd off cut, Ready (fun t => .malformedSpiTransaction t cmd off cut) (fun u => pathUp .spi u ∧ (cut ∨ cmd.toNat % 4 = 3 ∨ cmd.toNat
      / 4 % 32 ≠ 0)) (0) full) ∧
    (pathUp .spi full = true ∧ (windowWord .spi 0x0014 full).isSome = true) ∧
    (pathUp .spi full = true ∧ (windowWord .spi 0x0024 full).isSome = true) ∧
    (pathUp .spi full = true ∧ (windowWord .spi 0x0200 full).isSome = true) ∧
    (pathUp .spi full = true ∧ (windowWord .spi 0x0228 full).isSome = true) :=
  ⟨⟨.spi, 0x3FFC#16, .w32, by decide +kernel⟩,
    ⟨.spi, 0x7FFD#16, .w32, false, by decide +kernel⟩,
    ⟨0x83, 0, false, by decide +kernel⟩,
    by decide,
    by decide,
    by decide,
    by decide⟩

theorem witness_HostWritesTakeEffect :
    (∃ path off w data v, Ready (fun t => .hostWindowWrite t path off w false data) (fun u => pathUp path u ∧ off.toNat < 0x8000 ∧
      off.toNat % widthBytes w = 0 ∧ windowWord path (off.toNat / 4 * 4) u = some v ∧ (w = .w32 ∨ byteWritable (off.toNat / 4 * 4)) ∧
      (isRingReg (off.toNat / 4 * 4) ∧ u.host.rings.enable → u.host.rings.ownerSpi = decide (path = .spi)) ∧ settingLocked (off.toNat / 4
      * 4) u = false) (0) full) ∧
    regWritable 0x0210 .spi 0 .w32 0 full ∧
    regWritable 0x0210 .spi 0 .w32 0 full ∧
    regWritable 0x0028 .spi 0 .w32 0 full ∧
    regWritable 0x002C .spi 0 .w32 0 full ∧
    regWritable 0x0220 .spi 0 .w32 0 full ∧
    regWritable 0x0100 .spi 0 .w32 0 full ∧
    regWritable 0x0100 .spi 0 .w32 0 full ∧
    regWritable 0x0114 .spi 0 .w32 0 full ∧
    regWritable 0x012C .spi 0 .w32 0 full :=
  ⟨⟨.spi, 0x4000, .w8, 5, 0, by decide +kernel⟩,
    by unfold regWritable; decide,
    by unfold regWritable; decide,
    by unfold regWritable; decide,
    by unfold regWritable; decide,
    by unfold regWritable; decide,
    by unfold regWritable; decide,
    by unfold regWritable; decide,
    by unfold regWritable; decide,
    by unfold regWritable; decide⟩

theorem witness_RingsAndLinkRun :
    mayFetch (advance 0
      { full with host := { full.host with rings := { full.host.rings with enable := true, ownerSpi := true, reqTail := 1 } } }) = true ∧
    (∃ m l, Ready (fun t => .responseEntryWrite t) (fun u => u.host.rings.waiting = m :: l ∧ ringsServed u ∧ (u.host.rings.rspTail -
      u.host.rings.rspHead).toNat < rspEntries u.host.rings) (0)
      ({ full with host := { full.host with rings := { full.host.rings with enable := true, ownerSpi := true, waiting := [⟨2, false, false, false, 1, 0x0102, 7, 1, 1, 0, [], []⟩] } } }))
      ∧
    Ready (fun t => .ringDmaFault t) (fun u => u.host.rings.enable ∧ u.host.rings.locBuffer = false) (0)
      ({ full with host := { full.host with rings := { full.host.rings with enable := true } } }) ∧
    Ready (fun t => .pcieLinkDown t) (fun u => u.host.linkUp) (0) ({ full with host := { full.host with linkUp := true } }) ∧
    (∃ width rate msi busMaster, Ready (fun t => .pcieLinkUp t width rate msi busMaster) (fun u => (u.sup.mode = .keep ∨ u.sup.mode =
      .full ∨ u.sup.mode = .span ∨ u.sup.mode = .freeze) ∧ u.host.perst = false ∧ u.host.linkUp = false) (0) full) :=
  ⟨by decide +kernel,
    ⟨⟨2, false, false, false, 1, 0x0102, 7, 1, 1, 0, [], []⟩, [], by decide +kernel⟩,
    by decide +kernel,
    by decide +kernel,
    ⟨16, 4, 2, true, by decide +kernel⟩⟩

theorem witness_MailboxEventsRun :
    (∃ raw m, transportServed (uartOf 1) (advance 0 full) = true ∧ raw ≠ [] ∧ uartMessage raw = some m) ∧
    (∃ p raw, uartMessage raw = none ∧ raw ≠ [] ∧ Ready (fun t => .uartFrame t p raw) (fun u => transportServed (uartOf p) u) (0) full) ∧
    (∃ p gap, Ready (fun t => .rxGap t p gap) (fun u => transportServed (uartOf p) u ∧ u.kmp.rxGapMs < gap) (0) full) ∧
    (m0Runs (advance 0 full) = true ∧ transportServed .m0 (advance 0 full) = true ∧
      (if (advance 0 full).elapsed / nsPerS = (advance 0 full).ports.m0.second then (advance 0 full).ports.m0.accepted else 0) < m0Limit) ∧
    (∃ u, u = { full with ports := { full.ports with m0 := { accepted := 1000 } } } ∧ m0Runs u = true ∧ transportServed .m0 u = true ∧
      u.ports.m0.second = u.elapsed / nsPerS ∧ m0Limit ≤ u.ports.m0.accepted) ∧
    (∃ n x, Ready (fun t => .eventSend t n) (fun u => findSession n u = some x ∧ destServed x.dest u ∧ kmpHalted u = false) (0) full) ∧
    (∃ n x seq a l, Ready (fun t => .eventRetry t n) (fun u => findSession n u = some x ∧ x.sent = (seq, a) :: l ∧ a + msNs x.waitMs ≤
      u.elapsed ∧ destServed x.dest u ∧ kmpHalted u = false) (later)
      ({ full with kmp := { full.kmp with sessions := [{ owner with sent := [(3, 0)] }] } })) ∧
    (∃ n x, Ready (fun t => .sessionIdle t n) (fun u => findSession n u = some x ∧ x.controlling = false ∧ x.lastRequestAt + sNs 900 ≤
      u.elapsed) (later) ({ full with kmp := { full.kmp with sessions := [{ owner with controlling := false }] } })) ∧
    (∃ tr r, Ready (fun t => .evTransportReverted t tr) (fun u => (u.kmp.reverts.find? fun r => decide (r.transport = tr)) = some r ∧
      r.since + sNs 60 ≤ u.elapsed ∧ confirmedSince r u = false) (later)
      ({ full with kmp := { full.kmp with reverts := [⟨.uart1, 9600, 0, 0⟩] } })) :=
  ⟨⟨[0, 0, 0, 0], [], by decide +kernel⟩,
    ⟨1, [1], by decide +kernel⟩,
    ⟨0, 501, by decide +kernel⟩,
    by decide +kernel,
    ⟨_, rfl, by decide +kernel⟩,
    ⟨1, owner, by decide +kernel⟩,
    ⟨1, { owner with sent := [(3, 0)] }, 3, 0, [], by decide +kernel⟩,
    ⟨1, { owner with controlling := false }, by decide +kernel⟩,
    ⟨.uart1, ⟨.uart1, 9600, 0, 0⟩, by decide +kernel⟩⟩

theorem witness_CommitsTakeEffect :
    (∃ c, Ready (fun t => .commitArmed t true) (fun u => u.kmp.building = some c ∧ kmpHalted u = false) (0)
      ({ full with kmp := { full.kmp with building := some ⟨1, 7, 1, 5000000000, 0, [], 0, false⟩ } })) ∧
    (∃ c, Ready (fun t => .commitArmed t false) (fun u => u.kmp.building = some c ∧ kmpHalted u = false ∧ spanFollows u = false) (0)
      ({ full with kmp := { full.kmp with building := some ⟨1, 7, 1, 5000000000, 0, [], 0, false⟩ } })) ∧
    (∃ c, Ready (fun t => .epochReached t true) (fun u => u.kmp.committed = some c ∧ commitDue c u ∧ loadsDone u ∧ kmpHalted u = false ∧
      kmpHaltPends u = false) (later)
      ({ full with kmp := { full.kmp with committed := some ⟨1, 7, 1, 5000000000, 0, [], 0, false⟩ }, tb := { full.tb with quality := .free } }))
      ∧
    (∃ c, Ready (fun t => .epochReached t false) (fun u => u.kmp.committed = some c ∧ commitDue c u) (later)
      ({ full with kmp := { full.kmp with committed := some ⟨1, 7, 1, 5000000000, 0, [], 0, false⟩ }, tb := { full.tb with quality := .free } }))
      :=
  ⟨⟨⟨1, 7, 1, 5000000000, 0, [], 0, false⟩, by decide +kernel⟩,
    ⟨⟨1, 7, 1, 5000000000, 0, [], 0, false⟩, by decide +kernel⟩,
    ⟨⟨1, 7, 1, 5000000000, 0, [], 0, false⟩, by decide +kernel⟩,
    ⟨⟨1, 7, 1, 5000000000, 0, [], 0, false⟩, by decide +kernel⟩⟩

theorem witness_WakesTakeEffect :
    (∃ mv bankA33 bankB33 prtad, 4500 ≤ mv ∧ Ready (fun t => .abutmentStart t mv bankA33 bankB33 prtad) (fun u => u.sup.mode = .off) (0)
      ({ full with sup := { mode := .off } })) ∧
    (∃ mv, mv < 4200 ∧ Ready (fun t => .abutmentReset t mv) (fun u => u.sup.mode = .shelf) (0)
      ({ full with sup := { mode := .shelf }, clk := {}, sw := { landMv := 24000 } })) ∧
    (∃ mv, mv < 2800 ∧ Ready (fun t => .retentionLost t mv) (fun u => u.sup.mode = .off) (0) ({ full with sup := { mode := .off } })) ∧
    (∃ vin, Ready (fun t => .vinReachesWatchOn t vin) (fun u => let v := setVin vin u; abutmentOn u ∧ atRest v ∧ waking v = false ∧
      v.sup.th.watchOn ≤ vinEff v ∧ v.wake.modeBefore = .off) (0)
      ({ full with sup := { mode := .shelf }, clk := {}, sw := { landMv := 24000 } })) ∧
    (∃ level mv, Ready (fun t => .wakePin t level mv) (fun u => abutmentOn u ∧ wakeEnabled 0 (setVin mv u) ∧ level = (setVin mv
      u).wake.activeHigh) (0)
      ({ full with sup := { mode := .shelf }, clk := {}, sw := { landMv := 24000 }, wake := { sources := 1, activeHigh := true } })) ∧
    (∃ pin rising mv, Ready (fun t => .fieldInputEdgeWake t pin rising mv) (fun u => abutmentOn u ∧ wakeEnabled 1 (setVin mv u) ∧
      edgeEnabled pin rising (setVin mv u) ∧ (fioOf pin (setVin mv u)).mode = 1) (0)
      ({ full with sup := { mode := .shelf }, clk := {}, sw := { landMv := 24000 }, wake := { sources := 2, riseMask := 128 }, io := { full.io with fio := [(7, { mode := 1 })] } }))
      ∧
    (∃ vin, Ready (fun t => .vinRestore t vin) (fun u => abutmentOn u ∧ wakeEnabled 3 (setVin vin u) ∧ (setVin vin u).wake.modeBefore ≠
      .off) (0)
      ({ full with sup := { mode := .shelf }, clk := {}, sw := { landMv := 24000 }, wake := { byShed := true, modeBefore := .full } })) ∧
    Ready (fun t => .rtcAlarm t) (fun u => abutmentOn u ∧ u.sup.mode ≠ .shelf ∧ u.rtc.alarmS ≠ 0 ∧ u.rtc.alarmS ≤ rtcSeconds u) (later)
      ({ full with rtc := { running := true, alarmS := 5 } }) ∧
    Ready (fun t => .rtcAlarm t) (fun u => u.sup.mode = .shelf ∧ u.rtc.alarmS ≠ 0 ∧ u.rtc.alarmS ≤ rtcSeconds u ∧ wakeEnabled 2 u) (later)
      ({ full with sup := { mode := .shelf }, clk := {}, sw := { landMv := 24000 }, wake := { sources := 4 }, rtc := { running := true, alarmS := 5 } })
      ∧
    (∃ pin mv, Ready (fun t => .wettingSample t pin mv) (fun u => atRest u ∧ (fioOf pin u).mode = 2 ∧ (fioOf pin u).wetLevel = some
      (senseLevel (fioOf pin u) mv)) (0)
      ({ full with sup := { mode := .shelf }, clk := {}, sw := { landMv := 24000 }, io := { full.io with fio := [(7, { mode := 2, wetLevel := some true })] } }))
      :=
  ⟨⟨4500, false, false, 0, by decide +kernel⟩,
    ⟨4199, by decide +kernel⟩,
    ⟨2799, by decide +kernel⟩,
    ⟨6600, by dsimp only; decide +kernel⟩,
    ⟨true, 24000, by decide +kernel⟩,
    ⟨7, true, 24000, by decide +kernel⟩,
    ⟨24000, by decide +kernel⟩,
    by decide +kernel,
    by decide +kernel,
    ⟨7, 7000, by decide +kernel⟩⟩

theorem witness_WakeSourceStartsRun :
    (∃ s, atRest s = true ∧ waking s = false ∧ s.sup.th.watchOn ≤ vinEff s) ∧
    (∃ s, atRest s = true ∧ waking s = false ∧ vinEff s < s.sup.th.watchOn) :=
  ⟨⟨{ full with sup := { mode := .shelf }, clk := {}, sw := { landMv := 6600 } }, by decide +kernel⟩,
    ⟨{ full with sup := { mode := .shelf }, clk := {}, sw := { landMv := 6599 } }, by decide +kernel⟩⟩

theorem witness_SupplyEventsRun :
    (∃ vin, Ready (fun t => .vinBelowOff t vin) (fun u => abutmentOn u) (0) full) ∧
    (∃ vin low a b, Ready (fun t => .rideThrough t vin low) (fun u => abutmentOn u ∧ (setVin vin u).sup.dip = some (a, b) ∧ shedUnderWay u
      = false) (5) ({ full with sup := { full.sup with dip := some (0, 5) } })) ∧
    (∃ vin vhold, Ready (fun t => .sheddingStep t vin vhold) (fun u => let v := setVhold vhold (setVin vin u); abutmentOn u ∧
      runInProgress v = false ∧ bootRuns v = false ∧ shedDue v.sup.mode v ∧ v.sup.transition = none) (later)
      ({ full with sup := { full.sup with belowFull := some 0 } })) ∧
    (∃ vhold, Ready (fun t => .holdFloorCrossing t vhold) (fun u => runInProgress u = false ∧ bootRuns u = false ∧ vhold < holdFloor
      u.sup.mode ∧ u.sup.transition = none) (0) full) ∧
    (∃ vin vhold n, Ready (fun t => .climb t vin vhold) (fun u => let v := setVhold vhold (setVin vin u); abutmentOn u ∧ mayClimb v ∧
      v.sup.deferred = none ∧ climbTarget v = some n) (later)
      ({ watch with sup := { watch.sup with target := .full, vholdMv := 24000, onFull := some 0 }, sw := { landMv := 24000 } })) ∧
    (∃ vin x, Ready (fun t => .climbAbandoned t vin) (fun u => abutmentOn u ∧ climbOf (setVin vin u) = some x ∧ shedDue x.dst (setVin vin
      u)) (later) ({ watch with sup := { (moves .watch .full 0 watch).sup with belowFull := some 0 } })) ∧
    (∃ x, Ready (fun t => .transitionComplete t) (fun u => u.sup.transition = some x ∧ isClimb x = false ∧ x.dst = .freeze) (0) (moves
      .full .freeze 0 full)) ∧
    (∃ x, Ready (fun t => .transitionComplete t) (fun u => u.sup.transition = some x ∧ isClimb x ∧ x.climbStep = 4) (0) (moves .watch
      .full 4 watch)) ∧
    (∃ x, Ready (fun t => .transitionComplete t) (fun u => u.sup.transition = some x ∧ x.dst = .watch ∧ (x.src = .shelf ∨ x.src = .watch)
      ∧ watchReady u) (0) ({ moves .shelf .watch 0 full with boot := { full.boot with awaitConfig := true, chosen := true } })) ∧
    (∃ x, Ready (fun t => .transitionComplete t) (fun u => u.sup.transition = some x ∧ (x.src = .full ∧ x.dst = .keep ∨ x.src = .keep ∧
      x.dst = .watch ∨ x.src = .freeze ∧ x.dst = .watch ∨ x.src = .watch ∧ x.dst = .shelf)) (0) (moves .watch .shelf 0 full)) :=
  ⟨⟨0, by decide +kernel⟩,
    ⟨24000, 7000, 0, 5, by decide +kernel⟩,
    ⟨0, 8000, by dsimp only; decide +kernel⟩,
    ⟨7499, by decide +kernel⟩,
    ⟨24000, 24000, 3, by dsimp only; decide +kernel⟩,
    ⟨0, ⟨.watch, .full, .command, 0, 0, 0, none⟩, by decide +kernel⟩,
    ⟨⟨.full, .freeze, .command, 0, 0, 0, none⟩, by decide +kernel⟩,
    ⟨⟨.watch, .full, .command, 0, 4, 0, none⟩, by decide +kernel⟩,
    ⟨⟨.shelf, .watch, .command, 0, 0, 0, none⟩, by decide +kernel⟩,
    ⟨⟨.watch, .shelf, .command, 0, 0, 0, none⟩, by decide +kernel⟩⟩

theorem witness_StrikesAndSwitchesRun :
    (∃ mv, Ready (fun t => .surgeTrigger t mv) (fun u => abutmentOn u ∧ u.strike.surgeMv < mv) (0) full) ∧
    (∃ mv, Ready (fun t => .slewTrigger t mv) (fun u => abutmentOn u) (0) full) ∧
    Ready (fun t => .evStrikeClose t) (fun u => u.strike.opened ∧ u.strike.endsElapsed ≤ u.elapsed ∧ (closeStrike u).sup.deferred = none)
      (later) ({ full with strike := { opened := true } }) ∧
    (∃ vin, 60000 < vin ∧ Ready (fun t => .inputSwitchOpen t vin) (fun u => abutmentOn u ∧ (setVin vin u).sw.ovCut = false) (0) full) ∧
    (∃ vin, 41000 < vin ∧ Ready (fun t => .overvoltageTimeout t vin) (fun u => abutmentOn u ∧ (setVin vin u).sw.ovCut = false) (0) full) ∧
    (∃ vin, vin < 40000 ∧ Ready (fun t => .inputSwitchClose t vin) (fun u => abutmentOn u ∧ (setVin vin u).sw.ovCut) (0)
      ({ full with sw := { ovCut := true } })) ∧
    (∃ die, 13000 < die ∧ Ready (fun t => .thermalCut t die) (fun u => abutmentOn u ∧ u.sw.thermalCut = false) (0) full) ∧
    (∃ die, die < 11000 ∧ Ready (fun t => .thermalRelease t die) (fun u => abutmentOn u ∧ u.sw.thermalCut) (0)
      ({ full with sw := { thermalCut := true } })) ∧
    (∃ n, Ready (fun t => .vioFault t n) (fun u => vioPowered u ∧ (vioOf n u).offAt = none) (0) full) ∧
    (∃ n holds, Ready (fun t => .vioRetry t n holds) (fun u => vioPowered u ∧ heldFor (vioOf n u).offAt nsPerS u.elapsed) (later)
      ({ full with vio := [(2, { offAt := some 0 })] })) :=
  ⟨⟨44001, by decide +kernel⟩,
    ⟨0, by decide +kernel⟩,
    by decide +kernel,
    ⟨60001, by decide +kernel⟩,
    ⟨41001, by decide +kernel⟩,
    ⟨39999, by decide +kernel⟩,
    ⟨13001, by decide +kernel⟩,
    ⟨10999, by decide +kernel⟩,
    ⟨2, by decide +kernel⟩,
    ⟨2, true, by decide +kernel⟩⟩

theorem witness_StartEventsRun :
    Ready (fun t => .referenceStartFail t) (fun u => waking u ∧ u.clk.refRetries < 3) (0)
      ({ moves .shelf .watch 0 full with clk := {}, boot := {} }) ∧
    Ready (fun t => .referenceRetry t) (fun u => atRest u ∧ heldFor u.clk.refFailedAt (sNs 1) u.elapsed) (later)
      ({ full with sup := { mode := .shelf }, clk := { refFailedAt := some 0 } }) ∧
    (∃ n, Ready (fun t => .evClockFail t n) (fun u => timeRuns u ∧ climbNeeds n.val u = false ∧ (n.val < 5 ∨ 9 ≤ n.val)) (0) full) ∧
    (∃ n, Ready (fun t => .evClockFail t n) (fun u => timeRuns u ∧ climbNeeds n.val u = false ∧ 5 ≤ n.val ∧ n.val < 9) (0) full) ∧
    (∃ ago kat, Ready (fun t => .bankVerdict t ago kat) (fun u => (beginRun ago u).clk.reference ∧ (beginRun ago u).boot.loading.isSome)
      (0) ({ moves .shelf .watch 0 full with boot := { loading := some false } })) ∧
    (∃ ago, Ready (fun t => .flashNotAnswering t ago) (fun u => (beginRun ago u).clk.reference ∧ (beginRun ago u).boot.loading.isSome ∧
      (beginRun ago u).boot.dirRead = false) (0) ({ moves .shelf .watch 0 full with boot := { loading := some false } })) ∧
    (∃ good items n l, Ready (fun t => .configLoad t good items) (fun u => u.clk.reference ∧ u.boot.awaitConfig ∧ u.boot.loading = none ∧
      u.boot.chosen = false ∧ u.boot.recovery = false ∧ u.dbg.watch.halted = false ∧ configOrder u = n :: l) (0)
      ({ watch with boot := { awaitConfig := true, slot0 := some ⟨1, 0, 0, 0, [], true⟩ } })) ∧
    Ready (fun t => .controlPreload t) (fun u => u.sup.mode = .watch ∧ u.boot.awaitConfig = false ∧ u.boot.recovery = false ∧
      u.boot.preloaded = false ∧ u.dbg.watch.halted = false ∧ controlTagOk u.boot.bankB u) (0)
      ({ watch with flash := Mem.write 0xFF [] 0x100000 sealedBank }) ∧
    Ready (fun t => .autoConfirm t) (fun u => timeRuns u ∧ bootRuns u = false ∧ onTrial u ∧ (dirOf u).autoConfirm ∧ u.boot.watchAt + sNs
      900 ≤ u.elapsed) (later)
      ({ full with boot := { full.boot with trial := true, dir := some ⟨1, false, true, true, false, false, 3, 1, 1, 0⟩ } }) ∧
    (∃ control, Ready (fun t => .watchdog t control) (fun u => coreUp (!control) u ∧ (coreDbg (!control) u).halted = false ∧ timeRuns u)
      (0) full) :=
  ⟨by decide +kernel,
    by decide +kernel,
    ⟨0, by decide +kernel⟩,
    ⟨5, by decide +kernel⟩,
    ⟨0, true, by decide +kernel⟩,
    ⟨0, by decide +kernel⟩,
    ⟨true, [], 0, [], by decide +kernel⟩,
    by decide +kernel,
    by decide +kernel,
    ⟨true, by decide +kernel⟩⟩

theorem witness_TimeEventsRun :
    Ready (fun t => .rtcFail t) (fun u => u.sup.mode ≠ .off ∧ u.rtc.running) (0) ({ full with rtc := { running := true } }) ∧
    Ready (fun t => .ppsEdge t) (fun u => timeRuns u ∧ ppsOverdue u = false ∧ (ppsPulse u).host.snap.armPps = false) (0) full ∧
    Ready (fun t => .ppsEdge t) (fun u => timeRuns u ∧ ppsOverdue u = false ∧ (ppsPulse u).host.snap.armPps) (0)
      ({ full with host := { full.host with snap := { armPps := true } } }) ∧
    Ready (fun t => .ppsLoss t) (fun u => heldFor u.disc.lastPpsAt (msNs 1100) u.elapsed) (later)
      ({ full with disc := { lastPpsAt := some 0 } }) ∧
    (∃ port domain interval off, Ready (fun t => .syncMessage t port domain interval off) (fun u => timeRuns u ∧ (sourceOrder u).contains
      .ptp ∧ port = u.tb.ptpPort ∧ domain = u.tb.ptpDomain ∧ ptpPortUp u ∧ followsTime u = false ∧ syncOverdue u = false) (0)
      ({ full with tb := { source1 := .ptp, ptpPort := 0xFE } })) ∧
    Ready (fun t => .ptpLoss t) (fun u => heldFor u.disc.lastSyncAt (4 * u.disc.syncIntervalNs) u.elapsed) (later)
      ({ full with disc := { lastSyncAt := some 0 } }) ∧
    Ready (fun t => .holdoverExpiry t) (fun u => u.tb.quality = .holdover ∧ heldFor u.disc.holdoverSince (sNs u.tb.holdoverS) u.elapsed ∧
      followsTime u = false) (later * 10) ({ full with tb := { quality := .holdover }, disc := { holdoverSince := some 0 } }) ∧
    Ready (fun t => .rtcAlign t) (fun u => onSecond u ∧ aligns u.tb.quality ∧ u.rtc.running) (0)
      ({ full with tb := { quality := .free }, rtc := { running := true } }) ∧
    (∃ g, Ready (fun t => .timerFire t g) (fun u => (timerOf g u).owner = .kmp ∧ (timerOf g u).armed ∧ (timerOf g u).next ≤ u.tb.now ∧
      tickNs u.sup.mode ≠ 0) (0) (timerIs 7 { owner := .kmp, armed := true } full)) ∧
    Ready (fun t => .ppsOut t) (fun u => onSecond u ∧ ppsDriven u) (0) ({ full with tb := { quality := .holdover, ppsOutEn := true } }) :=
  ⟨by decide +kernel,
    by decide +kernel,
    by decide +kernel,
    by decide +kernel,
    ⟨0xFE, 0, 1000000000, 0, by decide +kernel⟩,
    by decide +kernel,
    by decide +kernel,
    by decide +kernel,
    ⟨7, by decide +kernel⟩,
    by decide +kernel⟩

theorem witness_ClimbStepsRun :
    (∃ x, Ready (fun t => .clocksLocked t true) (fun u => climbOf u = some x ∧ x.climbStep = 0 ∧ x.src = .watch ∧ u.dbg.watch.halted =
      false ∧ u.boot.preloaded) (0) ({ moves .watch .full 0 watch with boot := { preloaded := true } })) ∧
    (∃ x c sweep, Ready (fun t => .dramTraining t c sweep) (fun u => climbOf u = some x ∧ x.climbStep = 1 ∧ (climbChannels x).contains
      c.val ∧ chPowered c u = false ∧ chPowered c (trainChannel c sweep u)) (0) (moves .watch .full 1 watch)) ∧
    (∃ x items, Ready (fun t => .sectionStreamed t false true items) (fun u => climbOf u = some x ∧ x.climbStep = 2 ∧ x.src = .watch ∧
      u.boot.streamedKeep = false ∧ u.boot.slot.isSome ∧ ctlHalted u = false) (0)
      ({ moves .watch .full 2 watch with boot := { slot := some 0 } })) ∧
    (∃ x, Ready (fun t => .tablesInstalled t) (fun u => climbOf u = some x ∧ x.climbStep = 3 ∧ ctlHalted u = false) (0) (moves .watch
      .full 3 watch)) ∧
    (∃ c, Ready (fun t => .searchLoaded t) (fun u => u.kmp.committed = some c ∧ u.cls.loading) (0)
      ({ full with kmp := { full.kmp with committed := some ⟨1, 7, 1, 5000000000, 0, [], 0, false⟩ }, cls := { full.cls with loading := true } }))
      ∧
    (∃ c, Ready (fun t => .evTableLoaded t) (fun u => u.kmp.committed = some c ∧ u.fwd.loading) (0)
      ({ full with kmp := { full.kmp with committed := some ⟨1, 7, 1, 5000000000, 0, [], 0, false⟩ }, fwd := { full.fwd with loading := true } }))
      :=
  ⟨⟨⟨.watch, .full, .command, 0, 0, 0, none⟩, by decide +kernel⟩,
    ⟨⟨.watch, .full, .command, 0, 1, 0, none⟩, 3, sweeps, by decide +kernel⟩,
    ⟨⟨.watch, .full, .command, 0, 2, 0, none⟩, [], by decide +kernel⟩,
    ⟨⟨.watch, .full, .command, 0, 3, 0, none⟩, by decide +kernel⟩,
    ⟨⟨1, 7, 1, 5000000000, 0, [], 0, false⟩, by decide +kernel⟩,
    ⟨⟨1, 7, 1, 5000000000, 0, [], 0, false⟩, by decide +kernel⟩⟩

theorem witness_LaneEventsRun :
    (∃ l peak, Ready (fun t => .cdrLock t l peak) (fun u => (laneOf l u).rx = .active ∧ (laneOf l u).cdr = false ∧ (laneOf l u).warm =
      false) (0) (laneIs 143 { rx := .active } full)) ∧
    (∃ l signal, Ready (fun t => .cdrLoss t l signal) (fun u => (laneOf l u).cdr) (0) (laneIs 143 { cdr := true } full)) ∧
    (∃ l, Ready (fun t => .acquisitionRetry t l) (fun u => (laneOf l u).rx = .active ∧ (laneOf l u).cdr = false ∧ (laneOf l u).acqAt +
      msNs 20 ≤ u.elapsed) (20000000) (laneIs 143 { rx := .active } full)) ∧
    (∃ l, Ready (fun t => .warmWakeTimeout t l) (fun u => (laneOf l u).rx = .active ∧ (laneOf l u).cdr = false ∧ (laneOf l u).warm ∧
      (laneOf l u).rxActiveAt + usNs 100 ≤ u.elapsed) (100000) (laneIs 143 { rx := .active, warm := true } full)) ∧
    (∃ l up, Ready (fun t => .dfeAdapt t l up) (fun u => (laneOf l u).cdr ∧ adaptPaused (laneOf l u) u.elapsed = false) (0) (laneIs 143
      { cdr := true } full)) ∧
    (∃ l tap, Ready (fun t => .dfeRail t l tap) (fun u => heldFor ((laneOf l u).railSince.getD tap none) (msNs 1) u.elapsed ∧ (laneOf l
      u).dfeRail = false) (1000000) (laneIs 143
      { railSince := [none, none, none, none, none, none, none, none, none, none, none, some 0] } full)) ∧
    (∃ l inverted, Ready (fun t => .prbsLock t l inverted) (fun u => checkerRuns (laneOf l u) ∧ (laneOf l u).test.locked = false) (0)
      (laneIs 143 { owner := .test, rx := .active, cdr := true, test := { chk := 1 } } full)) ∧
    (∃ l errs, 512 < errs ∧ Ready (fun t => .prbsLockLoss t l errs) (fun u => (laneOf l u).test.locked) (0) (laneIs 143
      { test := { locked := true } } full)) ∧
    (∃ eyes, Ready (fun t => .evLaneEyeDone t eyes) (fun u => u.lanes.scan.isSome) (0)
      ({ full with lanes := { full.lanes with scan := some ⟨0, 6, 0, false⟩ } })) ∧
    (∃ l, Ready (fun t => .commonModeTrigger t l) (fun u => detectorsAct (laneOf l u) u.elapsed ∧ bitOf (laneOf l u).cfg.impairEn 0)
      (1000000) (laneIs 143 { rx := .active, owner := .test } full)) ∧
    (∃ l loss, 10 ≤ loss ∧ Ready (fun t => .burstTrigger t l loss) (fun u => detectorsAct (laneOf l u) u.elapsed ∧ bitOf (laneOf l
      u).cfg.impairEn 1 ∧ loss ≤ usNs (laneOf l u).cfg.burstMaxUs) (1000000) (laneIs 143 { rx := .active, owner := .test } full)) ∧
    (∃ l, Ready (fun t => .quarantineExit t l) (fun u => (laneOf l u).quarantine ∧ heldFor (laneOf l u).triggers.head? (sNs 60) u.elapsed)
      (later) (laneIs 143 { quarantine := true, triggers := [0] } full)) ∧
    (∃ l, Ready (fun t => .evLaneFault t l true) (fun u => (laneOf l u).tx = .off ∧ (laneOf l u).txGoal ≠ .off) (0) (laneIs 143
      { txGoal := .active } full)) ∧
    (∃ l, Ready (fun t => .evLaneFault t l false) (fun u => (laneOf l u).rx = .off ∧ (laneOf l u).rxGoal ≠ .off) (0) (laneIs 143
      { rxGoal := .active } full)) ∧
    (∃ l, Ready (fun t => .lanePllLock t l true) (fun u => (laneOf l u).tx = .off ∧ (laneOf l u).txGoal ≠ .off) (0) (laneIs 143
      { txGoal := .sleep } full)) ∧
    (∃ l, Ready (fun t => .lanePllLock t l false) (fun u => (laneOf l u).rx = .off ∧ (laneOf l u).rxGoal = .active) (0) (laneIs 143
      { rxGoal := .active } full)) :=
  ⟨⟨143, 15, by decide +kernel⟩,
    ⟨143, true, by decide +kernel⟩,
    ⟨143, by decide +kernel⟩,
    ⟨143, by decide +kernel⟩,
    ⟨143, 0, by decide +kernel⟩,
    ⟨143, 11, by decide +kernel⟩,
    ⟨143, false, by decide +kernel⟩,
    ⟨143, 513, by decide +kernel⟩,
    ⟨[], by decide +kernel⟩,
    ⟨143, by decide +kernel⟩,
    ⟨143, 100000, by decide +kernel⟩,
    ⟨143, by decide +kernel⟩,
    ⟨143, by decide +kernel⟩,
    ⟨143, by decide +kernel⟩,
    ⟨143, by decide +kernel⟩,
    ⟨143, by decide +kernel⟩⟩

theorem witness_PortEventsRun :
    (∃ p anDone fd, Ready (fun t => .linkUp t p anDone fd) (fun u => linkCanRise p u ∧ (portOf p u).link = false ∧ ((portOf p u).an =
      false ∨ fd)) (0) (portIs 127 { typ := 2 } (laneIs 127 { rx := .active, cdr := true, owner := .ethernet } full))) ∧
    (∃ p cause, Ready (fun t => .linkDown t p cause) (fun u => (portOf p u).typ ≠ 0) (0) (portIs 127 { typ := 2 } full)) ∧
    (∃ p raw fec age trie, Ready (fun t => .rxFrame t p raw false fec age trie) (fun u => macReceives p u ∧ 64 ≤ raw.length ∧ raw.length ≤
      (portOf p u).maxFrame ∧ fcsGood raw ∧ f2 raw 12 ≠ 0x8808) (0) (portIs 127 { typ := 2 } (laneIs 127
      { rx := .active, cdr := true, owner := .ethernet } full))) ∧
    (∃ p raw damaged fec age trie, Ready (fun t => .rxFrame t p raw damaged fec age trie) (fun u => macReceives p u ∧ raw.length < 64) (0)
      (portIs 127 { typ := 2 } (laneIs 127 { rx := .active, cdr := true, owner := .ethernet } full))) ∧
    (∃ p d, Ready (fun t => .opticsPoll t p (.ok d)) (fun u => controlRuns u ∧ (cageOf p u).mapped ∧ masterBusy p u = false) (0) (cageIs
      127 { mapped := true } full)) ∧
    (∃ p, Ready (fun t => .opticsStep t p 1) (fun u => controlRuns u ∧ (cageOf p u).step ≠ 0 ∧ masterBusy p u = false) (0) (cageIs 127
      { mapped := true, step := 5 } full)) ∧
    (∃ p, Ready (fun t => .opticsStep t p 0) (fun u => controlRuns u ∧ (cageOf p u).step ≠ 0 ∧ masterBusy p u = false) (0) (cageIs 127
      { mapped := true, step := 5 } full)) ∧
    (∃ m p, Ready (fun t => .i2cTimeout t m) (fun u => (Tbl.get {} u.ports.master m).held = some (.poll p)) (0)
      ({ full with ports := { full.ports with master := [(3, { held := some (.poll 127) })] } })) ∧
    (∃ m w q, Ready (fun t => .i2cTimeout t m) (fun u => (Tbl.get {} u.ports.master m).held = some (.kmp w q)) (0)
      ({ full with ports := { full.ports with master := [(3, { held := some (.kmp true (ask [])) })] } })) :=
  ⟨⟨127, false, false, by decide +kernel⟩,
    ⟨127, 0, by decide +kernel⟩,
    ⟨127, frame64, 0, 0, .ok, by decide +kernel⟩,
    ⟨127, z 63, true, 0, 0, .ok, by decide +kernel⟩,
    ⟨127, [], by decide +kernel⟩,
    ⟨127, by decide +kernel⟩,
    ⟨127, by decide +kernel⟩,
    ⟨3, 127, by decide +kernel⟩,
    ⟨3, true, ask [], by decide +kernel⟩⟩

theorem witness_CausewayEventsRun :
    (∃ l data, Ready (fun t => .cwInit t l data) (fun u => cwHears l u) (0) (laneIs 143
      { owner := .causeway, align := .locked, tx := .active, rx := .active } (linkIs 143 { formed := true, joint := true, state := .init }
      full))) ∧
    (∃ l, Ready (fun t => .cwInitSend t l) (fun u => (linkOf l u).state = .init ∨ (linkOf l u).state = .hold ∧ lineGood l u) (0) (laneIs
      143 { owner := .causeway, align := .locked, tx := .active, rx := .active } (linkIs 143
      { formed := true, joint := true, state := .init } full))) ∧
    (∃ l raw cws hit trie, Ready (fun t => .replayFrame t l raw cws hit trie) (fun u => (linkOf l u).joint ∧ cwHears l u) (0) (laneIs 143
      { owner := .causeway, align := .locked, tx := .active, rx := .active } (linkIs 143 { formed := true, joint := true, state := .up }
      full))) ∧
    (∃ l raw hit trie, Ready (fun t => .replayFrame t l raw [] hit trie) (fun u => (linkOf l u).joint = false ∧ cwHears l u) (0) (laneIs
      127 { owner := .causeway, align := .locked, tx := .active, rx := .active } (linkIs 127
      { formed := true, fecLock := true, state := .up } full))) ∧
    (∃ l seq strike, Ready (fun t => .cwAck t l seq strike) (fun u => cwHears l u ∧ (linkOf l u).joint) (0) (laneIs 143
      { owner := .causeway, align := .locked, tx := .active, rx := .active } (linkIs 143 { formed := true, joint := true, state := .up }
      full))) ∧
    (∃ l seq, Ready (fun t => .cwNak t l seq) (fun u => cwHears l u ∧ (linkOf l u).joint) (0) (laneIs 143
      { owner := .causeway, align := .locked, tx := .active, rx := .active } (linkIs 143 { formed := true, joint := true, state := .up }
      full))) ∧
    (∃ l seq, Ready (fun t => .replayMark t l seq) (fun u => cwHears l u ∧ (linkOf l u).joint) (0) (laneIs 143
      { owner := .causeway, align := .locked, tx := .active, rx := .active } (linkIs 143 { formed := true, joint := true, state := .up }
      full))) ∧
    (∃ l data, Ready (fun t => .cwCredit t l data) (fun u => cwHears l u) (0) (laneIs 143
      { owner := .causeway, align := .locked, tx := .active, rx := .active } (linkIs 143 { formed := true, joint := true, state := .up }
      full))) ∧
    (∃ l, Ready (fun t => .ackTimer t l) (fun u => (linkOf l u).joint ∧ (linkOf l u).state = .up ∧ heldFor (linkOf l u).ackSince 500
      u.elapsed) (500) (laneIs 143 { owner := .causeway, align := .locked, tx := .active, rx := .active } (linkIs 143
      { formed := true, joint := true, state := .up, ackSince := some 0 } full))) ∧
    (∃ l, Ready (fun t => .nakRepeat t l) (fun u => (linkOf l u).joint ∧ (linkOf l u).state = .up ∧ (linkOf l u).replayWait ∧ heldFor
      (linkOf l u).nakAt 2000 u.elapsed) (2000) (laneIs 143 { owner := .causeway, align := .locked, tx := .active, rx := .active } (linkIs
      143 { formed := true, joint := true, state := .up, replayWait := true, nakAt := some 0 } full))) ∧
    (∃ l, Ready (fun t => .creditTimer t l) (fun u => (linkOf l u).state = .up ∧ heldFor (linkOf l u).creditSince 1000 u.elapsed) (1000)
      (laneIs 143 { owner := .causeway, align := .locked, tx := .active, rx := .active } (linkIs 143
      { formed := true, joint := true, state := .up, creditSince := some 0 } full))) ∧
    (∃ l k rest, Ready (fun t => .replayTimer t l) (fun u => (linkOf l u).kept = k :: rest ∧ (linkOf l u).state = .up ∧ k.sentAt +
      k.timerNs ≤ u.elapsed ∧ (linkOf l u).replayFrom ≠ some k.seq) (later) (laneIs 143
      { owner := .causeway, align := .locked, tx := .active, rx := .active } (linkIs 143
      { formed := true, joint := true, state := .up, kept := [⟨5, [], 0, 1000, false⟩] } full))) ∧
    (∃ l, Ready (fun t => .peerStrikeTimeout t l) (fun u => heldFor (linkOf l u).peerStrikeAt (msNs 10) u.elapsed) (10000000) (laneIs 143
      { owner := .causeway, align := .locked, tx := .active, rx := .active } (linkIs 143
      { formed := true, joint := true, state := .up, peerStrikeAt := some 0 } full))) ∧
    (∃ l, Ready (fun t => .fecLock t l) (fun u => cwActive l u ∧ (linkOf l u).joint = false ∧ (laneOf l u).align = .locked ∧ (linkOf l
      u).fecLock = false) (0) (laneIs 127 { align := .locked } (linkIs 127 { formed := true, state := .train } full))) ∧
    (∃ l, Ready (fun t => .lineLoss t l) (fun u => cwActive l u ∧ (linkOf l u).state = .up ∧ heldFor (linkOf l u).lostSince (usNs (linkOf
      l u).downUs) u.elapsed) (200000) (laneIs 143 { owner := .causeway, align := .locked, tx := .active, rx := .active } (linkIs 143
      { formed := true, joint := true, state := .up, lostSince := some 0 } full))) ∧
    (∃ l, Ready (fun t => .graceEnd t l) (fun u => (linkOf l u).state = .hold ∧ (linkOf l u).graceAt.isSome ∧ graceRuns (linkOf l u)
      u.elapsed = false) (0) (laneIs 143 { owner := .causeway, align := .locked, tx := .active, rx := .active } (linkIs 143
      { formed := true, joint := true, state := .hold, graceAt := some 0 } full))) ∧
    (∃ l v, Ready (fun t => .frameSlot t l) (fun u => let w := if 128 ≤ l.val then dealCells u else u; cwActive l u ∧ (laneOf l u).tx =
      .active ∧ replaySlot l (if (linkOf l w).state = .up then noteStalls l w else w) = some v) (0) (laneIs 127
      { owner := .causeway, align := .locked, tx := .active, rx := .active }
      (linkIs 127 { formed := true, fecLock := true, state := .up, replayFrom := some 5, kept := [⟨5, [], 0, 1000, false⟩] } full))) ∧
    (∃ l, Ready (fun t => .frameSlot t l) (fun u => let w := if 128 ≤ l.val then dealCells u else u; cwActive l u ∧ (laneOf l u).tx =
      .active ∧ replaySlot l (if (linkOf l w).state = .up then noteStalls l w else w) = none) (0) (laneIs 127
      { owner := .causeway, align := .locked, tx := .active, rx := .active } (linkIs 127 { formed := true, fecLock := true, state := .up }
      full))) :=
  ⟨⟨143, [], by decide +kernel⟩,
    ⟨143, by decide +kernel⟩,
    ⟨143, [], [], false, .ok, by decide +kernel⟩,
    ⟨127, [], false, .ok, by decide +kernel⟩,
    ⟨143, 0, false, by decide +kernel⟩,
    ⟨143, 0, by decide +kernel⟩,
    ⟨143, 0, by decide +kernel⟩,
    ⟨143, [], by decide +kernel⟩,
    ⟨143, by decide +kernel⟩,
    ⟨143, by decide +kernel⟩,
    ⟨143, by decide +kernel⟩,
    ⟨143, ⟨5, [], 0, 1000, false⟩, [], by decide +kernel⟩,
    ⟨143, by decide +kernel⟩,
    ⟨127, by decide +kernel⟩,
    ⟨143, by decide +kernel⟩,
    ⟨143, by decide +kernel⟩,
    ⟨127, _, by decide +kernel, by decide +kernel, rfl⟩,
    ⟨127, by dsimp only; decide +kernel⟩⟩

theorem witness_TableEventsRun :
    Ready (fun t => .meterRefill t) (fun u => refillDue u.cls.lastMeterRefill u) (0) ({ full with tb := { now := 1024 } }) ∧
    Ready (fun t => .puntRefill t) (fun u => refillDue u.cls.lastPuntRefill u) (0) ({ full with tb := { now := 1024 } }) ∧
    (∃ trie h, Ready (fun t => .reinjected t trie) (fun u => dataPlaneMode u.sup.mode ∧ ctlHalted u = false ∧ missReady u = some h)
      (later)
      ({ full with cls := { full.cls with held := [⟨0, 1, [], [5], 0, 0, false, 0⟩], follow := [(followSetOf [5], [⟨[5], .drop 0, 0, 0, 0, later - 1000, false⟩])] } }))
      ∧
    (∃ trie l, Ready (fun t => .reinjected t trie) (fun u => dataPlaneMode u.sup.mode ∧ ctlHalted u = false ∧ missReady u = none ∧
      datagramReady u = some l) (later) ({ full with cls := { full.cls with held := [⟨0, 2, [], [5], 0, 8, false, 0⟩] } })) ∧
    (∃ b e, Ready (fun t => .searchScrub t b e) (fun u => dataPlaneMode u.sup.mode ∧ (bankOf b u).list ≠ 0xFF ∧ e.val < bankEntries
      (bankOf b u).profile ∧ (Tbl.get {} (bankOf b u).entries e).parityBad = false) (0)
      ({ full with cls := { full.cls with bank := [(31, { profile := 1, list := 3 })] } })) ∧
    (∃ b e repaired, Ready (fun t => .evSearchError t b e repaired) (fun u => (Tbl.get {} (bankOf b u).entries e).parityBad ∧
      dataPlaneMode u.sup.mode ∧ ctlHalted u = false) (0)
      ({ full with cls := { full.cls with bank := [(31, { profile := 1, list := 3, entries := [(511, { parityBad := true })] })] } })) ∧
    (∃ w, Ready (fun t => .learnWindowEnd t) (fun u => (u.fwd.windows.find? fun w => decide (w.start + windowNs ≤ u.tb.now)) = some w)
      (later) ({ full with fwd := { full.fwd with windows := [⟨5, 1, 0, []⟩] } })) ∧
    (∃ r rest, Ready (fun t => .learnResult t) (fun u => u.fwd.results = r :: rest ∧ dataPlaneMode u.sup.mode ∧ ctlHalted u = false) (0)
      ({ full with fwd := { full.fwd with results := [⟨5, 1, 0, []⟩] } })) ∧
    Ready (fun t => .agingSweep t) (fun u => spanFollows u = false ∧ dataPlaneMode u.sup.mode ∧ u.fwd.ageS ≠ 0) (0) full ∧
    (∃ g i double, Ready (fun t => .tableScrub t g i double) (fun u => dataPlaneMode u.sup.mode) (0) full) ∧
    (∃ g i ok, Ready (fun t => .tableRepair t g i ok) (fun u => badOf g i u = some true ∧ dataPlaneMode u.sup.mode ∧ ctlHalted u = false)
      (0) ({ full with fwd := { full.fwd with live := { full.fwd.live with badRoots := [131071] } } })) :=
  ⟨by decide +kernel,
    by decide +kernel,
    ⟨.ok, ⟨0, 1, [], [5], 0, 0, false, 0⟩, by decide +kernel, by decide +kernel,
      follow_ready rfl rfl rfl (by decide +kernel) rfl rfl (by decide +kernel)⟩,
    ⟨.ok, [⟨0, 2, [], [5], 0, 8, false, 0⟩], by decide +kernel⟩,
    ⟨31, 511, by decide +kernel⟩,
    ⟨31, 511, true, by decide +kernel⟩,
    ⟨⟨5, 1, 0, []⟩, by decide +kernel⟩,
    ⟨⟨5, 1, 0, []⟩, [], by decide +kernel⟩,
    by decide +kernel,
    ⟨7, 4096, true, by decide +kernel⟩,
    ⟨3, 131071, true, by decide +kernel⟩⟩

theorem witness_TrussAndEgressRun :
    (∃ k slot d, Ready (fun t => .cellLaunch t k slot) (fun u => trussRuns u ∧ u.dp.slot ≤ slot ∧ (enterSlot slot
      u).dp.slotLaunched.contains k.val = false ∧ launchChoice k ((k + slot) % 8) (enterSlot slot u) = some d) (0)
      ({ full with dp := { full.dp with pipe := [(7, { queues := [(7, [⟨0, true, true, none⟩])] })] } })) ∧
    (∃ m slot c, Ready (fun t => .planeTransfer t m slot 0) (fun u => trussRuns u ∧ u.dp.slot ≤ slot ∧ (enterSlot slot
      u).dp.slotSent.contains m.val = false ∧ transferChoice m ((m + slot) % 8) slot (enterSlot slot u) = some c) (0)
      ({ full with dp := { full.dp with plane := [(7, { cells := [⟨0, 0, 0, ⟨0, true, true, none⟩⟩] })] } })) ∧
    (∃ d k c rest, Ready (fun t => .cellArrival t d) (fun u => (deckOf d u).arriving = (k, c) :: rest ∧ trussRuns u) (0) (deckIs 7
      { arriving := [(0, ⟨0, true, true, none⟩)] } full)) ∧
    (∃ d k h, Ready (fun t => .reseqTimeout t d k) (fun u => dataPlaneMode u.sup.mode ∧ ((reseqOf d k u).held.any fun h => decide (h.at0 +
      reseqHold ≤ u.elapsed)) ∧ lowestHeld (reseqOf d k u) = some h) (later) (deckIs 7
      { reseq := [(7, { held := [⟨⟨0, true, true, none⟩, 0⟩] })] } full)) ∧
    (∃ p, Ready (fun t => .transmissionStart t p) (fun u => schedRuns p u ∧ (egressOf p u).sending = none) (0) (portIs 127
      { typ := 2, link := true } (laneIs 127 { rx := .active, cdr := true, owner := .ethernet } full))) ∧
    (∃ p x, Ready (fun t => .transmissionEnd t p) (fun u => (egressOf p u).sending = some x ∧ x.endAt ≤ 256 * u.elapsed ∧ schedRuns p
      (endSending p u)) (later) (portIs 127 { typ := 2, link := true } (laneIs 127 { rx := .active } (egressIs 127
      { sending := some ⟨0, 1, 0, 0, none, false⟩ } full)))) ∧
    Ready (fun t => .shaperRefill t) (fun u => refillDue u.dp.lastRefill u) (0) ({ full with tb := { now := 1024 } }) ∧
    (∃ p d, Ready (fun t => .evGateTakeover t p) (fun u => (egressOf p u).pend = some d ∧ u.tb.quality ≠ .unset ∧ d.takeover ≤ u.tb.now ∧
      d.fromCommit = false) (later) ({ egressIs 127 { pend := some ⟨none, 5000, false⟩ } full with tb := { quality := .free } })) ∧
    Ready (fun t => .samplePeriodEnd t) (fun u => dataPlaneMode u.sup.mode ∧ u.tb.now % usNs u.dp.sampleUs = 0 ∧ u.dp.lastSample ≠ some
      u.tb.now) (1000000) full :=
  ⟨⟨7, 1, 7, by decide +kernel⟩,
    ⟨7, 1, ⟨0, 0, 0, ⟨0, true, true, none⟩⟩, by decide +kernel⟩,
    ⟨7, 0, ⟨0, true, true, none⟩, [], by decide +kernel⟩,
    ⟨7, 7, ⟨⟨0, true, true, none⟩, 0⟩, by decide +kernel⟩,
    ⟨127, by decide +kernel⟩,
    ⟨127, ⟨0, 1, 0, 0, none, false⟩, by decide +kernel⟩,
    by decide +kernel,
    ⟨127, ⟨none, 5000, false⟩, by decide +kernel⟩,
    by decide +kernel⟩

theorem witness_SpanEventsRun :
    Ready (fun t => .probeTimeout t) (fun u => u.span.state = .probe ∧ u.span.enteredAt + sNs 2 ≤ u.elapsed) (later) (spanIs
      { state := .probe } full) ∧
    Ready (fun t => .aloneProbe t) (fun u => u.span.state = .alone ∧ u.span.probing = false ∧ u.span.probeAt + sNs 10 ≤ u.elapsed) (later)
      (spanIs { state := .alone } full) ∧
    Ready (fun t => .aloneProbeEnd t) (fun u => u.span.state = .alone ∧ u.span.probing ∧ u.span.probeAt + msNs 25 ≤ u.elapsed) (later)
      (spanIs { state := .alone, probing := true } full) ∧
    Ready (fun t => .linkTimeout t) (fun u => u.span.state = .link ∧ u.span.enteredAt + sNs 12 ≤ u.elapsed) (later) (spanIs
      { state := .link } full) ∧
    Ready (fun t => .electionRoundTimeout t) (fun u => u.span.state = .elect ∧ u.span.roundAt + msNs 100 ≤ u.elapsed) (later) (spanIs
      { state := .elect } full) ∧
    (∃ c, Ready (fun t => .spanClaim t (some c)) (fun u => u.span.state = .elect ∧ c.round = u.span.round ∧ claimMismatch c u = none) (0)
      (spanIs { state := .elect, cfg := { spanId := 1 } } full)) ∧
    (∃ c k v, Ready (fun t => .spanClaim t (some c)) (fun u => (u.span.state = .link ∨ u.span.state = .elect ∧ c.round = u.span.round) ∧
      claimMismatch c u = some (k, v)) (0) (spanIs { state := .elect } full)) ∧
    (∃ round serial, Ready (fun t => .spanDecide t round serial) (fun u => u.span.state = .elect ∧ round.toNat = u.span.round) (0) (spanIs
      { state := .elect } full)) ∧
    (∃ off items, off.natAbs ≤ 20 ∧ Ready (fun t => .syncComplete t off items) (fun u => u.span.state = .sync) (0) (spanIs
      { state := .sync } full)) ∧
    Ready (fun t => .heartbeat t false) (fun u => spanJoined u) (0) (spanIs { state := .joined, role := .leader } full) ∧
    Ready (fun t => .heartbeat t true) (fun u => spanJoined u ∧ heartbeatLost u = false) (0) (spanIs { state := .joined, role := .leader }
      full) ∧
    Ready (fun t => .evSpanSplit t 2 false) (fun u => spanJoined u ∧ heldFor u.span.lowSince (msNs u.span.cfg.lossMs) u.elapsed) (later)
      (spanIs { state := .joined, lowSince := some 0 } full) ∧
    Ready (fun t => .evSpanSplit t 3 false) (fun u => spanJoined u ∧ heartbeatLost u) (later) (spanIs { state := .joined } full) ∧
    Ready (fun t => .evSpanSplit t 4 false) (fun u => spanJoined u) (0) (spanIs { state := .joined } full) ∧
    Ready (fun t => .evSpanSplit t 5 false) (fun u => spanJoined u) (0) (spanIs { state := .joined } full) ∧
    (∃ kind payload, Ready (fun t => .mirrorUpdate t kind payload) (fun u => spanFollows u) (0) (spanIs
      { state := .joined, role := .follower } full)) ∧
    spanLeads (advance 0 (spanIs { state := .joined, role := .leader } full)) = true ∧
    (∃ r, Ready (fun t => .relayedMessage t r) (fun u => spanLeads u = false ∧ spanFollows u) (0) (spanIs
      { state := .joined, role := .follower } full)) ∧
    (∃ k d seq sop eop pkt, Ready (fun t => .remoteCell t k d seq sop eop pkt) (fun u => spanJoined u) (0) (spanIs { state := .joined }
      full)) ∧
    (∃ k d h, Ready (fun t => .spanReseqTimeout t k d) (fun u => ((remoteOf k d u).held.any fun h => decide (h.at0 + usNs
      u.span.cfg.reseqUs ≤ u.elapsed)) ∧ lowestRemote (remoteOf k d u) = some h) (later) (spanIs
      { reseq := [(63, { held := [⟨⟨0, true, true, none⟩, 0⟩] })] } full)) ∧
    (∃ off quality, off.natAbs ≤ 20 ∧ Ready (fun t => .spanTimingExchange t off quality) (fun u => followsTime u) (0) (spanIs
      { state := .joined, role := .follower } full)) :=
  ⟨by decide +kernel,
    by decide +kernel,
    by decide +kernel,
    by decide +kernel,
    by decide +kernel,
    ⟨{ round := 0, priority := 128, serial := 2, member := 1, spanId := 1 }, by decide +kernel⟩,
    ⟨{ round := 0, priority := 128, serial := 2, member := 1, spanId := 1 }, 0, 1, by decide +kernel⟩,
    ⟨0, 5, by decide +kernel⟩,
    ⟨20, [], by decide +kernel⟩,
    by decide +kernel,
    by decide +kernel,
    by decide +kernel,
    by decide +kernel,
    by decide +kernel,
    by decide +kernel,
    ⟨0, [], by decide +kernel⟩,
    by decide +kernel,
    ⟨.stageDone true, by decide +kernel⟩,
    ⟨0, 0, 0, true, true, none, by decide +kernel⟩,
    ⟨7, 7, ⟨⟨0, true, true, none⟩, 0⟩, by decide +kernel⟩,
    ⟨20, 0, by decide +kernel⟩⟩

theorem witness_DramEventsRun :
    (∃ c busy, Ready (fun t => .refresh t c busy) (fun u => chPowered c u ∧ (chan c u).stopped = false ∧ (chan c u).lastRefresh +
      refreshNs (chan c u) ≤ u.elapsed) (3900) (chanIs 3 { state := .ready } full)) ∧
    (∃ c ns sweep, Ready (fun t => .retrainSlice t c ns sweep) (fun u => dataPlaneMode u.sup.mode ∧ chPowered c u ∧ u.dbg.modeWrite ≠ some
      c.val ∧ sliceMayRun (chan c u) ns u.elapsed) (0) (chanIs 3 { state := .ready, retrainDue := true } full)) ∧
    (∃ c, Ready (fun t => .retrainWaitExpiry t c) (fun u => dataPlaneMode u.sup.mode ∧ (chan c u).retrainDue ∧ (chan c u).dueSince + sNs
      u.dram.retrainWaitS ≤ u.elapsed) (later) (chanIs 3 { retrainDue := true } full)) ∧
    (∃ c a, Ready (fun t => .retrainRepeat t c) (fun u => (chan c u).repeatAt = some a ∧ a ≤ u.elapsed ∧ dataPlaneMode u.sup.mode ∧
      chPowered c u) (0) (chanIs 3 { state := .ready, repeatAt := some 0 } full)) ∧
    (∃ c line status beats, Ready (fun t => .dramScrub t c line status beats) (fun u => climbOf u = none ∧ dataPlaneMode u.sup.mode ∧
      chPowered c u ∧ u.dbg.modeWrite ≠ some c.val) (0) (chanIs 3 { state := .ready } full)) ∧
    (∃ c region, Ready (fun t => .caAlert t c region false) (fun u => climbOf u = none ∧ chPowered c u) (0) (chanIs 3 { state := .ready }
      full)) ∧
    (∃ c, Ready (fun t => .alertNHigh t c) (fun u => chPowered c u ∧ (chan c u).stopped) (0) (chanIs 3
      { state := .ready, stopped := true } full)) ∧
    (∃ c r clean, Ready (fun t => .routeRepair t c clean) (fun u => (u.dram.repairs.find? fun r => r.channel == c.val) = some r ∧
      dataPlaneMode u.sup.mode ∧ ctlHalted u = false) (0) ({ full with dram := { full.dram with repairs := [⟨3, 0, 0, 0, 1⟩] } })) ∧
    (∃ c, Ready (fun t => .copyRebuild t c) (fun u => dataPlaneMode u.sup.mode ∧ (chan c u).rebuild) (0) (chanIs 3 { rebuild := true }
      full)) :=
  ⟨⟨3, false, by decide +kernel⟩,
    ⟨3, 10000, [], by decide +kernel⟩,
    ⟨3, by decide +kernel⟩,
    ⟨3, 0, by decide +kernel⟩,
    ⟨3, 0, 0, 0, by decide +kernel⟩,
    ⟨3, 0, by decide +kernel⟩,
    ⟨3, by decide +kernel⟩,
    ⟨3, ⟨3, 0, 0, 0, 1⟩, true, by decide +kernel⟩,
    ⟨3, by decide +kernel⟩⟩

theorem witness_FieldEventsRun :
    (∃ pin mv, Ready (fun t => .fioInputChange t pin mv) (fun u => fieldRuns u) (0) (pinIs 7 {  } full)) ∧
    (∃ pin, Ready (fun t => .debounce t pin) (fun u => fieldRuns u) (0) (pinIs 7 {  } full)) ∧
    (∃ pin, Ready (fun t => .currentLimit t pin true) (fun u => fieldRuns u ∧ (fioOf pin u).mode = 3 ∧ (fioOf pin u).on) (0) (pinIs 7
      { mode := 3, on := true } full)) ∧
    (∃ pin, Ready (fun t => .currentLimit t pin false) (fun u => fieldRuns u ∧ (fioOf pin u).mode = 3 ∧ (fioOf pin u).on) (0) (pinIs 7
      { mode := 3, on := true } full)) ∧
    (∃ pin, Ready (fun t => .overcurrentLatch t pin) (fun u => fieldRuns u ∧ (fioOf pin u).mode = 3 ∧ (fioOf pin u).on ∧ heldFor (fioOf
      pin u).limitSince (usNs 200) u.elapsed) (200000) (pinIs 7 { mode := 3, on := true, limitSince := some 0 } full)) ∧
    (∃ pin, Ready (fun t => .outputRetry t pin) (fun u => let p := fioOf pin u; fieldRuns u ∧ p.mode = 3 ∧ p.latched ∧ p.retry ∧ p.on =
      false ∧ p.commanded ∧ driveOf p ∧ p.retryNum < retryInstant p u.elapsed) (later) (pinIs 7
      { mode := 3, latched := true, retry := true, commanded := true } full)) ∧
    (∃ pin, Ready (fun t => .readbackConflict t pin) (fun u => fieldRuns u ∧ (fioOf pin u).conflict = false ∧ testHeld false (fioOf pin u)
      u.elapsed) (10000000) (pinIs 7 { test := some (false, 0) } full)) ∧
    (∃ pin, Ready (fun t => .conflictClear t pin) (fun u => fieldRuns u ∧ (fioOf pin u).conflict ∧ testHeld true (fioOf pin u) u.elapsed)
      (10000000) (pinIs 7 { conflict := true, test := some (true, 0) } full)) ∧
    (∃ pin x, Ready (fun t => .pulseStart t pin) (fun u => (fioOf pin u).pulse = some x ∧ timerDue .fio x.timer u ∧ x.active = false) (0)
      (pinIs 7 { pulse := some ⟨true, 0, 1000, 3, false⟩ } (timerIs 3 { owner := .fio, armed := true } full))) ∧
    (∃ pin x, Ready (fun t => .pulseEnd t pin) (fun u => (fioOf pin u).pulse = some x ∧ timerDue .fio x.timer u ∧ x.active) (0) (pinIs 7
      { pulse := some ⟨true, 0, 1000, 3, true⟩ } (timerIs 3 { owner := .fio, armed := true } full))) ∧
    (∃ low high, Ready (fun t => .vinConversion t low high) (fun u => adcRuns u) (0) full) ∧
    (∃ c openTest code value, c ≠ 0 ∧ Ready (fun t => .adcConversion t c openTest code value) (fun u => adcRuns u ∧ adcEnabled c u) (0)
      full) ∧
    (∃ g, Ready (fun t => .adcCapture t) (fun u => u.io.capture = some g ∧ timerDue .adc g u) (0)
      ({ (timerIs 3 { owner := .adc, armed := true } full) with io := { full.io with capture := some 3 } })) :=
  ⟨⟨7, 0, by decide +kernel⟩,
    ⟨7, by decide +kernel⟩,
    ⟨7, by decide +kernel⟩,
    ⟨7, by decide +kernel⟩,
    ⟨7, by decide +kernel⟩,
    ⟨7, by dsimp only; decide +kernel⟩,
    ⟨7, by decide +kernel⟩,
    ⟨7, by decide +kernel⟩,
    ⟨7, ⟨true, 0, 1000, 3, false⟩, by decide +kernel⟩,
    ⟨7, ⟨true, 0, 1000, 3, true⟩, by decide +kernel⟩,
    ⟨0, 0, by decide +kernel⟩,
    ⟨2, false, 0, 0, by decide +kernel⟩,
    ⟨3, by decide +kernel⟩⟩

theorem witness_CounterEventsRun :
    (∃ x, Ready (fun t => .snapshotScheduleFire t) (fun u => u.cnt.sched = some x ∧ timerDue .snapshot x.timer u ∧ ch0Powered (setTimer
      x.timer (firedTimer (timerOf x.timer u) u.tb.now) u)) (0)
      ({ chanIs 0 { state := .ready } (timerIs 3 { owner := .snapshot, armed := true } full) with cnt := { full.cnt with sched := some ⟨3⟩ } }))
      ∧
    Ready (fun t => .bwWindowEnd t) (fun u => dataPlaneMode u.sup.mode ∧ u.cnt.bwStart + usNs u.cnt.bwWindowUs ≤ u.tb.now) (later) full ∧
    (∃ n, Ready (fun t => .monitorWindowEnd t n) (fun u => monitorsRun u ∧ (monOf n u).kind = 1) (0)
      ({ full with cnt := { full.cnt with monitors := [(15, { kind := 1 })] } })) ∧
    (∃ w k task pc, Ready (fun t => .perfOverflow t w k task pc) (fun u => let x := Tbl.get {} (coreDbg w u).perf k.val; coreUp w u ∧
      (coreDbg w u).halted = false ∧ (bitOf x.mask task.val ∨ x.event = 1) ∧ x.mode = 2) (0)
      ({ full with dbg := { full.dbg with control := { perf := [(5, { mask := 2, mode := 2 })] } } })) ∧
    (∃ w k task pc, Ready (fun t => .perfOverflow t w k task pc) (fun u => let x := Tbl.get {} (coreDbg w u).perf k.val; coreUp w u ∧
      (coreDbg w u).halted = false ∧ (bitOf x.mask task.val ∨ x.event = 1) ∧ x.mode = 1) (0)
      ({ full with dbg := { full.dbg with control := { perf := [(5, { mask := 2, mode := 1 })] } } })) :=
  ⟨⟨⟨3⟩, by decide +kernel⟩,
    by decide +kernel,
    ⟨15, by decide +kernel⟩,
    ⟨false, 5, 1, 0, by dsimp only; decide +kernel⟩,
    ⟨false, 5, 1, 0, by dsimp only; decide +kernel⟩⟩

theorem witness_DebugRowsRun :
    Ready (fun t => .extest t) (fun u => u.sup.mode ≠ .off ∧ u.dbg.opened = true) 0
      { full with dbg := { full.dbg with opened := true, tap := .dbg } } ∧
    Ready (fun t => .clamp t) (fun u => u.sup.mode ≠ .off ∧ u.dbg.opened = true) 0
      { full with dbg := { full.dbg with opened := true, tap := .dbg } } ∧
    Ready (fun t => .highz t) (fun u => u.sup.mode ≠ .off ∧ u.dbg.opened = true) 0
      { full with dbg := { full.dbg with opened := true, tap := .dbg } } ∧
    Ready (fun t => .dbg t) (fun u => u.sup.mode ≠ .off ∧ u.dbg.opened = true) 0
      { full with dbg := { full.dbg with opened := true, tap := .dbg } } ∧
    Ready (fun t => .idcode t) (fun u => u.sup.mode ≠ .off) (0) full ∧
    (∃ lands data, Ready (fun t => .samplePreload t lands data) (fun u => u.sup.mode ≠ .off) (0) full) ∧
    (∃ op, ownOpcode op.toNat = false ∧ Ready (fun t => .bypass t op) (fun u => u.sup.mode ≠ .off) (0) full) ∧
    (∃ space addr, Ready (fun t => .debugRead t space addr) (fun u => u.dbg.opened ∧ u.dbg.tap = .dbg ∧ u.sup.mode ≠ .off ∧ debugAllowed
      false space.val addr.toNat (emit (.tdo (captureField u.dbg)) u)) (0)
      ({ full with dbg := { full.dbg with opened := true, tap := .dbg } })) ∧
    (∃ space addr data, space.val ≠ 3 ∧ Ready (fun t => .debugWrite t space addr data) (fun u => u.dbg.opened ∧ u.dbg.tap = .dbg ∧
      u.sup.mode ≠ .off ∧ debugAllowed true space.val addr.toNat (emit (.tdo (captureField u.dbg)) u)) (0)
      ({ full with dbg := { full.dbg with opened := true, tap := .dbg, control := { halted := true } } })) ∧
    (∃ w seq left, Ready (fun t => .dbgHalt t w seq left) (fun u => u.dbg.opened ∧ u.dbg.tap = .dbg ∧ u.sup.mode ≠ .off) 0
      { full with dbg := { full.dbg with opened := true, tap := .dbg } }) ∧
    (∃ w, Ready (fun t => .dbgResume t w) (fun u => u.dbg.opened ∧ u.dbg.tap = .dbg ∧ u.sup.mode ≠ .off) 0
      { full with dbg := { full.dbg with opened := true, tap := .dbg } }) ∧
    (∃ w, Ready (fun t => .dbgStep t w) (fun u => u.dbg.opened ∧ u.dbg.tap = .dbg ∧ u.sup.mode ≠ .off) 0
      { full with dbg := { full.dbg with opened := true, tap := .dbg } }) ∧
    Ready (fun t => .debugReset t) (fun u => u.dbg.opened ∧ u.dbg.tap = .dbg ∧ u.sup.mode ≠ .off) 0
      { full with dbg := { full.dbg with opened := true, tap := .dbg } } ∧
    Ready (fun t => .debugFreezeWrite t) (fun u => u.dbg.opened ∧ u.dbg.tap = .dbg ∧ u.sup.mode ≠ .off) 0
      { full with dbg := { full.dbg with opened := true, tap := .dbg } } ∧
    Ready (fun t => .clearLockBroken t) (fun u => u.dbg.opened ∧ u.dbg.tap = .dbg ∧ u.sup.mode ≠ .off) 0
      { full with dbg := { full.dbg with opened := true, tap := .dbg } } ∧
    (∃ w x since, Ready (fun t => .forcedHalt t w) (fun u => (coreDbg w u).pend = some (x, since) ∧ since + haltWaitNs ≤ u.elapsed) (2000)
      ({ full with dbg := { full.dbg with control := { pend := some (.epochCommit, 0) } } })) ∧
    Ready (fun t => .debugAccessExpiry t) (fun u => u.dbg.opened ∧ u.dbg.endsAt ≤ u.elapsed) (0)
      ({ full with dbg := { full.dbg with opened := true } }) :=
  ⟨by decide,
    by decide,
    by decide,
    by decide,
    by decide +kernel,
    ⟨[], [], by decide +kernel⟩,
    ⟨0xFF, by decide +kernel⟩,
    ⟨0, 0, by decide +kernel⟩,
    ⟨0, 0, 0, by decide +kernel⟩,
    ⟨true, none, 0, by decide⟩,
    ⟨true, by decide⟩,
    ⟨true, by decide⟩,
    by decide,
    by decide,
    by decide,
    ⟨false, .epochCommit, 0, by decide +kernel⟩,
    by decide +kernel⟩

theorem witness_FrontCommandRuns :
    ∃ (c : Instr) (rest : List Instr) (s : State), s.pending = c :: rest ∧ c = .cacheExpiry 0 ∧ rest = [.cacheExpiry 1] :=
  ⟨_, _, { full with pending := [.cacheExpiry 0, .cacheExpiry 1] }, rfl, rfl, rfl⟩

theorem witness_EmptyQueueIdles :
    ∃ s : State, s.pending = [] :=
  ⟨full, rfl⟩

theorem witness_StepKeepsMemoryCanonical :
    ∃ s s', step s = .next s' ∧ Memory.wf s = true ∧ s.host.buffer ≠ s'.host.buffer :=
  ⟨{ full with pending := [.hostWindowWrite 0 .spi 0x4000 .w32 false 5] }, _, rfl, by decide +kernel, by decide +kernel⟩

theorem witness_StepKeepsQueueIdentityClock :
    ∃ s s', step s = .next s' ∧ s.pending = [.cacheExpiry 5] :=
  ⟨{ full with pending := [.cacheExpiry 5] }, _, rfl, rfl⟩

theorem witness_FlashChangedOnlyByItsWriters :
    ∃ i s v, writesFlash i = false ∧ exec i s = .next v ∧ s.flash ≠ [] :=
  ⟨.cacheExpiry 0, { full with flash := [(0, 5)] }, _, rfl, rfl, by decide⟩

theorem witness_ReadOnlyRoleRefused :
    ∃ i c q s x, requestOf i = some (c, q) ∧ reaches c q s = true ∧ cmdKnown c (advance q.t s) = true ∧
      findSession q.session (advance q.t s) = some x ∧ x.controlling = false ∧ c.row.control = true :=
  ⟨.modeSet (ask (z 4)), .modeSet, ask (z 4), { full with kmp := { full.kmp with sessions := [{ owner with controlling := false }] } }, { owner with controlling := false }, by decide +kernel⟩

theorem witness_UnknownAndModeRefused :
    (∃ i c q s, requestOf i = some (c, q) ∧ reaches c q s = true ∧ cmdKnown c (advance q.t s) = false) ∧
    (∃ i c q s x, requestOf i = some (c, q) ∧ reaches c q s = true ∧ cmdKnown c (advance q.t s) = true ∧
      findSession q.session (advance q.t s) = some x ∧ (c.row.control = true → x.controlling = true) ∧
      cmdInMode c (advance q.t s).sup.mode = false) :=
  ⟨⟨.siteLabelGet (ask []), .siteLabelGet, ask [], full, by decide +kernel⟩,
    ⟨.recordErase (ask (z 4)) true, .recordErase, ask (z 4), full, owner, by decide +kernel⟩⟩

theorem witness_SeqWindowEnds :
    (∃ i c q s x, requestOf i = some (c, q) ∧ heard c q s = true ∧ (advance q.t s).boot.recovery = false ∧ q.session ≠ 0 ∧
      findSession q.session (advance q.t s) = some x ∧ q.auth = x.keySlot.isSome ∧
      cacheFind q.requestId (advance q.t s).elapsed (sessionCache x (advance q.t s)) = none ∧
      (advance q.t s).kmp.waiting.length < waitingMax ∧ q.seq = (x.h + 1024) % 65536) ∧
    (∃ i c q s x, requestOf i = some (c, q) ∧ heard c q s = true ∧ (advance q.t s).boot.recovery = false ∧ q.session ≠ 0 ∧
      findSession q.session (advance q.t s) = some x ∧ q.auth = x.keySlot.isSome ∧
      cacheFind q.requestId (advance q.t s).elapsed (sessionCache x (advance q.t s)) = none ∧
      (advance q.t s).kmp.waiting.length < waitingMax ∧ q.seq = (x.h + 1024) % 65536) ∧
    (∃ i c q s x, requestOf i = some (c, q) ∧ heard c q s = true ∧ (advance q.t s).boot.recovery = false ∧ q.session ≠ 0 ∧
      findSession q.session (advance q.t s) = some x ∧ q.auth = x.keySlot.isSome ∧
      cacheFind q.requestId (advance q.t s).elapsed (sessionCache x (advance q.t s)) = none ∧
      (advance q.t s).kmp.waiting.length < waitingMax ∧ q.seq = (x.h + 1025) % 65536) ∧
    (∃ i c q s x, requestOf i = some (c, q) ∧ heard c q s = true ∧ (advance q.t s).boot.recovery = false ∧ q.session ≠ 0 ∧
      findSession q.session (advance q.t s) = some x ∧ q.auth = x.keySlot.isSome ∧
      cacheFind q.requestId (advance q.t s).elapsed (sessionCache x (advance q.t s)) = none ∧
      (advance q.t s).kmp.waiting.length < waitingMax ∧ q.seq = x.h % 65536) :=
  ⟨⟨.modeGet { ask [] with seq := 1024 }, .modeGet, { ask [] with seq := 1024 }, full, owner, by decide +kernel⟩,
    ⟨.modeGet { ask [] with seq := 1023 }, .modeGet, { ask [] with seq := 1023 }, { full with kmp := { full.kmp with sessions := [{ owner with h := 65535 }] } }, { owner with h := 65535 }, by decide +kernel⟩,
    ⟨.modeGet { ask [] with seq := 1025 }, .modeGet, { ask [] with seq := 1025 }, full, owner, by decide +kernel⟩,
    ⟨.modeGet { ask [] with seq := 65535 }, .modeGet, { ask [] with seq := 65535 }, { full with kmp := { full.kmp with sessions := [{ owner with h := 65535 }] } }, { owner with h := 65535 }, by decide +kernel⟩⟩

theorem witness_DuplicatesAnswered :
    (∃ i c q s x e, requestOf i = some (c, q) ∧ heard c q s = true ∧ (advance q.t s).boot.recovery = false ∧ q.session ≠ 0 ∧
      findSession q.session (advance q.t s) = some x ∧ q.auth = x.keySlot.isSome ∧
      cacheFind q.requestId (advance q.t s).elapsed (sessionCache x (advance q.t s)) = some e) ∧
    (∃ q s e, heard .sessionOpen q s = true ∧ (advance q.t s).boot.recovery = false ∧ q.session = 0 ∧
      cacheFind q.requestId (advance q.t s).elapsed (advance q.t s).kmp.openCache = some e) ∧
    (∃ i c q s e, requestOf i = some (c, q) ∧ heard c q s = true ∧ (advance q.t s).boot.recovery = true ∧ q.session = 0 ∧ q.auth = true ∧
      cacheFind q.requestId (advance q.t s).elapsed (advance q.t s).kmp.recoveryCache = some e) :=
  ⟨⟨.modeGet (ask []), .modeGet, ask [], { full with kmp := { full.kmp with ctlCache := [⟨7, 0x0201, [], 0, [], 0⟩] } }, owner, ⟨7, 0x0201, [], 0, [], 0⟩, by decide +kernel⟩,
    ⟨{ ask [] with session := 0 }, { full with kmp := { full.kmp with openCache := [⟨7, 0x0201, [], 0, [], 0⟩] } }, ⟨7, 0x0201, [], 0, [], 0⟩, by decide +kernel⟩,
    ⟨.bootStatusGet { ask [] with session := 0 }, .bootStatusGet, { ask [] with session := 0 },
      { full with boot := { recovery := true }, kmp := { full.kmp with recoveryCache := [⟨7, 0x0201, [], 0, [], 0⟩] } }, ⟨7, 0x0201, [], 0, [], 0⟩, by decide +kernel⟩⟩

theorem witness_RaisedEventIsHeld :
    ∃ s, spanFollows s = false ∧ tickNs s.sup.mode ≠ 0 :=
  ⟨full, by decide⟩

theorem witness_AccessErrRecords :
    (∃ s : State, s.host.err.count = 0) ∧ (∃ s : State, s.host.err.count = 255) :=
  ⟨⟨full, by decide⟩, ⟨{ full with host := { full.host with err := { count := 255 } } }, by decide⟩⟩

theorem witness_UnalignedNotPerformed :
    (∃ path, ∃ off : BitVec 16, ∃ w uneven, ∃ u : State, pathUp path u = true ∧ (uneven = true ∨ off.toNat % widthBytes w ≠ 0)) ∧
    (∃ path, ∃ k : Fin 4, ∃ w, ∃ u : State, pathUp path u = true ∧ k.val % widthBytes w ≠ 0) :=
  ⟨⟨.spi, 0xFFFF, .w16, false, full, by decide⟩, ⟨.spi, 3, .w16, full, by decide⟩⟩

theorem witness_UnmappedAccessesLogged :
    ∃ path, ∃ off : BitVec 16, ∃ w, ∃ u : State, pathUp path u = true ∧ off.toNat < 0x8000 ∧ off.toNat % widthBytes w = 0 ∧
      windowWord path (off.toNat / 4 * 4) u = none :=
  ⟨.spi, 0x3FFF, .w8, full, by decide +kernel⟩

theorem witness_ModeSetRefusals :
    Meets .modeSet .modeSet (fun q u => q.payload.length = 4 ∧ f1 q.payload 0 ≤ 3 ∧ effMode u ≠ .freeze ∧ rank (effMode u) < f1 q.payload
      0 ∧ vinEff u < onMv (f1 q.payload 0) u) (ask (enc [(1, 3), (3, 0)])) watch ∧
    (∃ q s v, admitted .modeSet q s = true ∧ q.payload.length = 4 ∧ f1 q.payload 0 ≤ 3 ∧ effMode (entered .modeSet q s) ≠ .freeze ∧
      rank (effMode (entered .modeSet q s)) < f1 q.payload 0 ∧
      vinEff (entered .modeSet q s) < onMv (f1 q.payload 0) (entered .modeSet q s) ∧ exec (.modeSet q) s = .next v) ∧
    Meets .modeSet .modeSet (fun q _ => q.payload.length = 4 ∧ (f1 q.payload 0 = 4 ∨ f1 q.payload 0 = 5)) (ask (enc [(1, 5), (3, 0)]))
      watch ∧
    Meets .modeSet .modeSet (fun q u => q.payload.length = 4 ∧ (f1 q.payload 0 = 2 ∨ f1 q.payload 0 = 3) ∧ u.sup.mode = .freeze ∧
      u.sup.transition = none) (ask (enc [(1, 2), (3, 0)])) (serving .freeze) ∧
    Meets .modeSet .modeSet (fun q u => q.payload.length = 4 ∧ f1 q.payload 0 = 0 ∧ u.wake.sources = 0) (ask (z 4)) watch :=
  ⟨by decide +kernel,
    ⟨ask (enc [(1, 3), (3, 0)]), watch, _, by decide +kernel, by decide +kernel, by decide +kernel, by decide +kernel, by decide +kernel,
      by decide +kernel, rfl⟩,
    by decide +kernel,
    by decide +kernel,
    by decide +kernel⟩

theorem witness_TimeRefusals :
    Meets .timeSet .timeSet (fun q u => q.payload.length = 12 ∧ tbFieldOk q.payload 0 ∧ (u.tb.quality = .lockedPps ∨ u.tb.quality =
      .lockedPtp) ∧ bitOf (f1 q.payload 10) 0 = false) (ask (z 12)) ({ full with tb := { quality := .lockedPtp } }) ∧
    (∃ q s, admitted .timeSet q s = true ∧ q.payload.length = 12 ∧ tbFieldOk q.payload 0 = true ∧
      (bitOf (f1 q.payload 10) 0 = true ∨
        (entered .timeSet q s).tb.quality ≠ .lockedPps ∧ (entered .timeSet q s).tb.quality ≠ .lockedPtp)) ∧
    Meets .rtcAlarmSet .rtcAlarmSet (fun q u => q.payload.length = 12 ∧ (f4 q.payload 6 = 0 ∨ 60 ≤ f4 q.payload 6 ∧ f4 q.payload 6 ≤
      604800) ∧ field q.payload 0 6 ≠ 0 ∧ field q.payload 0 6 ≤ rtcSeconds u) (ask (enc [(6, 1), (4, 0), (2, 0)]))
      ({ full with rtc := { ticks := 32768, running := true } }) ∧
    Meets .timerRelease .timerRelease (fun q u => q.payload.length = 1 ∧ f1 q.payload 0 ≤ 7 ∧ (timerOf (f1 q.payload 0) u).owner ≠ .free ∧
      (timerOf (f1 q.payload 0) u).owner ≠ .kmp) (ask (enc [(1, 7)])) (timerIs 7 { owner := .fio } full) :=
  ⟨by decide +kernel,
    ⟨ask (z 10 ++ [1, 0]), { full with tb := { quality := .lockedPps } }, by decide +kernel⟩,
    by decide +kernel,
    by decide +kernel⟩

theorem witness_OtherRefusals :
    Meets .wakeConfigSet .wakeConfigSet (fun q u => q.payload.length = 4 ∧ f1 q.payload 1 ≤ 1 ∧ ∃ n, n < 8 ∧ (bitOf (f1 q.payload 2) n ∨
      bitOf (f1 q.payload 3) n) ∧ (fioOf n u).mode = 3) (ask (enc [(1, 0), (1, 0), (1, 128), (1, 0)])) (pinIs 7 { mode := 3 } full) ∧
    Meets .restart .restart (fun q u => q.payload.length = 4 ∧ f4 q.payload 0 ≠ u.boot.bootCount) (ask (enc [(4, 1)])) full ∧
    (∃ q s, admitted .restart q s = true ∧ q.payload.length = 4 ∧ f4 q.payload 0 = (entered .restart q s).boot.bootCount) ∧
    Meets .stageOpen .stageOpen (fun q u => f4 q.payload 0 ≠ 0 ∧ 1 ≤ f1 q.payload 8 ∧ f1 q.payload 8 ≤ 32 ∧ q.payload.length = 12 + 8 * f1
      q.payload 8 ∧ u.kmp.stage = none ∧ ∃ x ∈ parts q.payload 12 8 (f1 q.payload 8), itemTypeOk (f2 x 0) = false) (ask (enc [(4, 1), (4,
      0), (1, 1), (3, 0), (2, 0x0412), (2, 0), (4, 0)])) full ∧
    Meets .stageOpen .stageOpen (fun q u => f4 q.payload 0 ≠ 0 ∧ 1 ≤ f1 q.payload 8 ∧ f1 q.payload 8 ≤ 32 ∧ q.payload.length = 12 + 8 * f1
      q.payload 8 ∧ u.kmp.stage = none ∧ (∀ x ∈ parts q.payload 12 8 (f1 q.payload 8), itemTypeOk (f2 x 0) = true) ∧ 524288 < ((parts
      q.payload 12 8 (f1 q.payload 8)).map fun x => f4 x 4).sum) (ask (enc [(4, 1), (4, 0), (1, 1), (3, 0), (2, 0x0410), (2, 0), (4,
      524289)])) full ∧
    Meets .stageCancel .stageCancel (fun q u => q.payload.length = 4 ∧ ∃ g, stageOf (f4 q.payload 0) u = some g ∧ g.phase = .building)
      (ask (enc [(4, 1)]))
      ({ full with kmp := { full.kmp with stage := some ⟨1, 0, [⟨0x0410, 100, [], .incomplete, none⟩], .building⟩ } }) ∧
    Meets .cwFlush .cwFlush (fun q u => q.payload.length = 4 ∧ f1 q.payload 0 ≤ 143 ∧ (laneOf (f1 q.payload 0) u).owner = .causeway ∧
      (linkOf (f1 q.payload 0) u).state ≠ .up ∧ (linkOf (f1 q.payload 0) u).state ≠ .hold) (ask (enc [(1, 143), (3, 0)])) (laneIs 143
      { owner := .causeway } (linkIs 143 { formed := true, state := .init } full)) :=
  ⟨by decide +kernel,
    by decide +kernel,
    ⟨ask (z 4), full, by decide +kernel⟩,
    by decide +kernel,
    by decide +kernel,
    by decide +kernel,
    by decide +kernel⟩

end Sys2Proof.Tests
end

section
/-! SUPPORT. Proofs, SupplyAndModes: what the commands of the supply, the modes, the stage and the links are turned away for (R54 to R56,
R62, R138, R203, R204, R360). -/

namespace Sys2Proof.Proofs.SupplyAndModes
open Sys2Proof Sys2Proof.Machine Sys2Proof.Safety Sys2Proof.Laws

/-! ### The checks of a command, one rule for each form of its first check -/

theorem checks_pass {b : Bool} {e : Err} {l : List (Bool × Err)} {k : Body} (h : b = true) : checks ((b, e) :: l) k = checks l k := by
  subst h; rfl

theorem checks_fail {b : Bool} {e : Err} {l : List (Bool × Err)} {k : Body} (h : b = false) : checks ((b, e) :: l) k = .error e := by
  subst h; rfl

theorem checks_lenIs {q : Req} {n : Nat} {l : List (Bool × Err)} {k : Body} (h : q.payload.length = n) :
    checks (lenIs q n :: l) k = checks l k :=
  checks_pass (decide_eq_true h)

/-! ### MODE_SET -/

/-- With no transition under way a MODE_SET starts from the present mode. -/
theorem effMode_of_resting {u : State} (ht : u.sup.transition = none) : effMode u = u.sup.mode := by
  unfold effMode; rw [ht]

section
variable {q : Req} {u : State}

theorem modeSetBody_modeVin (hlen : q.payload.length = 4) (hcode : f1 q.payload 0 ≤ 3) (hfreeze : effMode u ≠ .freeze)
    (hup : rank (effMode u) < f1 q.payload 0) (hvin : vinEff u < onMv (f1 q.payload 0) u) : modeSetBody q u = .error .modeVin := by
  have hpos : f1 q.payload 0 ≠ 0 := by omega
  unfold modeSetBody
  dsimp only
  rw [checks_lenIs hlen, checks_pass, checks_pass, checks_pass, checks_pass, checks_fail]
  · simp [hup, hvin]
  · simp [hpos]
  · simp [hfreeze]
  · simpa using hcode
  · exact decide_eq_true (by omega)

theorem modeSetBody_modeTarget (hlen : q.payload.length = 4) (hcode : f1 q.payload 0 = 4 ∨ f1 q.payload 0 = 5) :
    modeSetBody q u = .error .modeTarget := by
  unfold modeSetBody
  dsimp only
  rw [checks_lenIs hlen, checks_pass, checks_fail]
  · exact decide_eq_false (by omega)
  · exact decide_eq_true (by omega)

theorem modeSetBody_modeFrozen (hlen : q.payload.length = 4) (hcode : f1 q.payload 0 = 2 ∨ f1 q.payload 0 = 3)
    (hfreeze : effMode u = .freeze) : modeSetBody q u = .error .modeFrozen := by
  have hup : 2 ≤ f1 q.payload 0 := by omega
  unfold modeSetBody
  dsimp only
  rw [checks_lenIs hlen, checks_pass, checks_pass, checks_fail]
  · simp [hfreeze, hup]
  · exact decide_eq_true (by omega)
  · exact decide_eq_true (by omega)

theorem modeSetBody_noWake (hlen : q.payload.length = 4) (hcode : f1 q.payload 0 = 0) (hwake : u.wake.sources = 0) :
    modeSetBody q u = .error .noWake := by
  unfold modeSetBody
  dsimp only
  rw [checks_lenIs hlen, checks_pass, checks_pass, checks_pass, checks_fail]
  · simp [hcode, hwake]
  · simp [hcode]
  · simp [hcode]
  · simp [hcode]

end

/-- The answer that turns a request away leaves the supply as the request found it: its mode, its target, its transition. -/
theorem turnsAway_sup {c : Cmd} {q : Req} {i : Instr} {s v : State} {e : Err} (ha : admitted c q s = true) (ht : TurnsAway c q i s e)
    (hv : exec i s = .next v) : v.sup = s.sup := by
  obtain rfl := Host.Outcome.next.inj (ht.symm.trans hv)
  rw [finish_answered, entered_sup ha]

/-- R54: a MODE_SET to a higher mode with VIN below its ON threshold. -/
theorem modeSet_refuses_modeVin : Refuses .modeSet .modeSet
    (fun q u => q.payload.length = 4 ∧ f1 q.payload 0 ≤ 3 ∧ effMode u ≠ .freeze ∧ rank (effMode u) < f1 q.payload 0 ∧
      vinEff u < onMv (f1 q.payload 0) u) .modeVin :=
  refuses_of_body (fun _ _ => rfl) fun _ _ ⟨hlen, hcode, hfreeze, hup, hvin⟩ => modeSetBody_modeVin hlen hcode hfreeze hup hvin

/-- Settles O58: each clause meets the check that its rule states and passes those before it; the answer leaves TARGET_MODE alone. -/
theorem modeSetRefusals : Obligations.ModeSetRefusals := by
  unfold Obligations.ModeSetRefusals
  refine ⟨modeSet_refuses_modeVin, ?_, ?_, ?_, ?_⟩
  · intro q s v ha hlen hcode hfreeze hup hvin hv
    rw [turnsAway_sup ha (modeSet_refuses_modeVin q s ha ⟨hlen, hcode, hfreeze, hup, hvin⟩) hv]
  · exact refuses_of_body (fun _ _ => rfl) fun _ _ ⟨hlen, hcode⟩ => modeSetBody_modeTarget hlen hcode
  · exact refuses_of_body (fun _ _ => rfl) fun _ _ ⟨hlen, hcode, hmode, hrest⟩ =>
      modeSetBody_modeFrozen hlen hcode ((effMode_of_resting hrest).trans hmode)
  · exact refuses_of_body (fun _ _ => rfl) fun _ _ ⟨hlen, hcode, hwake⟩ => modeSetBody_noWake hlen hcode hwake

/-! ### WAKE_CONFIG_SET, RESTART, the stage and CW_FLUSH -/

/-- A mask asks for an output where one of its bits is that of a pin configured as one. -/
theorem masksOutput_iff (m : Nat) (u : State) : masksOutput m u = true ↔ ∃ n < 8, bitOf m n = true ∧ (fioOf n u).mode = 3 := by
  simp [masksOutput]

section
variable {q : Req} {u : State}

theorem wakeConfigSetBody_pinBusy (hlen : q.payload.length = 4) (hlevel : f1 q.payload 1 ≤ 1)
    (hmask : masksOutput (f1 q.payload 2) u = true ∨ masksOutput (f1 q.payload 3) u = true) :
    wakeConfigSetBody q u = .error .pinBusy := by
  unfold wakeConfigSetBody
  dsimp only
  rw [checks_lenIs hlen, checks_pass (decide_eq_true hlevel), checks_fail]
  rcases hmask with h | h <;> simp [h]

theorem restartBody_stale (hlen : q.payload.length = 4) (hboot : f4 q.payload 0 ≠ u.boot.bootCount) :
    restartBody q u = .error .stale := by
  unfold restartBody
  rw [checks_lenIs hlen, checks_fail (decide_eq_false hboot)]

theorem restartBody_restarts (hlen : q.payload.length = 4) (hboot : f4 q.payload 0 = u.boot.bootCount) :
    restartBody q u =
      .ok (restartRun .restart (finish Cmd.restart.row.code q (findSession q.session u) true 0 [] u), .later) := by
  unfold restartBody
  rw [checks_lenIs hlen, checks_pass (decide_eq_true hboot)]
  rfl

/-- A STAGE_OPEN of well-formed length with no stage open is judged by its items: their types, then their sizes. -/
theorem stageOpenBody_of_wellFormed (hid : f4 q.payload 0 ≠ 0) (h1 : 1 ≤ f1 q.payload 8) (h32 : f1 q.payload 8 ≤ 32)
    (hlen : q.payload.length = 12 + 8 * f1 q.payload 8) (hnone : u.kmp.stage = none) :
    ∃ k, stageOpenBody q u =
      checks [((parts q.payload 12 8 (f1 q.payload 8)).all fun x => itemTypeOk (f2 x 0), .stageItem),
        (decide (((parts q.payload 12 8 (f1 q.payload 8)).map fun x => f4 x 4).sum ≤ 524288), .stageSize)] k := by
  unfold stageOpenBody
  dsimp only
  rw [checks_pass (decide_eq_true ⟨by omega, hlen, h1, h32, hid⟩), checks_pass (by rw [hnone]; rfl)]
  exact ⟨_, rfl⟩

theorem stageCancelBody_commitPending {g : Stage} (hlen : q.payload.length = 4) (hstage : stageOf (f4 q.payload 0) u = some g)
    (hphase : g.phase = .building) : stageCancelBody q u = .error .commitPending := by
  unfold stageCancelBody
  rw [checks_lenIs hlen, hstage, checks_pass Option.isSome_some, checks_fail]
  simp [hphase]

theorem cwFlushBody_cwNoHold (hlen : q.payload.length = 4) (hlane : f1 q.payload 0 ≤ 143)
    (howner : (laneOf (f1 q.payload 0) u).owner = .causeway) (hup : (linkOf (f1 q.payload 0) u).state ≠ .up)
    (hhold : (linkOf (f1 q.payload 0) u).state ≠ .hold) : cwFlushBody q u = .error .cwNoHold := by
  unfold cwFlushBody cwLaneChecks
  simp only [List.cons_append, List.nil_append]
  rw [checks_lenIs hlen, checks_pass (decide_eq_true hlane), checks_pass (decide_eq_true howner), checks_fail]
  exact decide_eq_false (not_or.mpr ⟨hup, hhold⟩)

end

/-- Settles O60: each refused request meets the check that its rule states and passes those before it; the RESTART that names this boot
passes them all. -/
theorem otherRefusals : Obligations.OtherRefusals := by
  unfold Obligations.OtherRefusals
  refine ⟨?wake, ?stale, ?restarts, ?item, ?size, ?cancel, ?flush⟩
  case wake =>
    refine refuses_of_body (fun _ _ => rfl) fun q u ⟨hlen, hlevel, n, hn, hbit, hout⟩ => wakeConfigSetBody_pinBusy hlen hlevel ?_
    exact hbit.imp (fun h => (masksOutput_iff _ u).mpr ⟨n, hn, h, hout⟩) (fun h => (masksOutput_iff _ u).mpr ⟨n, hn, h, hout⟩)
  case stale =>
    exact refuses_of_body (fun _ _ => rfl) fun _ _ ⟨hlen, hboot⟩ => restartBody_stale hlen hboot
  case restarts =>
    intro q s ha hlen hboot
    have hrun : exec (.restart q) s = .next (kmpExec .restart q (restartBody q) s) := rfl
    rw [hrun, kmpExec_admitted _ ha, restartBody_restarts hlen hboot]
  case item =>
    refine refuses_of_body (fun _ _ => rfl) fun q u ⟨hid, h1, h32, hlen, hnone, x, hx, hbad⟩ => ?_
    obtain ⟨k, hk⟩ := stageOpenBody_of_wellFormed hid h1 h32 hlen hnone
    rw [hk, checks_fail (List.all_eq_false.mpr ⟨x, hx, by simp [hbad]⟩)]
  case size =>
    refine refuses_of_body (fun _ _ => rfl) fun q u ⟨hid, h1, h32, hlen, hnone, hgood, hbig⟩ => ?_
    obtain ⟨k, hk⟩ := stageOpenBody_of_wellFormed hid h1 h32 hlen hnone
    rw [hk, checks_pass (List.all_eq_true.mpr hgood), checks_fail (decide_eq_false (by omega))]
  case cancel =>
    exact refuses_of_body (fun _ _ => rfl) fun _ _ ⟨hlen, _, hstage, hphase⟩ => stageCancelBody_commitPending hlen hstage hphase
  case flush =>
    exact refuses_of_body (fun _ _ => rfl) fun _ _ ⟨hlen, hlane, howner, hup, hhold⟩ =>
      cwFlushBody_cwNoHold hlen hlane howner hup hhold

end Sys2Proof.Proofs.SupplyAndModes
end

section
/-! SUPPORT. Proofs, ClocksAndTime: what the commands of the clocks and the timers are turned away for, and the quality that an accepted
TIME_SET leaves (R98, R101, R102). -/

namespace Sys2Proof.Proofs.ClocksAndTime
open Sys2Proof Sys2Proof.Machine Sys2Proof.Safety Sys2Proof.Laws Sys2Proof.Proofs.SupplyAndModes

/-- A command that comes out right on the state it acts on is answered so. -/
theorem answers_of_body {c : Cmd} {q : Req} {i : Instr} {body : State → Body} {s v : State} {resp : List Byte}
    (hx : exec i s = .next (kmpExec c q body s)) (ha : admitted c q s = true) (hb : body (entered c q s) = .ok (v, .ok resp)) :
    Answers c q i s v resp := by
  unfold Answers
  rw [hx, kmpExec_admitted _ ha, hb]

/-! ### The time base through a takeover: what happens late where quality leaves UNSET reads it and leaves it alone (R95, R516) -/

@[simp] theorem raise_tb (e : Ev) (id : Nat) (a : List Byte) (s : State) : (raise e id a s).tb = s.tb := by rw [raise_only]

@[simp] theorem setCause_tb (b : BitVec 10) (s : State) : (setCause b s).tb = s.tb := by rw [setCause_only]

@[simp] theorem finish_tb (code : Nat) (q : Req) (x : Option Session) (ok : Bool) (status : Nat) (p : List Byte) (s : State) :
    (finish code q x ok status p s).tb = s.tb := by rw [finish_answered]

theorem forEach_tb {α : Type} {f : α → State → State} (hf : ∀ a s, (f a s).tb = s.tb) (l : List α) (s : State) :
    (forEach l f s).tb = s.tb := by
  unfold forEach
  induction l generalizing s with
  | nil => rfl
  | cons a l ih => exact (ih (f a s)).trans (hf a s)

@[simp] theorem countTx_tb (p q i n : Nat) (s : State) : (countTx p q i n s).tb = s.tb := rfl

@[simp] theorem releaseRef_tb (d id : Nat) (s : State) : (releaseRef d id s).tb = s.tb := by
  unfold releaseRef
  split
  · rfl
  · split <;> rfl

@[simp] theorem dropHead_tb (p q id : Nat) (s : State) : (dropHead p q id s).tb = s.tb := by simp [dropHead]

@[simp] theorem oversizeEvent_tb (p q l window : Nat) (s : State) : (oversizeEvent p q l window s).tb = s.tb := by
  unfold oversizeEvent
  dsimp only
  split <;> simp

@[simp] theorem settleHead_tb (n p q : Nat) (s : State) : (settleHead n p q s).tb = s.tb := by
  induction n generalizing s with
  | zero => rfl
  | succ n ih =>
    unfold settleHead
    dsimp only
    (repeat' split) <;> simp [ih]

@[simp] theorem settleQueue_tb (p q : Nat) (s : State) : (settleQueue p q s).tb = s.tb := settleHead_tb _ p q s

@[simp] theorem switchGate_tb (p source : Nat) (late : Bool) (lateNs : Nat) (list : Option GateList) (s : State) :
    (switchGate p source late lateNs list s).tb = s.tb := by
  unfold switchGate
  dsimp only
  rw [raise_tb]
  split
  · rw [forEach_tb fun q s => settleQueue_tb p q s, updEgress_tb]
  · rw [updEgress_tb]

@[simp] theorem takeoverDue_tb (p : Nat) (late : Bool) (s : State) : (takeoverDue p late s).tb = s.tb := by
  unfold takeoverDue
  (repeat' split) <;> simp

@[simp] theorem takeoversLate_tb (s : State) : (takeoversLate s).tb = s.tb := forEach_tb (fun p s => takeoverDue_tb p true s) _ s

/-! ### TIME_SET -/

/-- R86: the quality that is set is the quality that stands, whatever late takeovers the change brings. -/
@[simp] theorem setQuality_quality (x : Quality) (s : State) : (setQuality x s).tb.quality = x := by
  unfold setQuality
  split
  · assumption
  · dsimp only
    split <;> simp

/-- The locked qualities are those of the two sources (R86). -/
theorem isLocked_iff (x : Quality) : isLocked x = true ↔ x = .lockedPps ∨ x = .lockedPtp := decide_eq_true_iff

section
variable {q : Req} {u : State}

theorem timeSetBody_timeSource (hlen : q.payload.length = 12) (hns : tbFieldOk q.payload 0 = true) (hlock : isLocked u.tb.quality = true)
    (hforce : bitOf (f1 q.payload 10) 0 = false) : timeSetBody q u = .error .timeSource := by
  unfold timeSetBody
  dsimp only
  rw [checks_lenIs hlen, checks_pass hns, checks_fail]
  simp [hlock, hforce]

/-- R98: an accepted TIME_SET steps the time base and then sets quality FREE. -/
theorem timeSetBody_accepts (hlen : q.payload.length = 12) (hns : tbFieldOk q.payload 0 = true)
    (hok : bitOf (f1 q.payload 10) 0 = true ∨ isLocked u.tb.quality = false) :
    ∃ v resp, timeSetBody q u = .ok (v, .ok resp) ∧ v.tb.quality = .free := by
  unfold timeSetBody
  dsimp only
  rw [checks_lenIs hlen, checks_pass hns, checks_pass (by rcases hok with h | h <;> simp [h])]
  exact ⟨_, _, rfl, setQuality_quality _ _⟩

/-! ### RTC_ALARM_SET and TIMER_RELEASE -/

theorem rtcAlarmSetBody_alarmPast (hlen : q.payload.length = 12)
    (hperiod : f4 q.payload 6 = 0 ∨ 60 ≤ f4 q.payload 6 ∧ f4 q.payload 6 ≤ 604800) (hset : field q.payload 0 6 ≠ 0)
    (hpast : field q.payload 0 6 ≤ rtcSeconds u) : rtcAlarmSetBody q u = .error .alarmPast := by
  unfold rtcAlarmSetBody
  dsimp only
  rw [checks_lenIs hlen, checks_pass (by simpa using hperiod), checks_fail]
  simp [hset, hpast]

theorem timerReleaseBody_timerBusy (hlen : q.payload.length = 1) (htimer : f1 q.payload 0 ≤ 7)
    (hfree : (timerOf (f1 q.payload 0) u).owner ≠ .free) (hkmp : (timerOf (f1 q.payload 0) u).owner ≠ .kmp) :
    timerReleaseBody q u = .error .timerBusy := by
  unfold timerReleaseBody
  dsimp only
  rw [checks_lenIs hlen, checks_pass (decide_eq_true htimer), checks_fail (decide_eq_false (not_or.mpr ⟨hfree, hkmp⟩))]

end

/-- Settles O59: each refused request meets the check that its rule states and passes those before it; the accepted TIME_SET sets quality
FREE last, and neither the late takeovers of that change nor the answer touches it again. -/
theorem timeRefusals : Obligations.TimeRefusals := by
  unfold Obligations.TimeRefusals
  refine ⟨?locked, ?accepted, ?alarm, ?timer⟩
  case locked =>
    exact refuses_of_body (fun _ _ => rfl) fun _ _ ⟨hlen, hns, hlock, hforce⟩ =>
      timeSetBody_timeSource hlen hns ((isLocked_iff _).mpr hlock) hforce
  case accepted =>
    intro q s ha hlen hns hok
    have hsettable : bitOf (f1 q.payload 10) 0 = true ∨ isLocked (entered .timeSet q s).tb.quality = false :=
      hok.imp_right fun h => decide_eq_false (not_or.mpr h)
    obtain ⟨v, resp, hbody, hfree⟩ := timeSetBody_accepts hlen hns hsettable
    exact ⟨_, answers_of_body rfl ha hbody, by simpa using hfree⟩
  case alarm =>
    exact refuses_of_body (fun _ _ => rfl) fun _ _ ⟨hlen, hperiod, hset, hpast⟩ => rtcAlarmSetBody_alarmPast hlen hperiod hset hpast
  case timer =>
    exact refuses_of_body (fun _ _ => rfl) fun _ _ ⟨hlen, htimer, hfree, hkmp⟩ => timerReleaseBody_timerBusy hlen htimer hfree hkmp

end Sys2Proof.Proofs.ClocksAndTime
end

section
/-! SUPPORT. Proofs, KiskaskaMailbox: what steps 6 and 8 of the checks of R167 do with a request that comes to them (R161, R207). -/

namespace Sys2Proof.Proofs.KiskaskaMailbox
open Sys2Proof Sys2Proof.Machine Sys2Proof.Safety Sys2Proof.Laws

/-! ### Step 8: the role -/

/-- R161: step 8 stops a command that is not marked Read, outside recovery and the Span follower, where no controlling session asks. -/
theorem runChecks_readOnly {c : Cmd} {x : Option Session} {s : State} (body : State → Body) (hrec : s.boot.recovery = false)
    (hknown : cmdKnown c s = true) (hctl : c.row.control = true) (hrole : (x.any fun y => y.controlling) = false)
    (hfollow : spanFollows s = false) : runChecks c x s body = .error .readOnly := by
  unfold runChecks
  simp [hrec, hknown, hctl, hrole, hfollow]

/-- A request that one of steps 7 to 10 stops is answered with that step's error, from the state it was in. -/
theorem execute_of_error {c : Cmd} {q : Req} {body : State → Body} {s : State} {e : Err}
    (he : runChecks c (findSession q.session s) s (bodyOrRun c q (findSession q.session s) body) = .error e) :
    execute c q body s = finish c.row.code q (findSession q.session s) false e.code [] s := by
  unfold execute
  dsimp only
  rw [he]

/-- Settles O50: the request is executed at once, and the session it finds there has the role it had on arrival. -/
theorem readOnlyRoleRefused : Obligations.ReadOnlyRoleRefused := by
  unfold Obligations.ReadOnlyRoleRefused
  intro i c q s x hreq hreach hknown hx hrole hctl
  obtain ⟨body, hexec⟩ := request_exec hreq
  obtain ⟨hh, x', y, _, hx', hy, hyx, _, _⟩ := entered_of_reaches hreach
  obtain ⟨hrec, hfollow⟩ := reaches_props hreach
  obtain rfl : x' = x := Option.some.inj (hx'.symm.trans hx)
  unfold TurnsAway
  rw [hexec, kmpExec_reaches body hreach, execute_of_error]
  refine runChecks_readOnly _ ?_ ?_ hctl ?_ ?_
  · rw [hh.boot]; exact hrec
  · rw [hh.cmdKnown]; exact hknown
  · rw [hy]; simp [hyx, hrole]
  · rw [hh.spanFollows]; exact hfollow

/-! ### Step 6: the sequence window -/

/-- A SEQ that lies `d` after H, modulo 2^16, is at distance `d`. -/
theorem seqDist_of_ahead {a h d : Nat} (hd : d < 65536) (ha : a = (h + d) % 65536) : seqDist a h = d := by
  unfold seqDist; omega

/-- The state to which `kmpExec` has a request arrive: the clock advanced, the message and the request counted. -/
def received (q : Req) (s : State) : State :=
  takeRequest (if q.remote then advance q.t s else countRx q.transport (advance q.t s))

/-- The tag compared, where it is, the request meets its checks in the state `counted`. -/
theorem compared_eq_counted (c : Cmd) (q : Req) (s : State) :
    (if tagCompared c.row.code q (received q s) then countCompare true (received q s) else received q s) = counted c q s := rfl

/-- Step 6 of R167, for a request of an open session that the steps before it let through: it goes on where SEQ lies in the window after
H, which it moves; elsewhere it is answered with E_SEQ_WINDOW. -/
theorem arrive_at_window {c : Cmd} {q : Req} {s : State} {x : Session} (hrec : (advance q.t s).boot.recovery = false)
    (hses : q.session ≠ 0) (hx : findSession q.session (advance q.t s) = some x) (hauth : q.auth = x.keySlot.isSome)
    (hcache : cacheFind q.requestId (advance q.t s).elapsed (sessionCache x (advance q.t s)) = none)
    (hroom : (advance q.t s).kmp.waiting.length < waitingMax) :
    arrive c.row.code q (received q s) =
      if 1 ≤ seqDist q.seq x.h ∧ seqDist q.seq x.h ≤ seqWindow then
        .go x.h (updSession x.number (fun y => { y with h := q.seq }) (touchSession q x (counted c q s)))
      else .done (respond (replySession x) c.row.code q Err.seqWindow.code [] false (touchSession q x (counted c q s))) := by
  have hcount := counted_handled c q s
  have htouch := hcount.trans (touchSession_handled q x (counted c q s))
  have hrec' : (counted c q s).boot.recovery = false := by rw [hcount.boot]; exact hrec
  have hx' : findSession q.session (counted c q s) = some x := (counted_find c q q.session s).trans hx
  have hcache' : cacheFind q.requestId (touchSession q x (counted c q s)).elapsed
      (sessionCache x (touchSession q x (counted c q s))) = none := by
    rw [htouch.elapsed, htouch.sessionCache]; exact hcache
  have hroom' : ¬ waitingMax ≤ (touchSession q x (counted c q s)).kmp.waiting.length := by
    rw [htouch.waiting]; exact Nat.not_le.mpr hroom
  unfold arrive
  dsimp only
  rw [compared_eq_counted]
  simp [hrec', hses, hx', hauth, hcache', hroom']

/-- What a request that is heard comes to where its arrival ends it. -/
theorem heard_done {c : Cmd} {q : Req} {s v : State} (body : State → Body) (hheard : heard c q s = true)
    (hdone : arrive c.row.code q (received q s) = .done v) : kmpExec c q body s = v := by
  unfold received at hdone
  rw [heard_kmpExec body hheard, hdone]

/-- Settles O52: H + 1,024 is the last distance in the window; H + 1,025 lies past its end and H, at distance 0, before its start. -/
theorem seqWindowEnds : Obligations.SeqWindowEnds := by
  unfold Obligations.SeqWindowEnds
  intro i c q s x hreq hheard hrec hses hx hauth hcache hroom
  have harrive := arrive_at_window (c := c) hrec hses hx hauth hcache hroom
  refine ⟨fun hseq => ?_, fun hseq => ?_⟩
  · have hdist : seqDist q.seq x.h = 1024 := seqDist_of_ahead (by decide) hseq
    refine harrive.trans ?_
    rw [hdist, if_pos (by decide)]
  · have hout : ¬ (1 ≤ seqDist q.seq x.h ∧ seqDist q.seq x.h ≤ seqWindow) := by
      rcases hseq with hseq | hseq
      · have hdist : seqDist q.seq x.h = 1025 := seqDist_of_ahead (by decide) hseq
        rw [hdist]; decide
      · have hdist : seqDist q.seq x.h = 0 := seqDist_of_ahead (by decide) hseq
        rw [hdist]; decide
    obtain ⟨body, hexec⟩ := request_exec hreq
    rw [hexec, heard_done body hheard (harrive.trans (if_neg hout))]

end Sys2Proof.Proofs.KiskaskaMailbox
end

section
/-! SUPPORT. Proofs, HostWindow: the accesses of the host window that are not performed, and how ACCESS_ERR logs them (R219, R223, R225). -/

namespace Sys2Proof.Proofs.HostWindow
open Sys2Proof Sys2Proof.Machine Sys2Proof.Safety Sys2Proof.Laws

/-! ### ACCESS_ERR (R225) -/

/-- COUNT goes one up and stays at 255. -/
theorem count_saturates (c : BitVec 8) : (if c = 255 then 255 else c + 1) = BitVec.ofNat 8 (min 255 (c.toNat + 1)) := by
  split
  · next hfull => subst hfull; rfl
  · next hroom =>
    have hle : c.toNat + 1 ≤ 255 := by bv_omega
    rw [Nat.min_eq_right hle]
    bv_omega

section
variable {kind : Nat} {path : HostPath} {write : Bool} {width off : Nat} {s : State}

theorem logAccess_first_err (hclear : s.host.err.count = 0) :
    (logAccess kind path write width off s).host.err =
      { offset := BitVec.ofNat 16 off, kind := BitVec.ofNat 3 kind, path := decide (path = .spi), write := write,
        width := BitVec.ofNat 2 width, overflow := false, count := 1 } := by
  unfold logAccess
  rw [if_pos hclear, setCause_err, updHost_host]

theorem logAccess_first_intCause (hclear : s.host.err.count = 0) :
    (logAccess kind path write width off s).host.intCause = s.host.intCause ||| causeAccess := by
  unfold logAccess
  rw [if_pos hclear, setCause_intCause, updHost_host]

/-- A further access touches OVERFLOW and COUNT alone. -/
theorem logAccess_further (hheld : s.host.err.count ≠ 0) :
    logAccess kind path write width off s = updHost (fun h => { h with err :=
      { s.host.err with overflow := true, count := BitVec.ofNat 8 (min 255 (s.host.err.count.toNat + 1)) } }) s := by
  unfold logAccess
  rw [if_neg hheld, count_saturates]

end

/-- Settles O55: the first access is the one that finds COUNT 0; every further one leaves the record of it. -/
theorem accessErrRecords : Obligations.AccessErrRecords := by
  unfold Obligations.AccessErrRecords
  intro kind path write width off s
  refine ⟨fun hclear => ⟨logAccess_first_err hclear, logAccess_first_intCause hclear⟩, fun hheld => ?_⟩
  rw [logAccess_further hheld]
  exact ⟨rfl, rfl⟩

/-! ### An access that is not aligned (R223) -/

theorem unaligned_iff (off : Nat) (w : Width) (uneven : Bool) :
    unaligned off w uneven = true ↔ uneven = true ∨ off % widthBytes w ≠ 0 := by
  simp [unaligned]

theorem unaligned_of_aligned {off : Nat} {w : Width} (halign : off % widthBytes w = 0) : unaligned off w false = false := by
  simp [unaligned, halign]

/-- The bytes of a register are aligned as they lie in it: a register begins at a multiple of 4, and so does its peek alias. -/
theorem regOffset_mod_widthBytes {reg : Nat} (hreg : reg % 4 = 0) (k : Fin 4) (w : Width) (peek : Bool) :
    regOffset reg k peek % widthBytes w = k.val % widthBytes w := by
  have hbase : (regOffset reg k peek) % 4 = k.val % 4 := by
    unfold regOffset
    split <;> omega
  have hdvd : widthBytes w ∣ 4 := by cases w <;> decide
  rw [← Nat.mod_mod_of_dvd _ hdvd, hbase, Nat.mod_mod_of_dvd _ hdvd]

section
variable {path : HostPath} {off : Nat} {w : Width} {uneven : Bool} {s : State}

theorem hostRead_unaligned (hup : pathUp path s = true) (hodd : unaligned off w uneven = true) :
    hostRead path off w uneven s =
      emit (.hostRead path (List.replicate (widthBytes w) 0xFF)) (logAccess 2 path false (widthCode w) off s) := by
  simp [hostRead, hup, hodd]

theorem hostWrite_unaligned {data : Nat} (hup : pathUp path s = true) (hodd : unaligned off w uneven = true) :
    hostWrite path off w uneven data s = logAccess 2 path true (widthCode w) off s := by
  simp [hostWrite, hup, hodd]

end

/-- A row that reads a register reads 0xFF where its bytes are not aligned. -/
theorem regRead_unaligned {reg : Nat} {i : Nat → HostPath → Fin 4 → Width → Bool → Instr} (hreg : reg % 4 = 0)
    (hi : ∀ t path k w peek s, exec (i t path k w peek) s = .next (hostRead path (regOffset reg k peek) w false (advance t s)))
    (path : HostPath) (k : Fin 4) (w : Width) (peek : Bool) :
    Takes (fun t => i t path k w peek) (fun u => pathUp path u ∧ k.val % widthBytes w ≠ 0)
      (fun u => emit (.hostRead path (List.replicate (widthBytes w) 0xFF))
        (logAccess 2 path false (widthCode w) (regOffset reg k peek) u)) := by
  rintro t s ⟨hup, hodd⟩
  rw [← regOffset_mod_widthBytes hreg k w peek] at hodd
  rw [hi, hostRead_unaligned hup ((unaligned_iff _ _ _).2 (.inr hodd))]

/-- A row that writes a register, whatever bits it sets, writes nothing where its bytes are not aligned. -/
theorem regWrite_unaligned {reg : Nat} (set : Nat) {i : Nat → HostPath → Fin 4 → Width → Bool → BitVec 32 → Instr} (hreg : reg % 4 = 0)
    (hi : ∀ t path k w peek data s, exec (i t path k w peek data) s = .next (regWrite t reg set path k w peek data s))
    (path : HostPath) (k : Fin 4) (w : Width) (peek : Bool) (data : BitVec 32) :
    Takes (fun t => i t path k w peek data) (fun u => pathUp path u ∧ k.val % widthBytes w ≠ 0)
      (logAccess 2 path true (widthCode w) (regOffset reg k peek)) := by
  rintro t s ⟨hup, hodd⟩
  rw [← regOffset_mod_widthBytes hreg k w peek] at hodd
  unfold regWrite at hi
  rw [hi, hostWrite_unaligned hup ((unaligned_iff _ _ _).2 (.inr hodd))]

/-- Settles O56: alignment is checked before all else but the path (log entry 97), so no form of a row gets further, a write through
the peek alias (R224) or an access of an unmapped offset (R219) no more than another. -/
theorem unalignedNotPerformed : Obligations.UnalignedNotPerformed := by
  unfold Obligations.UnalignedNotPerformed
  intro reads writes
  refine ⟨?unalignedRead, ?write, ?unmappedRead,
    ?supplyStatus, ?accessErr, ?timeLatch, ?fence,
    ?takeSnapshot, ?armPps, ?intCause, ?intMask, ?quiesceReq, ?ringEnable, ?ringReset, ?reqTail, ?rspHead⟩
  case unalignedRead =>
    rintro path off w uneven t s ⟨hup, hodd⟩
    exact congrArg Host.Outcome.next (hostRead_unaligned hup ((unaligned_iff _ _ _).2 hodd))
  case write =>
    rintro path off w uneven data t s ⟨hup, hodd⟩
    exact congrArg Host.Outcome.next (hostWrite_unaligned hup ((unaligned_iff _ _ _).2 hodd))
  case unmappedRead =>
    rintro path off w t s ⟨hup, hodd⟩
    exact congrArg Host.Outcome.next (hostRead_unaligned hup ((unaligned_iff _ _ _).2 (.inr hodd)))
  case supplyStatus | accessErr | timeLatch | fence => exact regRead_unaligned rfl fun _ _ _ _ _ _ => rfl
  case takeSnapshot | ringEnable => exact regWrite_unaligned 1 rfl fun _ _ _ _ _ _ _ => rfl
  case armPps | quiesceReq => exact regWrite_unaligned 2 rfl fun _ _ _ _ _ _ _ => rfl
  case ringReset => exact regWrite_unaligned 4 rfl fun _ _ _ _ _ _ _ => rfl
  case intCause | intMask | reqTail | rspHead => exact regWrite_unaligned 0 rfl fun _ _ _ _ _ _ _ => rfl

/-! ### An access of an unmapped offset (R219) -/

section
variable {path : HostPath} {off : Nat} {w : Width} {s : State}

theorem hostRead_unmapped (hup : pathUp path s = true) (hbase : off < 0x8000) (halign : off % widthBytes w = 0)
    (hnone : windowWord path (off / 4 * 4) s = none) :
    hostRead path off w false s =
      emit (.hostRead path (List.replicate (widthBytes w) 0)) (logAccess 3 path false (widthCode w) off s) := by
  simp [hostRead, hup, unaligned_of_aligned halign, Nat.mod_eq_of_lt hbase, hnone]

theorem hostWrite_unmapped {data : Nat} (hup : pathUp path s = true) (hbase : off < 0x8000) (halign : off % widthBytes w = 0)
    (hnone : windowWord path (off / 4 * 4) s = none) :
    hostWrite path off w false data s = logAccess 3 path true (widthCode w) off s := by
  simp [hostWrite, hup, unaligned_of_aligned halign, Nat.not_le.2 hbase, hnone]

end

/-- Settles O57: an aligned access below the peek alias comes to the item at its offset before the width of a write is looked at (R221;
log entry 97), and finds none. -/
theorem unmappedAccessesLogged : Obligations.UnmappedAccessesLogged := by
  unfold Obligations.UnmappedAccessesLogged
  refine ⟨?read, ?write⟩
  case read =>
    rintro path off w t s ⟨hup, hbase, halign, hnone⟩
    exact congrArg Host.Outcome.next (hostRead_unmapped hup hbase halign hnone)
  case write =>
    rintro path off w data t s ⟨hup, hbase, halign, hnone⟩
    exact congrArg Host.Outcome.next (hostWrite_unmapped hup hbase halign hnone)

end Sys2Proof.Proofs.HostWindow
end

section
/-! SUPPORT. Proofs, Steps: what a step leaves of the queue, the clock, the identity and the memories, row by row. -/

namespace Sys2Proof.Proofs.Steps
open Sys2Proof Sys2Proof.Machine Sys2Proof.Safety Sys2Proof.Laws

/-! ### Rows that move the clock alone -/

/-- A row answers, and of the queue, the clock, the identity and the memories it moves the clock alone. -/
def Framed (i : Instr) : Prop := ∀ s, ∃ t v, exec i s = .next v ∧ fixed v = fixed (advance t s)

/-- A row answers, and keeps the queue and the identity, the order of the clock and the form of the memories. -/
def KeepsAll (i : Instr) : Prop := ∀ s, ∃ v, exec i s = .next v ∧ Kept (fixed s) (fixed v)

section
variable {i : Instr} {c : Cmd} {q : Req} {t : Nat} {body : State → Body} {e : State → State}

theorem framed_of_body (hexec : ∀ s, exec i s = .next (kmpExec c q body s)) (hbody : ∀ u, FixedBody u (body u)) : Framed i :=
  fun s => ⟨q.t, _, hexec s, fixed_kmpExec c q s body hbody⟩

theorem framed_of_effect (hexec : ∀ s, exec i s = .next (e s)) (heff : ∀ s, fixed (e s) = fixed (advance t s)) : Framed i :=
  fun s => ⟨t, _, hexec s, heff s⟩

theorem Framed.keepsAll (h : Framed i) : KeepsAll i := by
  intro s
  obtain ⟨t, v, hv, hfix⟩ := h s
  exact ⟨v, hv, hfix ▸ kept_advance t s (kept_refl _)⟩

theorem keepsAll_of_body (hexec : ∀ s, exec i s = .next (kmpExec c q body s)) (hbody : ∀ u, KeptBody u (body u)) : KeepsAll i :=
  fun s => ⟨_, hexec s, kept_kmpExec c q s body hbody (kept_refl _)⟩

theorem keepsAll_of_effect (hexec : ∀ s, exec i s = .next (e s)) (heff : ∀ s, Kept (fixed s) (fixed (e s))) : KeepsAll i :=
  fun s => ⟨_, hexec s, heff s⟩

end

/-- A debug operation that leaves the fixed part alone leaves it alone when it is shifted in. -/
theorem fixed_dbgOp {op : State → State} (hop : ∀ v, fixed (op v) = fixed v) (t : Nat) (s : State) :
    fixed (dbgOp t op s) = fixed (advance t s) := by
  unfold dbgOp
  dsimp only
  split
  · rw [hop, fixed_emit]
  · rfl

/-- The rows that may touch the memories, or the clock beyond their own instant. -/
def movesMemory (i : Instr) : Bool :=
  match i with
  | .bankErase .. => true
  | .bankWrite .. => true
  | .bankSeal .. => true
  | .bankSelect .. => true
  | .bankConfirm .. => true
  | .restart .. => true
  | .stageCommit .. => true
  | .commitCancel .. => true
  | .baselineSet .. => true
  | .recordErase .. => true
  | .recordWrite .. => true
  | .hostWindowWrite .. => true
  | .takeSnapshot .. => true
  | .armPps .. => true
  | .intCause .. => true
  | .intMask .. => true
  | .quiesceReq .. => true
  | .ringEnable .. => true
  | .ringReset .. => true
  | .reqTail .. => true
  | .rspHead .. => true
  | .responseEntryWrite .. => true
  | .epochReached .. => true
  | .abutmentReset .. => true
  | .transitionComplete .. => true
  | .bankVerdict .. => true
  | .flashNotAnswering .. => true
  | .controlPreload .. => true
  | .autoConfirm .. => true
  | .watchdog .. => true
  | .sectionStreamed .. => true
  | .relayedMessage .. => true
  | .debugWrite .. => true
  | .dbgHalt .. => true
  | .debugReset .. => true
  | .clocksLocked .. => true
  | _ => false

theorem framed_of_request {i : Instr} {c : Cmd} {q : Req} (hreq : requestOf i = some (c, q)) (hmem : movesMemory i = false) :
    Framed i := by
  cases i with
  | sessionOpen => exact framed_of_body (fun _ => rfl) (fixed_sessionOpenBody _)
  | sessionClose => exact framed_of_body (fun _ => rfl) (fixed_sessionCloseBody _)
  | sessionStatus => exact framed_of_body (fun _ => rfl) (fixed_sessionStatusBody _)
  | identityGet => exact framed_of_body (fun _ => rfl) (fixed_identityGetBody _)
  | eventAck => exact framed_of_body (fun _ => rfl) (fixed_eventAckBody _)
  | eventFetch => exact framed_of_body (fun _ => rfl) (fixed_eventFetchBody _)
  | eventConfigSet => exact framed_of_body (fun _ => rfl) (fixed_eventConfigSetBody _)
  | transportConfigSet => exact framed_of_body (fun _ => rfl) (fixed_transportConfigSetBody _)
  | transportConfigGet => exact framed_of_body (fun _ => rfl) (fixed_transportConfigGetBody _)
  | timeGet => exact framed_of_body (fun _ => rfl) (fixed_timeGetBody _)
  | timeSet => exact framed_of_body (fun _ => rfl) (fixed_timeSetBody _)
  | timeSourceSet => exact framed_of_body (fun _ => rfl) (fixed_timeSourceSetBody _)
  | rtcAlarmSet => exact framed_of_body (fun _ => rfl) (fixed_rtcAlarmSetBody _)
  | timerClaim => exact framed_of_body (fun _ => rfl) (fixed_timerClaimBody _)
  | timerRelease => exact framed_of_body (fun _ => rfl) (fixed_timerReleaseBody _)
  | timerStatusGet => exact framed_of_body (fun _ => rfl) (fixed_timerStatusGetBody _)
  | bootStatusGet => exact framed_of_body (fun _ => rfl) (fixed_bootStatusGetBody _)
  | stageOpen => exact framed_of_body (fun _ => rfl) (fixed_stageOpenBody _)
  | stageWrite => exact framed_of_body (fun _ => rfl) (fixed_stageWriteBody _)
  | stageVerify => exact framed_of_body (fun _ => rfl) (fixed_stageVerifyBody _)
  | stageCancel => exact framed_of_body (fun _ => rfl) (fixed_stageCancelBody _)
  | baselineGet => exact framed_of_body (fun _ => rfl) (fixed_baselineGetBody _)
  | siteLabelSet => exact framed_of_body (fun _ => rfl) (fixed_siteLabelSetBody _)
  | siteLabelGet => exact framed_of_body (fun _ => rfl) (fixed_siteLabelGetBody _)
  | modeGet => exact framed_of_body (fun _ => rfl) (fixed_modeGetBody _)
  | modeSet => exact framed_of_body (fun _ => rfl) (fixed_modeSetBody _)
  | modeConfigSet => exact framed_of_body (fun _ => rfl) (fixed_modeConfigSetBody _)
  | modeConfigGet => exact framed_of_body (fun _ => rfl) (fixed_modeConfigGetBody _)
  | wakeConfigSet => exact framed_of_body (fun _ => rfl) (fixed_wakeConfigSetBody _)
  | strikeConfigSet => exact framed_of_body (fun _ => rfl) (fixed_strikeConfigSetBody _)
  | strikeStatusGet => exact framed_of_body (fun _ => rfl) (fixed_strikeStatusGetBody _)
  | laneConfigSet => exact framed_of_body (fun _ => rfl) (fixed_laneConfigSetBody _)
  | laneConfigGet => exact framed_of_body (fun _ => rfl) (fixed_laneConfigGetBody _)
  | laneStatusGet => exact framed_of_body (fun _ => rfl) (fixed_laneStatusGetBody _)
  | laneSleepSet => exact framed_of_body (fun _ => rfl) (fixed_laneSleepSetBody _)
  | laneTestSet => exact framed_of_body (fun _ => rfl) (fixed_laneTestSetBody _)
  | lanePrbsGet => exact framed_of_body (fun _ => rfl) (fixed_lanePrbsGetBody _ _ _)
  | laneEyeStart => exact framed_of_body (fun _ => rfl) (fixed_laneEyeStartBody _)
  | laneEyeGet => exact framed_of_body (fun _ => rfl) (fixed_laneEyeGetBody _)
  | portForm => exact framed_of_body (fun _ => rfl) (fixed_portFormBody _)
  | portStatusGet => exact framed_of_body (fun _ => rfl) (fixed_portStatusGetBody _)
  | m0ConfigSet => exact framed_of_body (fun _ => rfl) (fixed_m0ConfigSetBody _)
  | m0ConfigGet => exact framed_of_body (fun _ => rfl) (fixed_m0ConfigGetBody _)
  | opticsMapSet => exact framed_of_body (fun _ => rfl) (fixed_opticsMapSetBody _)
  | opticsRead => exact framed_of_body (fun _ => rfl) (fixed_opticsReadBody _ _)
  | opticsWrite => exact framed_of_body (fun _ => rfl) (fixed_opticsWriteBody _ _)
  | cwLinkSet => exact framed_of_body (fun _ => rfl) (fixed_cwLinkSetBody _)
  | cwLinkStatusGet => exact framed_of_body (fun _ => rfl) (fixed_cwLinkStatusGetBody _)
  | cwCountersGet => exact framed_of_body (fun _ => rfl) (fixed_cwCountersGetBody _)
  | cwFlush => exact framed_of_body (fun _ => rfl) (fixed_cwFlushBody _)
  | fwdConfigSet => exact framed_of_body (fun _ => rfl) (fixed_fwdConfigSetBody _)
  | fwdConfigGet => exact framed_of_body (fun _ => rfl) (fixed_fwdConfigGetBody _)
  | vlanSet => exact framed_of_body (fun _ => rfl) (fixed_vlanSetBody _)
  | portLearnSet => exact framed_of_body (fun _ => rfl) (fixed_portLearnSetBody _)
  | bridgeEntrySet => exact framed_of_body (fun _ => rfl) (fixed_bridgeEntrySetBody _)
  | bridgeFlush => exact framed_of_body (fun _ => rfl) (fixed_bridgeFlushBody _)
  | tableLookup => exact framed_of_body (fun _ => rfl) (fixed_tableLookupBody _)
  | tableStatusGet => exact framed_of_body (fun _ => rfl) (fixed_tableStatusGetBody _)
  | parseConfigSet => exact framed_of_body (fun _ => rfl) (fixed_parseConfigSetBody _)
  | parseConfigGet => exact framed_of_body (fun _ => rfl) (fixed_parseConfigGetBody _)
  | portClassSet => exact framed_of_body (fun _ => rfl) (fixed_portClassSetBody _)
  | portClassGet => exact framed_of_body (fun _ => rfl) (fixed_portClassGetBody _)
  | searchBankSet => exact framed_of_body (fun _ => rfl) (fixed_searchBankSetBody _)
  | searchWrite => exact framed_of_body (fun _ => rfl) (fixed_searchWriteBody _)
  | searchInsert => exact framed_of_body (fun _ => rfl) (fixed_searchInsertBody _)
  | searchRead => exact framed_of_body (fun _ => rfl) (fixed_searchReadBody _)
  | meterSet => exact framed_of_body (fun _ => rfl) (fixed_meterSetBody _)
  | meterGet => exact framed_of_body (fun _ => rfl) (fixed_meterGetBody _)
  | puntConfigSet => exact framed_of_body (fun _ => rfl) (fixed_puntConfigSetBody _)
  | fragStatusGet => exact framed_of_body (fun _ => rfl) (fixed_fragStatusGetBody _)
  | deckQueueSet => exact framed_of_body (fun _ => rfl) (fixed_deckQueueSetBody _)
  | deckQueueGet => exact framed_of_body (fun _ => rfl) (fixed_deckQueueGetBody _)
  | deckStatusGet => exact framed_of_body (fun _ => rfl) (fixed_deckStatusGetBody _)
  | trussStatusGet => exact framed_of_body (fun _ => rfl) (fixed_trussStatusGetBody _)
  | egressConfigSet => exact framed_of_body (fun _ => rfl) (fixed_egressConfigSetBody _)
  | egressConfigGet => exact framed_of_body (fun _ => rfl) (fixed_egressConfigGetBody _)
  | schedSet => exact framed_of_body (fun _ => rfl) (fixed_schedSetBody _)
  | schedGet => exact framed_of_body (fun _ => rfl) (fixed_schedGetBody _)
  | gateListSet => exact framed_of_body (fun _ => rfl) (fixed_gateListSetBody _)
  | gateListGet => exact framed_of_body (fun _ => rfl) (fixed_gateListGetBody _)
  | queueStatusGet => exact framed_of_body (fun _ => rfl) (fixed_queueStatusGetBody _)
  | spanConfigSet => exact framed_of_body (fun _ => rfl) (fixed_spanConfigSetBody _)
  | spanConfigGet => exact framed_of_body (fun _ => rfl) (fixed_spanConfigGetBody _)
  | spanJoin => exact framed_of_body (fun _ => rfl) (fixed_spanJoinBody _)
  | spanLeave => exact framed_of_body (fun _ => rfl) (fixed_spanLeaveBody _)
  | spanStatusGet => exact framed_of_body (fun _ => rfl) (fixed_spanStatusGetBody _)
  | spanTargetSet => exact framed_of_body (fun _ => rfl) (fixed_spanTargetSetBody _)
  | dramStatusGet => exact framed_of_body (fun _ => rfl) (fixed_dramStatusGetBody _)
  | dramTrainGet => exact framed_of_body (fun _ => rfl) (fixed_dramTrainGetBody _)
  | dramPolicySet => exact framed_of_body (fun _ => rfl) (fixed_dramPolicySetBody _)
  | dramPolicyGet => exact framed_of_body (fun _ => rfl) (fixed_dramPolicyGetBody _)
  | dramRetrain => exact framed_of_body (fun _ => rfl) (fixed_dramRetrainBody _)
  | dramErrorLogGet => exact framed_of_body (fun _ => rfl) (fixed_dramErrorLogGetBody _)
  | dramRead => exact framed_of_body (fun _ => rfl) (fixed_dramReadBody _)
  | keyStatusGet => exact framed_of_body (fun _ => rfl) (fixed_keyStatusGetBody _)
  | keyLoad => exact framed_of_body (fun _ => rfl) (fixed_keyLoadBody _ _)
  | keyClear => exact framed_of_body (fun _ => rfl) (fixed_keyClearBody _)
  | digestRun => exact framed_of_body (fun _ => rfl) (fixed_digestRunBody _)
  | fioConfigSet => exact framed_of_body (fun _ => rfl) (fixed_fioConfigSetBody _)
  | fioStatusGet => exact framed_of_body (fun _ => rfl) (fixed_fioStatusGetBody _)
  | fioOutputSet => exact framed_of_body (fun _ => rfl) (fixed_fioOutputSetBody _)
  | fioPulse => exact framed_of_body (fun _ => rfl) (fixed_fioPulseBody _)
  | fioClear => exact framed_of_body (fun _ => rfl) (fixed_fioClearBody _)
  | gpioConfigSet => exact framed_of_body (fun _ => rfl) (fixed_gpioConfigSetBody _)
  | gpioWrite => exact framed_of_body (fun _ => rfl) (fixed_gpioWriteBody _)
  | gpioRead => exact framed_of_body (fun _ => rfl) (fixed_gpioReadBody _ _)
  | adcConfigSet => exact framed_of_body (fun _ => rfl) (fixed_adcConfigSetBody _)
  | adcRead => exact framed_of_body (fun _ => rfl) (fixed_adcReadBody _)
  | adcCaptureSet => exact framed_of_body (fun _ => rfl) (fixed_adcCaptureSetBody _)
  | countersGet => exact framed_of_body (fun _ => rfl) (fixed_countersGetBody _)
  | eventCounterSet => exact framed_of_body (fun _ => rfl) (fixed_eventCounterSetBody _)
  | snapshotTake => exact framed_of_body (fun _ => rfl) (fixed_snapshotTakeBody _)
  | snapshotRead => exact framed_of_body (fun _ => rfl) (fixed_snapshotReadBody _)
  | snapshotScheduleSet => exact framed_of_body (fun _ => rfl) (fixed_snapshotScheduleSetBody _)
  | bwConfigSet => exact framed_of_body (fun _ => rfl) (fixed_bwConfigSetBody _)
  | bwGet => exact framed_of_body (fun _ => rfl) (fixed_bwGetBody _)
  | monitorSet => exact framed_of_body (fun _ => rfl) (fixed_monitorSetBody _)
  | monitorGet => exact framed_of_body (fun _ => rfl) (fixed_monitorGetBody _)
  | logRead => exact framed_of_body (fun _ => rfl) (fixed_logReadBody _)
  | strikeTallyGet => exact framed_of_body (fun _ => rfl) (fixed_strikeTallyGetBody _)
  | coreStatusGet => exact framed_of_body (fun _ => rfl) (fixed_coreStatusGetBody _)
  | perfConfigSet => exact framed_of_body (fun _ => rfl) (fixed_perfConfigSetBody _)
  | perfRead => exact framed_of_body (fun _ => rfl) (fixed_perfReadBody _ _)
  | perfSampleGet => exact framed_of_body (fun _ => rfl) (fixed_perfSampleGetBody _)
  | debugAccessSet => exact framed_of_body (fun _ => rfl) (fixed_debugAccessSetBody _)
  | debugFreeze => exact framed_of_body (fun _ => rfl) (fixed_debugFreezeBody _)
  | captureSet => exact framed_of_body (fun _ => rfl) (fixed_captureSetBody _)
  | captureRead => exact framed_of_body (fun _ => rfl) (fixed_captureReadBody _)
  | bankErase | bankWrite | bankSeal | bankSelect | bankConfirm | restart | stageCommit | commitCancel | baselineSet | recordErase | recordWrite => cases hmem
  | _ => cases hreq

theorem framed_of_event {i : Instr} (h : ((requestOf i).isNone && !movesMemory i) = true) : Framed i := by
  cases i with
  | unmappedRead => exact framed_of_effect (fun _ => rfl) (fixed_unmappedReadEffect _ _ _ _)
  | unalignedRead => exact framed_of_effect (fun _ => rfl) (fixed_unalignedReadEffect _ _ _ _ _)
  | malformedSpiTransaction => exact framed_of_effect (fun _ => rfl) (fixed_malformedSpiTransactionEffect _ _ _ _)
  | supplyStatus => exact framed_of_effect (fun _ => rfl) (fixed_supplyStatusEffect _ _ _ _ _)
  | accessErr => exact framed_of_effect (fun _ => rfl) (fixed_accessErrEffect _ _ _ _ _)
  | timeLatch => exact framed_of_effect (fun _ => rfl) (fixed_timeLatchEffect _ _ _ _ _)
  | fence => exact framed_of_effect (fun _ => rfl) (fixed_fenceEffect _ _ _ _ _)
  | requestEntryFetch => exact framed_of_effect (fun _ => rfl) (fixed_requestEntryFetchEffect _ _)
  | ringDmaFault => exact framed_of_effect (fun _ => rfl) (fixed_ringDmaFaultEffect _)
  | perstN => exact framed_of_effect (fun _ => rfl) (fixed_perstNEffect _ _)
  | pcieLinkDown => exact framed_of_effect (fun _ => rfl) (fixed_pcieLinkDownEffect _)
  | pcieLinkUp => exact framed_of_effect (fun _ => rfl) (fixed_pcieLinkUpEffect _ _ _ _ _)
  | uartFrame => exact framed_of_effect (fun _ => rfl) (fixed_uartFrameEffect _ _ _)
  | rxGap => exact framed_of_effect (fun _ => rfl) (fixed_rxGapEffect _ _ _)
  | m0Frame => exact framed_of_effect (fun _ => rfl) (fixed_m0FrameEffect _ _)
  | eventSend => exact framed_of_effect (fun _ => rfl) (fixed_eventSendEffect _ _)
  | eventRetry => exact framed_of_effect (fun _ => rfl) (fixed_eventRetryEffect _ _)
  | cacheExpiry => exact framed_of_effect (fun _ => rfl) (fixed_cacheExpiryEffect _)
  | sessionIdle => exact framed_of_effect (fun _ => rfl) (fixed_sessionIdleEffect _ _)
  | evTransportReverted => exact framed_of_effect (fun _ => rfl) (fixed_transportRevertedEffect _ _)
  | commitArmed => exact framed_of_effect (fun _ => rfl) (fixed_commitArmedEffect _ _)
  | abutmentStart => exact framed_of_effect (fun _ => rfl) (fixed_abutmentStartEffect _ _ _ _ _)
  | retentionLost => exact framed_of_effect (fun _ => rfl) (fixed_retentionLostEffect _ _)
  | vinReachesWatchOn => exact framed_of_effect (fun _ => rfl) (fixed_vinReachesWatchOnEffect _ _)
  | wakePin => exact framed_of_effect (fun _ => rfl) (fixed_wakePinEffect _ _ _)
  | fieldInputEdgeWake => exact framed_of_effect (fun _ => rfl) (fixed_fieldInputEdgeWakeEffect _ _ _ _)
  | vinRestore => exact framed_of_effect (fun _ => rfl) (fixed_vinRestoreEffect _ _)
  | rtcAlarm => exact framed_of_effect (fun _ => rfl) (fixed_rtcAlarmEffect _)
  | vinBelowOff => exact framed_of_effect (fun _ => rfl) (fixed_vinBelowOffEffect _ _)
  | rideThrough => exact framed_of_effect (fun _ => rfl) (fixed_rideThroughEffect _ _ _)
  | sheddingStep => exact framed_of_effect (fun _ => rfl) (fixed_sheddingStepEffect _ _ _)
  | holdFloorCrossing => exact framed_of_effect (fun _ => rfl) (fixed_holdFloorCrossingEffect _ _)
  | climb => exact framed_of_effect (fun _ => rfl) (fixed_climbEffect _ _ _)
  | climbAbandoned => exact framed_of_effect (fun _ => rfl) (fixed_climbAbandonedEffect _ _)
  | surgeTrigger => exact framed_of_effect (fun _ => rfl) (fixed_surgeTriggerEffect _ _)
  | slewTrigger => exact framed_of_effect (fun _ => rfl) (fixed_slewTriggerEffect _ _)
  | evStrikeClose => exact framed_of_effect (fun _ => rfl) (fixed_strikeCloseEffect _)
  | inputSwitchOpen => exact framed_of_effect (fun _ => rfl) (fixed_inputSwitchOpenEffect _ _)
  | overvoltageTimeout => exact framed_of_effect (fun _ => rfl) (fixed_overvoltageTimeoutEffect _ _)
  | inputSwitchClose => exact framed_of_effect (fun _ => rfl) (fixed_inputSwitchCloseEffect _ _)
  | thermalCut => exact framed_of_effect (fun _ => rfl) (fixed_thermalCutEffect _ _)
  | thermalRelease => exact framed_of_effect (fun _ => rfl) (fixed_thermalReleaseEffect _ _)
  | vioFault => exact framed_of_effect (fun _ => rfl) (fixed_vioFaultEffect _ _)
  | vioRetry => exact framed_of_effect (fun _ => rfl) (fixed_vioRetryEffect _ _ _)
  | referenceStartFail => exact framed_of_effect (fun _ => rfl) (fixed_referenceStartFailEffect _)
  | referenceRetry => exact framed_of_effect (fun _ => rfl) (fixed_referenceRetryEffect _)
  | evClockFail => exact framed_of_effect (fun _ => rfl) (fixed_clockFailEffect _ _)
  | rtcFail => exact framed_of_effect (fun _ => rfl) (fixed_rtcFailEffect _)
  | ppsEdge => exact framed_of_effect (fun _ => rfl) (fixed_ppsEdgeEffect _)
  | ppsLoss => exact framed_of_effect (fun _ => rfl) (fixed_ppsLossEffect _)
  | syncMessage => exact framed_of_effect (fun _ => rfl) (fixed_syncMessageEffect _ _ _ _ _)
  | ptpLoss => exact framed_of_effect (fun _ => rfl) (fixed_ptpLossEffect _)
  | holdoverExpiry => exact framed_of_effect (fun _ => rfl) (fixed_holdoverExpiryEffect _)
  | rtcAlign => exact framed_of_effect (fun _ => rfl) (fixed_rtcAlignEffect _)
  | timerFire => exact framed_of_effect (fun _ => rfl) (fixed_timerFireEffect _ _)
  | configLoad => exact framed_of_effect (fun _ => rfl) (fixed_configLoadEffect _ _ _)
  | dramTraining => exact framed_of_effect (fun _ => rfl) (fixed_dramTrainingEffect _ _ _)
  | searchLoaded => exact framed_of_effect (fun _ => rfl) (fixed_searchLoadedEffect _)
  | evTableLoaded => exact framed_of_effect (fun _ => rfl) (fixed_tableLoadedEffect _)
  | cdrLock => exact framed_of_effect (fun _ => rfl) (fixed_cdrLockEffect _ _ _)
  | cdrLoss => exact framed_of_effect (fun _ => rfl) (fixed_cdrLossEffect _ _ _)
  | acquisitionRetry => exact framed_of_effect (fun _ => rfl) (fixed_acquisitionRetryEffect _ _)
  | warmWakeTimeout => exact framed_of_effect (fun _ => rfl) (fixed_warmWakeTimeoutEffect _ _)
  | dfeAdapt => exact framed_of_effect (fun _ => rfl) (fixed_dfeAdaptEffect _ _ _)
  | dfeRail => exact framed_of_effect (fun _ => rfl) (fixed_dfeRailEffect _ _ _)
  | prbsLock => exact framed_of_effect (fun _ => rfl) (fixed_prbsLockEffect _ _ _)
  | prbsLockLoss => exact framed_of_effect (fun _ => rfl) (fixed_prbsLockLossEffect _ _ _)
  | evLaneEyeDone => exact framed_of_effect (fun _ => rfl) (fixed_laneEyeDoneEffect _ _)
  | cwComma => exact framed_of_effect (fun _ => rfl) (fixed_cwCommaEffect _ _ _ _ _)
  | commonModeTrigger => exact framed_of_effect (fun _ => rfl) (fixed_commonModeTriggerEffect _ _)
  | burstTrigger => exact framed_of_effect (fun _ => rfl) (fixed_burstTriggerEffect _ _ _)
  | quarantineExit => exact framed_of_effect (fun _ => rfl) (fixed_quarantineExitEffect _ _)
  | evLaneFault => exact framed_of_effect (fun _ => rfl) (fixed_laneFaultEffect _ _ _)
  | linkUp => exact framed_of_effect (fun _ => rfl) (fixed_linkUpEffect _ _ _ _)
  | linkDown => exact framed_of_effect (fun _ => rfl) (fixed_linkDownEffect _ _ _)
  | rxFrame => exact framed_of_effect (fun _ => rfl) (fixed_rxFrameEffect _ _ _ _ _ _ _)
  | opticsPoll => exact framed_of_effect (fun _ => rfl) (fixed_opticsPollEffect _ _ _)
  | opticsStep => exact framed_of_effect (fun _ => rfl) (fixed_opticsStepEffect _ _ _)
  | i2cTimeout => exact framed_of_effect (fun _ => rfl) (fixed_i2cTimeoutEffect _ _)
  | transmissionStart => exact framed_of_effect (fun _ => rfl) (fixed_transmissionStartEffect _ _)
  | cwInit => exact framed_of_effect (fun _ => rfl) (fixed_cwInitEffect _ _ _)
  | cwInitSend => exact framed_of_effect (fun _ => rfl) (fixed_cwInitSendEffect _ _)
  | replayFrame => exact framed_of_effect (fun _ => rfl) (fixed_replayFrameEffect _ _ _ _ _ _)
  | cwAck => exact framed_of_effect (fun _ => rfl) (fixed_cwAckEffect _ _ _ _)
  | cwNak => exact framed_of_effect (fun _ => rfl) (fixed_cwNakEffect _ _ _)
  | replayMark => exact framed_of_effect (fun _ => rfl) (fixed_replayMarkEffect _ _ _)
  | cwCredit => exact framed_of_effect (fun _ => rfl) (fixed_cwCreditEffect _ _ _)
  | ackTimer => exact framed_of_effect (fun _ => rfl) (fixed_ackTimerEffect _ _)
  | nakRepeat => exact framed_of_effect (fun _ => rfl) (fixed_nakRepeatEffect _ _)
  | creditTimer => exact framed_of_effect (fun _ => rfl) (fixed_creditTimerEffect _ _)
  | replayTimer => exact framed_of_effect (fun _ => rfl) (fixed_replayTimerEffect _ _)
  | peerStrikeTimeout => exact framed_of_effect (fun _ => rfl) (fixed_peerStrikeTimeoutEffect _ _)
  | fecLock => exact framed_of_effect (fun _ => rfl) (fixed_fecLockEffect _ _)
  | lineLoss => exact framed_of_effect (fun _ => rfl) (fixed_lineLossEffect _ _)
  | graceEnd => exact framed_of_effect (fun _ => rfl) (fixed_graceEndEffect _ _)
  | meterRefill => exact framed_of_effect (fun _ => rfl) (fixed_meterRefillEffect _)
  | puntRefill => exact framed_of_effect (fun _ => rfl) (fixed_puntRefillEffect _)
  | followExpiry => exact framed_of_effect (fun _ => rfl) (fixed_followExpiryEffect _)
  | reinjected => exact framed_of_effect (fun _ => rfl) (fixed_reinjectedEffect _ _)
  | holdExpired => exact framed_of_effect (fun _ => rfl) (fixed_holdExpiredEffect _)
  | searchScrub => exact framed_of_effect (fun _ => rfl) (fixed_searchScrubEffect _ _ _)
  | evSearchError => exact framed_of_effect (fun _ => rfl) (fixed_evSearchErrorEffect _ _ _ _)
  | learnWindowEnd => exact framed_of_effect (fun _ => rfl) (fixed_learnWindowEndEffect _)
  | learnResult => exact framed_of_effect (fun _ => rfl) (fixed_learnResultEffect _)
  | agingSweep => exact framed_of_effect (fun _ => rfl) (fixed_agingSweepEffect _)
  | tableScrub => exact framed_of_effect (fun _ => rfl) (fixed_tableScrubEffect _ _ _ _)
  | tableRepair => exact framed_of_effect (fun _ => rfl) (fixed_tableRepairEffect _ _ _ _)
  | cellLaunch => exact framed_of_effect (fun _ => rfl) (fixed_cellLaunchEffect _ _ _)
  | planeTransfer => exact framed_of_effect (fun _ => rfl) (fixed_planeTransferEffect _ _ _ _)
  | cellArrival => exact framed_of_effect (fun _ => rfl) (fixed_cellArrivalEffect _ _)
  | reseqTimeout => exact framed_of_effect (fun _ => rfl) (fixed_reseqTimeoutEffect _ _ _)
  | shaperRefill => exact framed_of_effect (fun _ => rfl) (fixed_shaperRefillEffect _)
  | evGateTakeover => exact framed_of_effect (fun _ => rfl) (fixed_gateTakeoverEffect _ _)
  | samplePeriodEnd => exact framed_of_effect (fun _ => rfl) (fixed_samplePeriodEndEffect _)
  | probeTimeout => exact framed_of_effect (fun _ => rfl) (fixed_probeTimeoutEffect _)
  | aloneProbe => exact framed_of_effect (fun _ => rfl) (fixed_aloneProbeEffect _)
  | linkTimeout => exact framed_of_effect (fun _ => rfl) (fixed_linkTimeoutEffect _)
  | electionRoundTimeout => exact framed_of_effect (fun _ => rfl) (fixed_electionRoundTimeoutEffect _)
  | spanClaim => exact framed_of_effect (fun _ => rfl) (fixed_spanClaimEffect _ _)
  | spanDecide => exact framed_of_effect (fun _ => rfl) (fixed_spanDecideEffect _ _ _)
  | syncComplete => exact framed_of_effect (fun _ => rfl) (fixed_syncCompleteEffect _ _ _)
  | heartbeat => exact framed_of_effect (fun _ => rfl) (fixed_heartbeatEffect _ _)
  | evSpanSplit => exact framed_of_effect (fun _ => rfl) (fixed_spanSplitEffect _ _ _)
  | mirrorUpdate => exact framed_of_effect (fun _ => rfl) (fixed_mirrorUpdateEffect _ _ _)
  | remoteCell => exact framed_of_effect (fun _ => rfl) (fixed_remoteCellEffect _ _ _ _ _ _ _)
  | spanReseqTimeout => exact framed_of_effect (fun _ => rfl) (fixed_spanReseqTimeoutEffect _ _ _)
  | refresh => exact framed_of_effect (fun _ => rfl) (fixed_refreshEffect _ _ _)
  | tempRead => exact framed_of_effect (fun _ => rfl) (fixed_tempReadEffect _ _)
  | retrainSlice => exact framed_of_effect (fun _ => rfl) (fixed_retrainSliceEffect _ _ _ _)
  | retrainWaitExpiry => exact framed_of_effect (fun _ => rfl) (fixed_retrainWaitExpiryEffect _ _)
  | retrainRepeat => exact framed_of_effect (fun _ => rfl) (fixed_retrainRepeatEffect _ _)
  | dramScrub => exact framed_of_effect (fun _ => rfl) (fixed_dramScrubEffect _ _ _ _ _)
  | caAlert => exact framed_of_effect (fun _ => rfl) (fixed_caAlertEffect _ _ _ _)
  | routeRepair => exact framed_of_effect (fun _ => rfl) (fixed_routeRepairEffect _ _ _)
  | copyRebuild => exact framed_of_effect (fun _ => rfl) (fixed_copyRebuildEffect _ _)
  | fioInputChange => exact framed_of_effect (fun _ => rfl) (fixed_fioInputChangeEffect _ _ _)
  | debounce => exact framed_of_effect (fun _ => rfl) (fixed_debounceEffect _ _)
  | wettingSample => exact framed_of_effect (fun _ => rfl) (fixed_wettingSampleEffect _ _ _)
  | currentLimit => exact framed_of_effect (fun _ => rfl) (fixed_currentLimitEffect _ _ _)
  | overcurrentLatch => exact framed_of_effect (fun _ => rfl) (fixed_overcurrentLatchEffect _ _)
  | outputRetry => exact framed_of_effect (fun _ => rfl) (fixed_outputRetryEffect _ _)
  | readbackConflict => exact framed_of_effect (fun _ => rfl) (fixed_readbackConflictEffect _ _)
  | conflictClear => exact framed_of_effect (fun _ => rfl) (fixed_conflictClearEffect _ _)
  | pulseStart => exact framed_of_effect (fun _ => rfl) (fixed_pulseStartEffect _ _)
  | pulseEnd => exact framed_of_effect (fun _ => rfl) (fixed_pulseEndEffect _ _)
  | vinConversion => exact framed_of_effect (fun _ => rfl) (fixed_vinConversionEffect _ _ _)
  | adcConversion => exact framed_of_effect (fun _ => rfl) (fixed_adcConversionEffect _ _ _ _ _)
  | adcCapture => exact framed_of_effect (fun _ => rfl) (fixed_adcCaptureEffect _)
  | snapshotScheduleFire => exact framed_of_effect (fun _ => rfl) (fixed_snapshotScheduleFireEffect _)
  | bwWindowEnd => exact framed_of_effect (fun _ => rfl) (fixed_bwWindowEndEffect _)
  | monitorWindowEnd => exact framed_of_effect (fun _ => rfl) (fixed_monitorWindowEndEffect _ _)
  | perfOverflow => exact framed_of_effect (fun _ => rfl) (fixed_perfOverflowEffect _ _ _ _ _)
  | extest => exact framed_of_effect (fun _ => rfl) (fixed_extestEffect _)
  | idcode => exact framed_of_effect (fun _ => rfl) (fixed_idcodeEffect _)
  | samplePreload => exact framed_of_effect (fun _ => rfl) (fixed_samplePreloadEffect _ _ _)
  | clamp => exact framed_of_effect (fun _ => rfl) (fixed_clampEffect _)
  | highz => exact framed_of_effect (fun _ => rfl) (fixed_highzEffect _)
  | bypass => exact framed_of_effect (fun _ => rfl) (fixed_bypassEffect _ _)
  | dbg => exact framed_of_effect (fun _ => rfl) (fixed_dbgEffect _)
  | forcedHalt => exact framed_of_effect (fun _ => rfl) (fixed_forcedHaltEffect _ _)
  | debugAccessExpiry => exact framed_of_effect (fun _ => rfl) (fixed_debugAccessExpiryEffect _)
  | tablesInstalled => exact framed_of_effect (fun _ => rfl) (fixed_tablesInstalledEffect _)
  | transmissionEnd => exact framed_of_effect (fun _ => rfl) (fixed_transmissionEndEffect _ _)
  | lanePllLock => exact framed_of_effect (fun _ => rfl) (fixed_lanePllLockEffect _ _ _)
  | tenMhzPresent => exact framed_of_effect (fun _ => rfl) (fixed_tenMhzPresentEffect _ _)
  | alertNHigh => exact framed_of_effect (fun _ => rfl) (fixed_alertNHighEffect _ _)
  | ppsOut => exact framed_of_effect (fun _ => rfl) (fixed_ppsOutEffect _)
  | uart0Cts => exact framed_of_effect (fun _ => rfl) (fixed_uart0CtsEffect _ _)
  | aloneProbeEnd => exact framed_of_effect (fun _ => rfl) (fixed_aloneProbeEndEffect _)
  | frameSlot => exact framed_of_effect (fun _ => rfl) (fixed_frameSlotEffect _ _)
  | spanTimingExchange => exact framed_of_effect (fun _ => rfl) (fixed_spanTimingExchangeEffect _ _ _)
  | debugRead t space addr =>
    refine framed_of_effect (fun _ => rfl) (fixed_dbgOp (fun v => ?_) t)
    dsimp only
    split
    · rw [fixed_setResult, fixed_debugValue]
    · exact fixed_setResult true _ _ v
  | dbgResume t w => exact framed_of_effect (fun _ => rfl) (fixed_dbgOp (fixed_resumeRequest w _) t)
  | dbgStep t w => exact framed_of_effect (fun _ => rfl) (fixed_dbgOp (fixed_stepRequest w _) t)
  | debugFreezeWrite t => exact framed_of_effect (fun _ => rfl) (fixed_dbgOp fixed_debugFreezeRequest t)
  | clearLockBroken t => exact framed_of_effect (fun _ => rfl) (fixed_dbgOp fixed_clearBroken t)
  | _ => cases h

theorem framed_of_not_movesMemory {i : Instr} (hmem : movesMemory i = false) : Framed i := by
  cases hreq : requestOf i with
  | none => exact framed_of_event (by rw [hreq, hmem]; rfl)
  | some r => exact framed_of_request hreq hmem

theorem keepsAll_of_movesMemory {i : Instr} (hmem : movesMemory i = true) : KeepsAll i := by
  cases i with
  | bankErase => exact keepsAll_of_body (fun _ => rfl) (kept_bankEraseBody _ _)
  | bankWrite => exact keepsAll_of_body (fun _ => rfl) (kept_bankWriteBody _ _)
  | bankSeal => exact keepsAll_of_body (fun _ => rfl) (kept_bankSealBody _ _)
  | bankSelect => exact keepsAll_of_body (fun _ => rfl) (kept_bankSelectBody _ _)
  | bankConfirm => exact keepsAll_of_body (fun _ => rfl) (kept_bankConfirmBody _ _)
  | restart => exact keepsAll_of_body (fun _ => rfl) (kept_restartBody _)
  | stageCommit => exact keepsAll_of_body (fun _ => rfl) (kept_stageCommitBody _)
  | commitCancel => exact keepsAll_of_body (fun _ => rfl) (kept_commitCancelBody _)
  | baselineSet => exact keepsAll_of_body (fun _ => rfl) (kept_baselineSetBody _ _)
  | recordErase => exact keepsAll_of_body (fun _ => rfl) (kept_recordEraseBody _ _)
  | recordWrite => exact keepsAll_of_body (fun _ => rfl) (kept_recordWriteBody _ _)
  | hostWindowWrite => exact keepsAll_of_effect (fun _ => rfl) fun s => kept_hostWindowWriteEffect _ _ _ _ _ _ s (kept_refl _)
  | takeSnapshot => exact keepsAll_of_effect (fun _ => rfl) fun s => kept_takeSnapshotEffect _ _ _ _ _ _ s (kept_refl _)
  | armPps => exact keepsAll_of_effect (fun _ => rfl) fun s => kept_armPpsEffect _ _ _ _ _ _ s (kept_refl _)
  | intCause => exact keepsAll_of_effect (fun _ => rfl) fun s => kept_intCauseEffect _ _ _ _ _ _ s (kept_refl _)
  | intMask => exact keepsAll_of_effect (fun _ => rfl) fun s => kept_intMaskEffect _ _ _ _ _ _ s (kept_refl _)
  | quiesceReq => exact keepsAll_of_effect (fun _ => rfl) fun s => kept_quiesceReqEffect _ _ _ _ _ _ s (kept_refl _)
  | ringEnable => exact keepsAll_of_effect (fun _ => rfl) fun s => kept_ringEnableEffect _ _ _ _ _ _ s (kept_refl _)
  | ringReset => exact keepsAll_of_effect (fun _ => rfl) fun s => kept_ringResetEffect _ _ _ _ _ _ s (kept_refl _)
  | reqTail => exact keepsAll_of_effect (fun _ => rfl) fun s => kept_reqTailEffect _ _ _ _ _ _ s (kept_refl _)
  | rspHead => exact keepsAll_of_effect (fun _ => rfl) fun s => kept_rspHeadEffect _ _ _ _ _ _ s (kept_refl _)
  | responseEntryWrite => exact keepsAll_of_effect (fun _ => rfl) fun s => kept_responseEntryWriteEffect _ s (kept_refl _)
  | epochReached => exact keepsAll_of_effect (fun _ => rfl) fun s => kept_epochReachedEffect _ _ s (kept_refl _)
  | abutmentReset => exact keepsAll_of_effect (fun _ => rfl) fun s => kept_abutmentResetEffect _ _ s (kept_refl _)
  | transitionComplete => exact keepsAll_of_effect (fun _ => rfl) fun s => kept_transitionCompleteEffect _ s (kept_refl _)
  | bankVerdict => exact keepsAll_of_effect (fun _ => rfl) fun s => kept_bankVerdictEffect _ _ _ s (kept_refl _)
  | flashNotAnswering => exact keepsAll_of_effect (fun _ => rfl) fun s => kept_flashNotAnsweringEffect _ _ s (kept_refl _)
  | controlPreload => exact keepsAll_of_effect (fun _ => rfl) fun s => kept_controlPreloadEffect _ s (kept_refl _)
  | autoConfirm => exact keepsAll_of_effect (fun _ => rfl) fun s => kept_autoConfirmEffect _ s (kept_refl _)
  | watchdog => exact keepsAll_of_effect (fun _ => rfl) fun s => kept_watchdogEffect _ _ s (kept_refl _)
  | sectionStreamed => exact keepsAll_of_effect (fun _ => rfl) fun s => kept_sectionStreamedEffect _ _ _ _ s (kept_refl _)
  | relayedMessage => exact keepsAll_of_effect (fun _ => rfl) fun s => kept_relayedMessageEffect _ _ s (kept_refl _)
  | debugWrite => exact keepsAll_of_effect (fun _ => rfl) fun s => kept_debugWriteEffect _ _ _ _ s (kept_refl _)
  | dbgHalt => exact keepsAll_of_effect (fun _ => rfl) fun s => kept_dbgHaltEffect _ _ _ _ s (kept_refl _)
  | debugReset => exact keepsAll_of_effect (fun _ => rfl) fun s => kept_debugResetEffect _ s (kept_refl _)
  | clocksLocked => exact keepsAll_of_effect (fun _ => rfl) fun s => kept_clocksLockedEffect _ _ s (kept_refl _)
  | _ => cases hmem

theorem exec_keepsAll (i : Instr) : KeepsAll i := by
  cases hmem : movesMemory i with
  | false => exact (framed_of_not_movesMemory hmem).keepsAll
  | true => exact keepsAll_of_movesMemory hmem

/-! ### A step -/

/-- A step keeps what the command at the front of the queue keeps, which finds the queue without itself. -/
theorem step_kept {s v : State} (h : step s = .next v) : Kept (fixed { s with pending := s.pending.tail }) (fixed v) := by
  unfold step at h
  split at h
  · next hnil =>
    obtain rfl := Host.Outcome.next.inj h
    rw [hnil, List.tail_nil, ← hnil]
    exact kept_refl _
  · next c rest hcons =>
    obtain ⟨w, hw, hk⟩ := exec_keepsAll c { s with pending := rest }
    obtain rfl := Host.Outcome.next.inj (hw.symm.trans h)
    rw [hcons, List.tail_cons]
    exact hk

/-- Settles O47: no row writes a memory but through the operations that keep its canonical form. -/
theorem stepKeepsMemoryCanonical : Obligations.StepKeepsMemoryCanonical := by
  intro s v hstep hwf
  have hk := step_kept hstep
  obtain ⟨hflash, hbuffer⟩ := (Bool.and_eq_true _ _).mp hwf
  exact (Bool.and_eq_true _ _).mpr ⟨hk.flash hflash, hk.buffer hbuffer⟩

/-- Settles O48: no row touches the queue or the identity, and the clock moves only forward (log entries 2 and 11 chose both). -/
theorem stepKeepsQueueIdentityClock : Obligations.StepKeepsQueueIdentityClock := by
  intro s v hstep
  have hk := step_kept hstep
  exact ⟨hk.pending, hk.ident, hk.elapsed⟩

/-! ### The boot flash -/

theorem flash_eq_of_fixed {s v : State} (h : fixed v = fixed s) : v.flash = s.flash :=
  congrArg (fun p => p.2.2.2.1) h

section
variable {c : Cmd} {q : Req} {body : State → Body} {s : State}

theorem runChecks_eq_ok {x : Option Session} {p : State × Reply} (h : runChecks c x s body = .ok p) : body s = .ok p := by
  unfold runChecks at h
  split at h
  · split at h
    · exact h
    · cases h
  · split at h
    · cases h
    · split at h
      · cases h
      · split at h
        · cases h
        · exact h

/-- A command is run here, by its own definition, or passed to the partner, which leaves the fixed part alone. -/
theorem bodyOrRun_eq_ok {x : Option Session} {v : State} {r : Reply} (h : bodyOrRun c q x body s = .ok (v, r)) :
    body s = .ok (v, r) ∨ fixed v = fixed s := by
  unfold bodyOrRun at h
  split at h
  · split at h
    · cases h
    · obtain rfl := congrArg Prod.fst (Except.ok.inj h)
      exact .inr (by rw [fixed_sendVc0, fixed_mk (h := rfl)])
  · exact .inl h

theorem execute_cases : fixed (execute c q body s) = fixed s ∨
    ∃ v r, body s = .ok (v, r) ∧ fixed (execute c q body s) = fixed v := by
  unfold execute
  dsimp only
  split
  case h_1 v resp hrun =>
    rw [fixed_finish]
    exact (bodyOrRun_eq_ok (runChecks_eq_ok hrun)).symm.imp_right fun h => ⟨v, _, h, rfl⟩
  case h_2 v e resp hrun =>
    rw [fixed_finish]
    exact (bodyOrRun_eq_ok (runChecks_eq_ok hrun)).symm.imp_right fun h => ⟨v, _, h, rfl⟩
  case h_3 v hrun => exact (bodyOrRun_eq_ok (runChecks_eq_ok hrun)).symm.imp_right fun h => ⟨v, _, h, rfl⟩
  case h_4 e hrun => exact .inl (fixed_finish _ _ _ _ _ _ _)

/-- A request leaves the fixed part as its own instant finds it, or as its command's definition leaves it. -/
theorem kmpExec_cases : fixed (kmpExec c q body s) = fixed (advance q.t s) ∨
    ∃ u v r, fixed u = fixed (advance q.t s) ∧ body u = .ok (v, r) ∧ fixed (kmpExec c q body s) = fixed v := by
  have hexec : ∀ u, fixed u = fixed (advance q.t s) → fixed (execute c q body u) = fixed (advance q.t s) ∨
      ∃ u' v r, fixed u' = fixed (advance q.t s) ∧ body u' = .ok (v, r) ∧ fixed (execute c q body u) = fixed v := fun u hu =>
    execute_cases.imp (fun h => h.trans hu) fun ⟨v, r, hb, hv⟩ => ⟨u, v, r, hu, hb, hv⟩
  have harrive : ∀ a, arrive c.row.code q (takeRequest (if q.remote then advance q.t s else countRx q.transport (advance q.t s))) = a →
      fixed (arrivalState a) = fixed (advance q.t s) := fun a ha => by
    rw [← ha, fixed_arrive, fixed_takeRequest]
    simp only [fixed_ite, fixed_countRx, ite_self]
  unfold kmpExec
  dsimp only
  split
  · split
    · exact .inl rfl
    · exact hexec _ (fixed_mk (h := rfl) ..)
  · split
    · exact .inl rfl
    · split
      · exact .inl (by rw [fixed_relayMsg, fixed_countRx])
      · split
        · exact .inl (by rw [fixed_holdMessage]; simp only [fixed_ite, fixed_countRx, ite_self])
        · split
          · next hdone => exact .inl (harrive _ hdone)
          · next hgo =>
            split
            · exact hexec _ ((fixed_mk (h := rfl) ..).trans (harrive _ hgo))
            · exact .inl ((fixed_enqueue _ _ _ _).trans (harrive _ hgo))

theorem kmpExec_flash (hbody : ∀ u v r, body u = .ok (v, r) → v.flash = u.flash) : (kmpExec c q body s).flash = s.flash := by
  have hadv : (advance q.t s).flash = s.flash := advance_flash q.t s
  rcases kmpExec_cases (c := c) (q := q) (body := body) (s := s) with h | ⟨u, v, r, hu, hb, hv⟩
  · rw [flash_eq_of_fixed h, hadv]
  · rw [flash_eq_of_fixed hv, hbody u v r hb, flash_eq_of_fixed hu, hadv]

end

/-! A run of Keystone writes no flash: what it loses is held in volatile memory. -/

theorem beginKeystone_flash (c : BootCause) (ago : Nat) (s : State) : (beginKeystone c ago s).flash = s.flash := by
  have hset : ∀ u, (defaultSettings u).flash = u.flash := fun u => flash_eq_of_fixed (fixed_defaultSettings u)
  unfold beginKeystone
  dsimp only
  rw [flash_eq_of_fixed (fixed_fuseSlot0 _)]
  dsimp only
  rw [hset, flash_eq_of_fixed (fixed_forgetPins _)]
  exact (flash_eq_of_fixed (fixed_keepKmpTimers _)).trans (flash_eq_of_fixed (fixed_keystoneDebug c s))

theorem beginRun_flash (ago : Nat) (s : State) : (beginRun ago s).flash = s.flash := by
  unfold beginRun
  split
  · split
    · exact beginKeystone_flash _ _ _
    · rfl
  · rfl

theorem restartRun_flash (c : BootCause) (s : State) : (restartRun c s).flash = s.flash := by
  unfold restartRun
  dsimp only
  rw [flash_eq_of_fixed (fixed_reselect _), flash_eq_of_fixed (fixed_resetSources _), beginKeystone_flash]
  refine Eq.trans ?_ (flash_eq_of_fixed (fixed_hostLinkDown s))
  dsimp only
  split
  · exact flash_eq_of_fixed (fixed_planeLeavesFreeze _)
  · rfl
  · exact flash_eq_of_fixed (fixed_planeToWatch _)

/-! The host window writes its registers, and of the memories its buffer alone. -/

theorem writeWord_flash (p : HostPath) (o v : Nat) (s : State) : (writeWord p o v s).flash = s.flash := by
  unfold writeWord
  split
  case h_24 =>
    split
    · rfl
    · exact flash_eq_of_fixed (fixed_writeSticky o v s)
  all_goals
    refine flash_eq_of_fixed ?_
    simp only [fixed_writeIntCause, fixed_afterIntWrite, fixed_writeRingCtrl, fixed_ringSetting, fixed_writeReqTail, fixed_writeRspHead,
      fixed_writeSnap, fixed_writeHostFlag, fixed_writeMsixCtl, fixed_writeLaneSel, fixed_writeCwSel, updHost, fixed_mk]

theorem hostWrite_flash (p : HostPath) (off : Nat) (w : Width) (uneven : Bool) (data : Nat) (s : State) :
    (hostWrite p off w uneven data s).flash = s.flash := by
  have hlog : ∀ k, (logAccess k p true (widthCode w) off s).flash = s.flash := fun k => flash_eq_of_fixed (fixed_logAccess k _ _ _ _ _)
  unfold hostWrite
  dsimp only
  split
  · rfl
  · split
    · exact hlog 2
    · split
      · exact hlog 4
      · split
        · exact hlog 3
        · simp only [apply_ite State.flash, hlog, writeWord_flash, flash_eq_of_fixed (fixed_noteWrite _ _ _ _), ite_self]

/-! The operations of the debug access register. -/

theorem haltRequest_flash (w : Bool) (seq : Option LockedSeq) (left addr : Nat) (s : State) :
    (haltRequest w seq left addr s).flash = s.flash := by
  have hres : ∀ b, (setResult b addr 0 s).flash = s.flash := fun b => flash_eq_of_fixed (fixed_setResult b addr 0 s)
  have hhalt : ∀ u, (haltCore w false u).flash = u.flash := fun u => flash_eq_of_fixed (fixed_haltCore w false u)
  unfold haltRequest
  dsimp only
  split
  · exact hres true
  · split
    · exact hres false
    · split
      · exact (hhalt _).trans (hres false)
      · split
        · rw [hhalt, advance_flash, hres]
        · exact (flash_eq_of_fixed (fixed_updCore _ _ _)).trans (hres false)

theorem debugResetRequest_flash (s : State) : (debugResetRequest s).flash = s.flash := by
  have hres := flash_eq_of_fixed (fixed_setResult false 0x0C 0 s)
  unfold debugResetRequest
  dsimp only
  split
  · exact hres
  · exact (restartRun_flash _ _).trans hres

theorem controlWrite_flash (a v : Nat) (s : State) : (controlWrite a v s).flash = s.flash := by
  have hres : ∀ b, (setResult b a 0 s).flash = s.flash := fun b => flash_eq_of_fixed (fixed_setResult b a 0 s)
  unfold controlWrite
  dsimp only
  split
  case h_1 => simp only [apply_ite State.flash, haltRequest_flash, hres, ite_self]
  case h_2 => simp only [apply_ite State.flash, flash_eq_of_fixed (fixed_resumeRequest _ _ _), hres, ite_self]
  case h_3 => simp only [apply_ite State.flash, flash_eq_of_fixed (fixed_stepRequest _ _ _), hres, ite_self]
  case h_4 => simp only [apply_ite State.flash, debugResetRequest_flash, hres, ite_self]
  case h_5 => simp only [apply_ite State.flash, flash_eq_of_fixed (fixed_debugFreezeRequest _), hres, ite_self]
  case h_6 => simp only [apply_ite State.flash, flash_eq_of_fixed (fixed_clearBroken _), hres, ite_self]
  case h_7 => exact hres false

theorem dbgOp_flash {op : State → State} (hop : ∀ v, (op v).flash = v.flash) (t : Nat) (s : State) :
    (dbgOp t op s).flash = s.flash := by
  unfold dbgOp
  dsimp only
  split
  · rw [hop, emit_flash, advance_flash]
  · exact advance_flash t s

theorem restartBody_flash {q : Req} {u v : State} {r : Reply} (h : restartBody q u = .ok (v, r)) : v.flash = u.flash := by
  by_cases hlen : q.payload.length = 4
  · by_cases hboot : f4 q.payload 0 = u.boot.bootCount
    · rw [SupplyAndModes.restartBody_restarts hlen hboot] at h
      obtain rfl := congrArg Prod.fst (Except.ok.inj h)
      rw [restartRun_flash, flash_eq_of_fixed (fixed_finish _ _ _ _ _ _ _)]
    · rw [SupplyAndModes.restartBody_stale hlen hboot] at h
      cases h
  · have hbad : restartBody q u = .error .badPayload := SupplyAndModes.checks_fail (decide_eq_false hlen)
    rw [hbad] at h
    cases h

/-- A row leaves the flash as it finds it. -/
def KeepsFlash (i : Instr) : Prop := ∀ s, ∃ v, exec i s = .next v ∧ v.flash = s.flash

theorem Framed.keepsFlash {i : Instr} (h : Framed i) : KeepsFlash i := by
  intro s
  obtain ⟨t, v, hv, hfix⟩ := h s
  exact ⟨v, hv, (flash_eq_of_fixed hfix).trans (advance_flash t s)⟩

theorem keepsFlash_of_effect {i : Instr} {e : State → State} (hexec : ∀ s, exec i s = .next (e s))
    (heff : ∀ s, (e s).flash = s.flash) : KeepsFlash i :=
  fun s => ⟨_, hexec s, heff s⟩

/-- The rows that may touch the window's buffer, or that restart the module, and are not named as writers of the flash. -/
theorem keepsFlash_of_movesMemory {i : Instr} (h : (movesMemory i && !writesFlash i) = true) : KeepsFlash i := by
  have hwrite : ∀ t p off w uneven data s, (hostWrite p off w uneven data (advance t s)).flash = s.flash :=
    fun t p off w uneven data s => (hostWrite_flash p off w uneven data _).trans (advance_flash t s)
  cases i with
  | restart q => exact keepsFlash_of_effect (fun _ => rfl) fun s => kmpExec_flash fun u v r h => restartBody_flash h
  | abutmentReset t mv =>
    refine keepsFlash_of_effect (fun _ => rfl) fun s => ?_
    unfold abutmentResetEffect
    dsimp only
    split <;> exact advance_flash t s
  | flashNotAnswering t ago =>
    refine keepsFlash_of_effect (fun _ => rfl) fun s => ?_
    have hrun : (beginRun ago (advance t s)).flash = s.flash := (beginRun_flash _ _).trans (advance_flash t s)
    unfold flashNotAnsweringEffect
    dsimp only
    split
    · exact (flash_eq_of_fixed (fixed_enterRecovery _ _)).trans hrun
    · exact hrun
  | watchdog t control =>
    refine keepsFlash_of_effect (fun _ => rfl) fun s => ?_
    unfold watchdogEffect
    dsimp only
    split
    · exact (restartRun_flash _ _).trans (advance_flash t s)
    · exact advance_flash t s
  | responseEntryWrite t =>
    refine keepsFlash_of_effect (fun _ => rfl) fun s => ?_
    have hdone : ∀ u, (noteQuiesced (setCause causeRspReady u)).flash = u.flash := fun u =>
      flash_eq_of_fixed ((fixed_noteQuiesced _).trans (fixed_setCause _ _))
    unfold responseEntryWriteEffect
    dsimp only
    split
    · exact advance_flash t s
    · split
      · rw [hdone, updHost_flash, emit_flash, advance_flash]
      · exact advance_flash t s
  | hostWindowWrite | takeSnapshot | armPps | intCause | intMask | quiesceReq | ringEnable | ringReset | reqTail | rspHead =>
    exact keepsFlash_of_effect (fun _ => rfl) (hwrite _ _ _ _ _ _)
  | dbgHalt t w seq left => exact keepsFlash_of_effect (fun _ => rfl) (dbgOp_flash (haltRequest_flash w seq left _) t)
  | debugReset t => exact keepsFlash_of_effect (fun _ => rfl) (dbgOp_flash debugResetRequest_flash t)
  | debugWrite t space addr data =>
    refine keepsFlash_of_effect (fun _ => rfl) (dbgOp_flash (fun u => ?_) t)
    have hres : ∀ b, (setResult b addr.toNat 0 u).flash = u.flash := fun b => flash_eq_of_fixed (fixed_setResult b _ 0 u)
    split
    · exact hres true
    · split
      · exact controlWrite_flash _ _ _
      · exact (flash_eq_of_fixed (fixed_debugStore _ _ _ _)).trans (hres false)
  | _ => cases h

/-- Settles O49: a row outside those named moves no memory, or the window's buffer alone, or starts a run that reads the flash only. -/
theorem flashChangedOnlyByItsWriters : Obligations.FlashChangedOnlyByItsWriters := by
  intro i s v hwrites hexec
  have hkeep : KeepsFlash i := by
    cases hmem : movesMemory i with
    | false => exact (framed_of_not_movesMemory hmem).keepsFlash
    | true => exact keepsFlash_of_movesMemory (by rw [hmem, hwrites]; rfl)
  obtain ⟨w, hw, hflash⟩ := hkeep s
  rwa [← Host.Outcome.next.inj (hw.symm.trans hexec)]

end Sys2Proof.Proofs.Steps
end

section
/-! SUPPORT. Proofs, Block: the queue, the state after reset, a raised event, and the steps of R167 that every command shares. -/

namespace Sys2Proof.Proofs.Block
open Sys2Proof Sys2Proof.Machine Sys2Proof.Safety Sys2Proof.Laws

/-! ### The queue -/

theorem step_cons {s : State} {c : Instr} {rest : List Instr} (h : s.pending = c :: rest) : step s = exec c { s with pending := rest } := by
  unfold step
  rw [h]

theorem step_nil {s : State} (h : s.pending = []) : step s = .next s := by
  unfold step
  rw [h]

/-- Settles O42. -/
theorem frontCommandRuns : Obligations.FrontCommandRuns := fun _ _ _ h => step_cons h

/-- Settles O43: that the block idles is the model's choice (log entry 1). -/
theorem emptyQueueIdles : Obligations.EmptyQueueIdles := fun _ h => step_nil h

/-! ### The state after reset -/

/-- Settles O45: every field is read off the literal state after reset. -/
theorem resetValues : Obligations.ResetValues := by
  unfold Obligations.ResetValues
  refine ⟨rfl, ?thresholds, ?modes, ?strikes, ?time, ?transports, ?mailbox, ?window, ?lanes, ?ports, ?forwarding, ?span, ?status, ?memories⟩
  case thresholds | modes | strikes | time | transports | forwarding | span => decide
  case mailbox | window | lanes | ports | memories => exact ⟨rfl, by decide⟩
  case status => decide

/-- Settles O46: neither memory lists a byte. -/
theorem resetMemoryCanonical : Obligations.ResetMemoryCanonical := rfl

/-! ### A raised event (R178 to R180) -/

/-- Where the time base runs, an event is stamped with it. -/
theorem stamp_of_running {s : State} (h : tickNs s.sup.mode ≠ 0) : stamp s = s.tb.now := by
  unfold stamp
  exact if_neg h

/-- Settles O54: off a Span follower the event goes to the hold, and outside Shelf and off its stamp is the time base. -/
theorem raisedEventIsHeld : Obligations.RaisedEventIsHeld := by
  intro e id adds s hfollows hruns
  rw [raise_kmp e id adds s hfollows, stamp_of_running hruns]
  refine ⟨rfl, ?_, rfl⟩
  simp only [tb10, nsPerS]

/-! ### Steps 7 and 9 of R167 -/

section
variable {c : Cmd} {x : Option Session} {s : State}

theorem runChecks_unknownCmd (body : State → Body) (hrec : s.boot.recovery = false) (hknown : cmdKnown c s = false) :
    runChecks c x s body = .error .unknownCmd := by
  unfold runChecks
  rw [if_neg (by simp [hrec]), if_pos (by simp [hknown])]

theorem runChecks_modeNotAllowed (body : State → Body) (hrec : s.boot.recovery = false) (hknown : cmdKnown c s = true)
    (hrole : c.row.control = true → (x.any fun y => y.controlling) = true) (hmode : cmdInMode c s.sup.mode = false) :
    runChecks c x s body = .error .modeNotAllowed := by
  have hpass : ¬ (c.row.control && !(x.any fun y => y.controlling) && !spanFollows s) = true := by
    cases hctl : c.row.control with
    | false => simp
    | true => simp [hrole hctl]
  unfold runChecks
  rw [if_neg (by simp [hrec]), if_neg (by simp [hknown]), if_neg hpass, if_pos (by simp [hmode])]

end

/-- A request that reaches step 7 and that a later check stops is turned away with that check's error. -/
theorem turnsAway_of_reaches {i : Instr} {c : Cmd} {q : Req} {s : State} {e : Err} (hreq : requestOf i = some (c, q))
    (hreach : reaches c q s = true)
    (hstop : ∀ body, runChecks c (findSession q.session (entered c q s)) (entered c q s) body = .error e) : TurnsAway c q i s e := by
  obtain ⟨body, hexec⟩ := request_exec hreq
  unfold TurnsAway
  rw [hexec, kmpExec_reaches body hreach, KiskaskaMailbox.execute_of_error (hstop _)]

/-- Settles O51: knowledge of the command is step 7, before the role; the mode is step 9, after it. -/
theorem unknownAndModeRefused : Obligations.UnknownAndModeRefused := by
  refine ⟨fun i c q s hreq hreach hknown => ?_, fun i c q s x hreq hreach hknown hx hrole hmode => ?_⟩
  · obtain ⟨hrec, -⟩ := reaches_props hreach
    obtain ⟨hhandled, -⟩ := entered_of_reaches hreach
    refine turnsAway_of_reaches hreq hreach fun body => runChecks_unknownCmd body ?_ ?_
    · rw [hhandled.boot, hrec]
    · rw [hhandled.cmdKnown, hknown]
  · obtain ⟨hrec, -⟩ := reaches_props hreach
    obtain ⟨hhandled, x', y, -, hx', hy, hyx, -, -⟩ := entered_of_reaches hreach
    obtain rfl : x' = x := Option.some.inj (hx'.symm.trans hx)
    refine turnsAway_of_reaches hreq hreach fun body => runChecks_modeNotAllowed body ?_ ?_ (fun hctl => ?_) ?_
    · rw [hhandled.boot, hrec]
    · rw [hhandled.cmdKnown, hknown]
    · rw [hy, Option.any_some, hyx, hrole hctl]
    · rw [hhandled.sup, hmode]

end Sys2Proof.Proofs.Block
end

section
/-! SUPPORT. Proofs, Commands: a request whose command passes its checks, and the commands of the mailbox, of time and of the start
(chapters 2 to 5 and 20). -/

namespace Sys2Proof.Proofs.Commands
open Sys2Proof Sys2Proof.Machine Sys2Proof.Safety Sys2Proof.Laws

/-! ### A command whose checks all pass -/

@[simp] theorem lenIs_fst (q : Req) (n : Nat) : (lenIs q n).1 = decide (q.payload.length = n) := rfl

theorem checks_of_all {l : List (Bool × Err)} {k : Body} (h : l.all Prod.fst = true) : checks l k = k := by
  induction l with
  | nil => rfl
  | cons x l ih =>
    obtain ⟨hx, hl⟩ := (Bool.and_eq_true _ _).mp h
    exact (SupplyAndModes.checks_pass hx).trans (ih hl)

section
variable {c : Cmd} {i : Req → Instr} {pre : Req → State → Prop} {eff : Req → State → State} {resp : Req → State → List Byte}
  {l : Req → State → List (Bool × Err)} {k : Req → State → Body}

/-- A command that makes its checks and then acts succeeds where the checks pass and the act comes out right. -/
theorem succeeds_of_checks (hexec : ∀ q s, exec (i q) s = .next (kmpExec c q (fun u => checks (l q u) (k q u)) s))
    (hpass : ∀ q u, pre q u → (l q u).all Prod.fst = true) (hact : ∀ q u, pre q u → k q u = .ok (eff q u, .ok (resp q u))) :
    Succeeds c i pre eff resp :=
  succeeds_of_body hexec fun q u h => (checks_of_all (hpass q u h)).trans (hact q u h)

/-- A command that checks its length alone, against an empty payload. -/
theorem succeeds_of_noPayload (hexec : ∀ q s, exec (i q) s = .next (kmpExec c q (fun u => checks [lenIs q 0] (k q u)) s))
    (hact : ∀ q u, k q u = .ok (eff q u, .ok (resp q u))) : Succeeds c i noPayload eff resp :=
  succeeds_of_checks hexec (fun q _ h => by simp [show q.payload = [] from h]) fun q u _ => hact q u

end

/-! ### The mailbox -/

/-- Settles O1. -/
theorem mailboxCommandsSucceed : Obligations.MailboxCommandsSucceed := by
  refine ⟨?sessionClose, ?sessionStatus, ?identityGet, ?eventAck, ?eventFetch, ?eventConfigSet, ?transportConfigSet,
    ?transportConfigGet⟩
  case sessionClose | sessionStatus | identityGet | eventAck | transportConfigGet =>
    exact succeeds_of_noPayload (fun _ _ => rfl) fun _ _ => rfl
  case eventFetch =>
    exact succeeds_of_checks (fun _ _ => rfl) (fun q u ⟨hlen, hmin, hmax, hseq⟩ => by simp [hlen, hmin, hmax, fetchSeqOk, hseq])
      fun _ _ _ => rfl
  case eventConfigSet =>
    exact succeeds_of_checks (fun _ _ => rfl) (fun q u ⟨hlen, hwindow, hmin, hmax⟩ => by simp [hlen, hwindow, hmin, hmax])
      fun _ _ _ => rfl
  case transportConfigSet =>
    refine succeeds_of_checks (fun _ _ => rfl) (fun q u ⟨hlen, hfields⟩ => by simp [hlen, hfields]) fun q u _ => ?_
    dsimp only
    by_cases hchange : carriesChange q u = true
    · rw [if_pos hchange, if_pos hchange]; rfl
    · rw [if_neg hchange, if_neg hchange]; rfl

/-! ### SESSION_OPEN -/

section
variable {q : Req} {s : State}

theorem received_kmp : (KiskaskaMailbox.received q s).kmp = s.kmp := by
  unfold KiskaskaMailbox.received takeRequest countRx
  split <;> split <;> simp

theorem counted_kmp (c : Cmd) : (counted c q s).kmp = s.kmp := by
  rw [← KiskaskaMailbox.compared_eq_counted]
  split <;> exact received_kmp

/-- A SESSION_OPEN that no cached answer meets and before which nothing waits goes on to the checks of step 7. -/
theorem arrive_opening (hrec : (advance q.t s).boot.recovery = false) (hses : q.session = 0) (hwaiting : (advance q.t s).kmp.waiting = [])
    (hcache : cacheFind q.requestId (advance q.t s).elapsed (advance q.t s).kmp.openCache = none) :
    arrive Cmd.sessionOpen.row.code q (KiskaskaMailbox.received q s) = .go 0 (counted .sessionOpen q s) := by
  have hcount := counted_handled .sessionOpen q s
  rw [advance_kmp] at hwaiting hcache
  unfold arrive
  dsimp only
  rw [KiskaskaMailbox.compared_eq_counted, hcount.boot, hcount.elapsed, counted_kmp, hrec, hcache, hwaiting]
  simp [hses, waitingMax]

/-- A request that is heard and goes on from its arrival, with nothing before it to wait for, is executed in the state it entered. -/
theorem kmpExec_of_go {c : Cmd} {h : Nat} {u : State} (body : State → Body) (hheard : heard c q s = true)
    (harrive : arrive c.row.code q (KiskaskaMailbox.received q s) = .go h u) (hwaiting : u.kmp.waiting = [])
    (hwait : mustWait c q u = false) :
    kmpExec c q body s = execute c q body (entered c q s) := by
  unfold KiskaskaMailbox.received at harrive
  rw [heard_kmpExec body hheard, entered, harrive]
  exact if_pos ⟨hwaiting, by rw [hwait]; rfl⟩

theorem entered_of_go {c : Cmd} {h : Nat} {u : State} (harrive : arrive c.row.code q (KiskaskaMailbox.received q s) = .go h u) :
    entered c q s = { u with kmp := { u.kmp with hBefore := h } } := by
  unfold KiskaskaMailbox.received at harrive
  rw [entered, harrive]

theorem execute_of_ok {c : Cmd} {body : State → Body} {v : State} {resp : List Byte}
    (hrun : runChecks c (findSession q.session s) s (bodyOrRun c q (findSession q.session s) body) = .ok (v, .ok resp)) :
    execute c q body s = finish c.row.code q (findSession q.session s) true 0 resp v := by
  unfold execute
  dsimp only
  rw [hrun]

/-- Steps 7 to 10 let a SESSION_OPEN through where the mode lists it: it needs no role, and belongs to no session. -/
theorem runChecks_sessionOpen (body : State → Body) (hrec : s.boot.recovery = false) (hmode : cmdInMode .sessionOpen s.sup.mode = true) :
    runChecks .sessionOpen none s (bodyOrRun .sessionOpen q none body) = body s := by
  simp [runChecks, hrec, hmode, cmdKnown, Cmd.row, bodyOrRun, forPartner]

/-- A SESSION_OPEN that reaches its own definition is answered by it. -/
theorem answers_of_opening {v : State} {resp : List Byte} (h : opening q s = true)
    (hbody : sessionOpenBody q (entered .sessionOpen q s) = .ok (v, .ok resp)) : Answers .sessionOpen q (.sessionOpen q) s v resp := by
  simp only [opening, Bool.and_eq_true, Bool.not_eq_true', decide_eq_true_eq, List.isEmpty_iff, Option.isNone_iff_eq_none] at h
  obtain ⟨⟨⟨⟨⟨⟨⟨⟨⟨hses, hwaiting⟩, hserved⟩, hfollow⟩, hhalt⟩, hrec⟩, hheld⟩, hmode⟩, hcache⟩, hnone⟩ := h
  have hcount := counted_handled .sessionOpen q s
  have harrive := arrive_opening hrec hses hwaiting hcache
  have hent := entered_of_go harrive
  have hheard : heard .sessionOpen q s = true := by simp [heard, isHead_empty hwaiting, hserved, hfollow, hhalt]
  have hwait : mustWait .sessionOpen q (counted .sessionOpen q s) = false := by
    rw [hcount.mustWait]
    simp [mustWait, hheld, hhalt]
  have hfind : findSession q.session (entered .sessionOpen q s) = none := by
    rw [hent, hses]
    exact (counted_find _ q 0 s).trans hnone
  have hrec' : (entered .sessionOpen q s).boot.recovery = false := by rw [hent, ← hrec, ← hcount.boot]
  have hmode' : cmdInMode .sessionOpen (entered .sessionOpen q s).sup.mode = true := by rw [hent, ← hmode, ← hcount.sup]
  have hgo := kmpExec_of_go (sessionOpenBody q) hheard harrive (hcount.waiting.trans hwaiting) hwait
  refine (congrArg Host.Outcome.next (hgo.trans (execute_of_ok ?_)))
  rw [hfind, runChecks_sessionOpen _ hrec' hmode', hbody]

end

/-- Settles O2: the act of SESSION_OPEN is the one stated, and what the new session holds is read off it. -/
theorem sessionOpenMakesSession : Obligations.SessionOpenMakesSession := by
  intro q s hopen hlen hfields hslot hauth hrole hcount u u1 x u2 u3 v
  refine ⟨⟨rfl, rfl, rfl, rfl, rfl, rfl, rfl⟩, answers_of_opening hopen ?_⟩
  refine (checks_of_all ?_).trans rfl
  simp only [List.all_cons, List.all_nil, lenIs_fst, Bool.and_eq_true, decide_eq_true_eq]
  exact ⟨hlen, hfields, hauth, hslot, ⟨hrole, hcount⟩, trivial⟩

/-! ### Time -/

/-- Settles O3. -/
theorem timeCommandsSucceed : Obligations.TimeCommandsSucceed := by
  refine ⟨?timeGet, ?timeSet, ?timeSourceSet, ?rtcAlarmSet, ?timerClaim, ?timerRelease, ?timerStatusGet⟩
  case timeGet | timerStatusGet => exact succeeds_of_noPayload (fun _ _ => rfl) fun _ _ => rfl
  case timeSet =>
    exact succeeds_of_checks (fun _ _ => rfl) (fun q u ⟨hlen, hns, hfree⟩ => by simp [hlen, hns, hfree]) fun _ _ _ => rfl
  case timeSourceSet =>
    exact succeeds_of_checks (fun _ _ => rfl) (fun q u ⟨hlen, hfields, hport⟩ => by simp [hlen, hfields, ptpPortOk, hport])
      fun _ _ _ => rfl
  case rtcAlarmSet =>
    exact succeeds_of_checks (fun _ _ => rfl) (fun q u ⟨hlen, hperiod, hset⟩ => by simp [hlen, hperiod, hset]) fun _ _ _ => rfl
  case timerClaim =>
    intro n
    refine succeeds_of_checks (fun _ _ => rfl)
      (fun q u ⟨hlen, hns, htimer, hperiod, _⟩ => by simpa [hlen, hns, htimer, periodOk] using hperiod) fun q u ⟨_, _, _, _, hgrant⟩ => ?_
    rw [hgrant]; rfl
  case timerRelease =>
    exact succeeds_of_checks (fun _ _ => rfl) (fun q u ⟨hlen, htimer, howner⟩ => by simp [hlen, htimer, howner]) fun _ _ _ => rfl

/-! ### The boot flash -/

theorem bankBase_bankNum (q : Req) : bankBase (bankNum q) = if f1 q.payload 0 = 1 then 0x500000 else 0x100000 := by
  simp [bankBase, bankNum]

section
variable {u : State}

/-- A device that verifies takes the programming. -/
theorem programBody_of_done {a : Nat} {b : List Byte} (h : progCheck a b u = .done) :
    programBody a b true u = .ok (flashWrite a b u, .ok []) := by
  unfold programBody
  rw [h]
  rfl

/-- Programming what a region holds already changes nothing. -/
theorem programBody_of_same {a : Nat} {b : List Byte} (h : progCheck a b u = .same) : programBody a b true u = .ok (u, .ok []) := by
  unfold programBody
  rw [h]
  rfl

theorem sealBody_of_done {b : Bool} (hgood : bankBad b (dirOf u) = false) (h : progCheck (bankBase b + 32) (sealTags b u) u = .done) :
    sealBody b true u = .ok (flashWrite (bankBase b + 32) (sealTags b u) u, .ok []) := by
  unfold sealBody
  dsimp only
  rw [h, hgood]
  rfl

/-- A bank selected with a limit of attempts is on trial. -/
theorem selectDir_of_limit {b auto : Bool} {limit : Nat} {d : Directory} (h : 1 ≤ limit) :
    selectDir b limit auto d = { d with preferredB := b, trial := true, autoConfirm := auto, trialLimit := limit, attempts := 0 } := by
  have hne : limit ≠ 0 := by omega
  simp [selectDir, hne]

end

/-- Settles O4. -/
theorem flashCommandsSucceed : Obligations.FlashCommandsSucceed := by
  refine ⟨?bankErase, ?bankWrite, ?bankWriteSame, ?bankSeal, ?bankSelect, ?bankConfirm, ?baselineSet, ?recordErase, ?recordWrite⟩
  case bankErase =>
    refine succeeds_of_checks (fun _ _ => rfl) (fun q u ⟨hlen, hbank, hidle⟩ => by simp [hlen, bankNumOk, notActive, hbank, hidle])
      fun q u _ => ?_
    exact (congrArg (fun a => okEmpty (flashErase a bankSize u)) (bankBase_bankNum q)).trans rfl
  case bankWrite =>
    exact succeeds_of_checks (fun _ _ => rfl)
      (fun q u ⟨hlen, hmin, hmax, hbank, hidle, hrange, _⟩ => by
        simp [writeLenOk, hlen, hmin, hmax, bankNumOk, hbank, notActive, hidle, bankSize, hrange])
      fun q u ⟨_, _, _, _, _, _, hprog⟩ => programBody_of_done hprog
  case bankWriteSame =>
    exact succeeds_of_checks (fun _ _ => rfl)
      (fun q u ⟨hlen, hmin, hmax, hbank, hidle, hrange, _⟩ => by
        simp [writeLenOk, hlen, hmin, hmax, bankNumOk, hbank, notActive, hidle, bankSize, hrange])
      fun q u ⟨_, _, _, _, _, _, hprog⟩ => programBody_of_same hprog
  case bankSeal =>
    exact succeeds_of_checks (fun _ _ => rfl)
      (fun q u ⟨hlen, hbank, hidle, hheader, hrevision, _⟩ => by
        simp [hlen, bankNumOk, hbank, notActive, hidle, hheader, hrevision])
      fun q u ⟨_, _, _, _, _, htransfer, hgood, hprog⟩ => (if_pos htransfer).trans (sealBody_of_done hgood hprog)
  case bankSelect =>
    refine succeeds_of_checks (fun _ _ => rfl)
      (fun q u ⟨hlen, hbank, _, hmax, hsealed, hgood, hlists⟩ => by simp [hlen, bankNumOk, hbank, hmax, hsealed, hgood, hlists])
      fun q u ⟨_, _, hmin, _⟩ => ?_
    have htrial : ¬ (f1 q.payload 1 = 0 ∧ !u.boot.recovery ∧ u.boot.bankB = bankNum q) := fun h => by omega
    refine (if_neg htrial).trans ?_
    rw [selectDir_of_limit hmin]
    rfl
  case bankConfirm => exact succeeds_of_checks (fun _ _ => rfl) (fun q u ⟨hlen, htrial⟩ => by simp [hlen, htrial]) fun _ _ _ => rfl
  case baselineSet =>
    exact succeeds_of_checks (fun _ _ => rfl)
      (fun q u ⟨hlen, hslot, hmin, hsupported, hbundle⟩ => by
        simp [hlen, hslot, hmin, supportedBaselines, hsupported, hbundle])
      fun _ _ _ => rfl
  case recordErase =>
    exact succeeds_of_checks (fun _ _ => rfl)
      (fun q u ⟨hlen, hrecord, hslot, hvalid, hstage⟩ => by simp [hlen, recordFree, bankNumOk, hrecord, hslot, hvalid, hstage])
      fun _ _ _ => rfl
  case recordWrite =>
    exact succeeds_of_checks (fun _ _ => rfl)
      (fun q u ⟨hlen, hmin, hmax, hrecord, hslot, hvalid, hstage, hrange, hnone, _⟩ => by
        simp [writeLenOk, hlen, hmin, hmax, recordFree, bankNumOk, hrecord, hslot, hvalid, hstage, slotSize, hrange, hnone])
      fun q u ⟨_, _, _, _, _, _, _, _, _, hprog⟩ => programBody_of_done hprog

/-! ### The start and the baseline -/

/-- Settles O5. -/
theorem bootCommandsSucceed : Obligations.BootCommandsSucceed := by
  refine ⟨?bootStatusGet, ?baselineGet, ?siteLabelSet, ?siteLabelGet, ?restart⟩
  case bootStatusGet | baselineGet | siteLabelGet => exact succeeds_of_noPayload (fun _ _ => rfl) fun _ _ => rfl
  case siteLabelSet => exact succeeds_of_checks (fun _ _ => rfl) (fun q u hlen => by simp [hlen]) fun _ _ _ => rfl
  case restart =>
    intro q s ha hlen hboot
    have hexec : exec (.restart q) s = .next (kmpExec .restart q (restartBody q) s) := rfl
    rw [hexec, kmpExec_admitted _ ha, SupplyAndModes.restartBody_restarts hlen hboot]

end Sys2Proof.Proofs.Commands
end

section
/-! SUPPORT. Proofs, PlatformCommands: the commands of the stage, the supply, the lanes, the ports and the links (chapters 2, 5 and 7
to 9). -/

namespace Sys2Proof.Proofs.PlatformCommands
open Sys2Proof Sys2Proof.Machine Sys2Proof.Safety Sys2Proof.Laws Sys2Proof.Proofs.Commands

/-! ### Stages and commits -/

theorem stageOf_of_stage {u : State} {g : Stage} {n : Nat} (h : u.kmp.stage = some g) (hid : g.id = n) : stageOf n u = some g := by
  simp [stageOf, h, hid]

/-- The act of STAGE_VERIFY where every item is verified: the stage is verified, and the report names no bad item. -/
theorem stageReports_none_bad {g : Stage} {u : State} (h : (stageReports g u).all (fun x => decide (x = .verified)) = true) :
    ((stageReports g u).findIdx? fun x => decide (x ≠ .verified)) = none := by
  rw [List.findIdx?_eq_none_iff]
  intro x hx
  simpa using List.all_eq_true.mp h x hx

/-- Settles O6. -/
theorem stageCommandsSucceed : Obligations.StageCommandsSucceed := by
  refine ⟨?stageOpen, ?stageWrite, ?stageVerify, ?stageCommit, ?commitCancel, ?stageCancel⟩
  case stageOpen =>
    refine succeeds_of_checks (fun _ _ => rfl)
      (fun q u ⟨hlen, hmin, hmax, hid, hnone, htypes, hsize⟩ => ?_) fun _ _ _ => rfl
    have hhead : 12 ≤ q.payload.length := by omega
    simp only [List.all_cons, List.all_nil, Bool.and_true, Bool.and_eq_true, decide_eq_true_eq]
    exact ⟨⟨hhead, hlen, hmin, hmax, hid⟩, by rw [hnone]; rfl, htypes, hsize⟩
  case stageWrite =>
    intro g x d
    refine succeeds_of_checks (fun _ _ => rfl)
      (fun q u ⟨hlen, hmin, hmax, hstage, hid, _⟩ => by simp [hlen, hmin, hmax, stageOf_of_stage hstage hid])
      fun q u ⟨_, _, _, hstage, hid, hitem, hphase, hfits, hchunk⟩ => ?_
    rw [stageOf_of_stage hstage hid]
    dsimp only
    rw [hitem]
    dsimp only
    rw [checks_of_all (by simp [hphase, hfits]), hchunk]
    rfl
  case stageVerify =>
    intro g
    refine succeeds_of_checks (fun _ _ => rfl)
      (fun q u ⟨hlen, hstage, hid, _⟩ => by simp [hlen, stageOf_of_stage hstage hid])
      fun q u ⟨_, hstage, hid, hphase, hverified⟩ => ?_
    rw [stageOf_of_stage hstage hid]
    dsimp only
    rw [stageReports_none_bad hverified, if_neg hphase]
    rfl
  case stageCommit =>
    intro g
    refine succeeds_of_checks (fun _ _ => rfl)
      (fun q u ⟨hlen, hstage, hid, htime, _⟩ => by simp [hlen, stageOf_of_stage hstage hid, htime])
      fun q u ⟨_, hstage, hid, _, hphase, hbase, hbuilding, hcommitted, hepoch⟩ => ?_
    rw [stageOf_of_stage hstage hid]
    dsimp only
    rw [checks_of_all (by simp [hphase, hbase, hbuilding, hcommitted, hepoch])]
    rfl
  case commitCancel =>
    intro c
    refine succeeds_of_checks (fun _ _ => rfl) (fun q u ⟨hlen, _⟩ => by simp [hlen]) fun q u ⟨_, hcommitted, hid, hdue⟩ => ?_
    rw [hcommitted]
    dsimp only
    rw [checks_of_all (by simp [hid, hdue])]
    rfl
  case stageCancel =>
    intro g
    exact succeeds_of_checks (fun _ _ => rfl)
      (fun q u ⟨hlen, hstage, hid, hphase⟩ => by simp [hlen, stageOf_of_stage hstage hid, hphase]) fun _ _ _ => rfl

/-! ### The supply and the modes -/

/-- Settles O7. -/
theorem supplyCommandsSucceed : Obligations.SupplyCommandsSucceed := by
  refine ⟨?modeGet, ?modeSet, ?modeConfigSet, ?modeConfigGet, ?wakeConfigSet, ?strikeConfigSet, ?strikeStatusGet⟩
  case modeGet | modeConfigGet | strikeStatusGet => exact succeeds_of_noPayload (fun _ _ => rfl) fun _ _ => rfl
  case modeSet =>
    refine succeeds_of_checks (fun _ _ => rfl) (fun q u ⟨hlen, hcode, hfreeze, hwake, hvin⟩ => ?_) fun _ _ _ => rfl
    have hknown : f1 q.payload 0 ≤ 5 := by omega
    have hmild : effMode u = .freeze → ¬ 2 ≤ f1 q.payload 0 := fun h => Nat.not_le.mpr (hfreeze h)
    simp only [List.all_cons, List.all_nil, lenIs_fst, Bool.and_true, Bool.and_eq_true, Bool.or_eq_true, Bool.not_eq_true',
      Bool.and_eq_false_imp, decide_eq_true_eq, decide_eq_false_iff_not]
    exact ⟨hlen, hknown, hcode, hmild, Decidable.or_iff_not_imp_left.mpr fun h => hwake (Decidable.not_not.mp h), hvin⟩
  case modeConfigSet =>
    exact succeeds_of_checks (fun _ _ => rfl)
      (fun q u ⟨hlen, hcode, hports, hth, hride, hride', hdwell, hdwell', hkeep⟩ => by
        simp [hlen, hcode, hports, hth, hride, hride', hdwell, hdwell', hkeep])
      fun _ _ _ => rfl
  case wakeConfigSet =>
    exact succeeds_of_checks (fun _ _ => rfl) (fun q u ⟨hlen, hlevel, hrise, hfall⟩ => by simp [hlen, hlevel, hrise, hfall])
      fun _ _ _ => rfl
  case strikeConfigSet =>
    exact succeeds_of_checks (fun _ _ => rfl) (fun q u ⟨hlen, hfields⟩ => by simp [hlen, strikeFieldsOk, hfields]) fun _ _ _ => rfl

/-! ### The lanes -/

/-- Settles O8. -/
theorem laneCommandsSucceed : Obligations.LaneCommandsSucceed := by
  refine ⟨?laneConfigSet, ?laneConfigGet, ?laneStatusGet, ?laneSleepSet, ?laneTestStart, ?laneTestStop, ?lanePrbsGet, ?laneEyeStart,
    ?laneEyeGet⟩
  case laneConfigSet =>
    exact succeeds_of_checks (fun _ _ => rfl) (fun q u ⟨hlen, hlane, hcfg⟩ => by simp [hlen, laneNumOk, hlane, hcfg]) fun _ _ _ => rfl
  case laneConfigGet | laneStatusGet | laneEyeGet =>
    exact succeeds_of_checks (fun _ _ => rfl) (fun q u ⟨hlen, hlane⟩ => by simp [hlen, laneNumOk, hlane]) fun _ _ _ => rfl
  case laneSleepSet =>
    exact succeeds_of_checks (fun _ _ => rfl)
      (fun q u ⟨hlen, hlane, htx, hrx, hfree, howned⟩ => by simp [hlen, laneNumOk, hlane, htx, hrx, hfree, howned]) fun _ _ _ => rfl
  case laneTestStart =>
    refine succeeds_of_checks (fun _ _ => rfl) (fun q u ⟨hlen, hlane, hstart, _⟩ => by simp [hlen, laneNumOk, hlane, hstart])
      fun q u ⟨_, _, hstart, hfields, heth, hcw, htx, hrx, hbert, hgroup⟩ => ?_
    have hnot : ¬ f1 q.payload 1 = 1 := by omega
    have hbert' : ¬ f1 q.payload 5 = 2 ∨ f1 q.payload 3 = 0 := by
      simpa [Decidable.or_iff_not_imp_left] using hbert
    have hgroup' : ¬ u.sup.mode = .keep ∨ laneGroup (f1 q.payload 0) ∈ u.clk.laneRefs := by
      simpa [Decidable.or_iff_not_imp_left] using hgroup
    rw [if_neg hnot, checks_of_all (by simp [hfields, heth, hcw, htx, hrx, hbert', hgroup'])]
    rfl
  case laneTestStop =>
    refine succeeds_of_checks (fun _ _ => rfl) (fun q u ⟨hlen, hlane, hstop, _⟩ => by simp [hlen, laneNumOk, hlane, hstop])
      fun q u ⟨_, _, hstop, howner⟩ => ?_
    rw [if_pos hstop, checks_of_all (by simp [howner])]
    rfl
  case lanePrbsGet =>
    intro errs struck
    exact succeeds_of_checks (fun _ _ => rfl) (fun q u ⟨hlen, hlane⟩ => by simp [hlen, laneNumOk, hlane]) fun _ _ _ => rfl
  case laneEyeStart =>
    exact succeeds_of_checks (fun _ _ => rfl)
      (fun q u ⟨hlen, hlane, hidle, hactive, hlocked, hmin, hmax⟩ => by
        simp [hlen, laneNumOk, hlane, hidle, hactive, hlocked, hmin, hmax])
      fun _ _ _ => rfl

/-! ### The ports, M0 and the optics -/

/-- Settles O9. -/
theorem portCommandsSucceed : Obligations.PortCommandsSucceed := by
  refine ⟨?portForm, ?portStatusGet, ?m0ConfigSet, ?m0ConfigSetOnM0, ?m0ConfigGet, ?opticsMapSet, ?opticsRead, ?opticsWrite⟩
  case m0ConfigGet => exact succeeds_of_noPayload (fun _ _ => rfl) fun _ _ => rfl
  case portForm =>
    refine succeeds_of_checks (fun _ _ => rfl) (fun q u ⟨hlen, hport, hform, hlanes, hkeep⟩ => ?_) fun _ _ _ => rfl
    have hbusy : ((wantedLanes (f1 q.payload 0) (f1 q.payload 1)).any fun l => laneTaken (f1 q.payload 0) l u) = false := by
      simpa using hlanes
    simp only [portFormChecks, List.all_cons, List.all_nil, lenIs_fst, Bool.and_true, Bool.and_eq_true, Bool.or_eq_true,
      Bool.not_eq_true', Bool.and_eq_false_imp, Bool.not_eq_false', decide_eq_true_eq]
    exact ⟨hlen, hport, hform.imp_right And.left, hform.imp_right And.right, hbusy, hkeep⟩
  case portStatusGet =>
    exact succeeds_of_checks (fun _ _ => rfl) (fun q u ⟨hlen, hport⟩ => by simp [hlen, portNumOk, hport]) fun _ _ _ => rfl
  case m0ConfigSet =>
    exact succeeds_of_checks (fun _ _ => rfl) (fun q u ⟨hlen, hcfg, _⟩ => by simp [hlen, hcfg]) fun q u ⟨_, _, hother⟩ => if_neg hother
  case m0ConfigSetOnM0 =>
    exact succeeds_of_checks (fun _ _ => rfl) (fun q u ⟨hlen, hcfg, _⟩ => by simp [hlen, hcfg]) fun q u ⟨_, _, hm0⟩ => if_pos hm0
  case opticsMapSet =>
    exact succeeds_of_checks (fun _ _ => rfl)
      (fun q u ⟨hlen, hport, hfields, hsingle⟩ => by simp [hlen, portNumOk, hport, hfields, hsingle]) fun _ _ _ => rfl
  case opticsRead =>
    intro d
    exact succeeds_of_checks (fun _ _ => rfl)
      (fun q u ⟨hlen, hport, hrange, hmapped⟩ => by simp [hlen, portNumOk, hport, hrange, hmapped]) fun _ _ _ => rfl
  case opticsWrite =>
    intro d
    exact succeeds_of_checks (fun _ _ => rfl)
      (fun q u ⟨hlen, hport, hrange, hmapped, hfree⟩ => by simp [hlen, portNumOk, hport, hrange, hmapped, hfree]) fun _ _ _ => rfl

/-! ### The Causeway links -/

/-- Settles O10. -/
theorem causewayCommandsSucceed : Obligations.CausewayCommandsSucceed := by
  refine ⟨?cwForm, ?cwRelease, ?cwLinkStatusGet, ?cwCountersGet, ?cwFlush⟩
  case cwForm =>
    refine succeeds_of_checks (fun _ _ => rfl)
      (fun q u ⟨hlen, hlane, hform, heth, htest, hspan, hfields, hspace⟩ => ?_) fun q u ⟨_, _, hform, _⟩ => ?_
    · have hwide : u.span.state = .off ∨ spanLane (f1 q.payload 0) u = false := by simpa [Decidable.or_iff_not_imp_left] using hspan
      simp [hlen, hlane, heth, htest, hwide, hfields, hspace]
    · have hnot : ¬ f1 q.payload 1 = 1 := by omega
      dsimp only
      rw [if_neg hnot]
      rfl
  case cwRelease =>
    refine succeeds_of_checks (fun _ _ => rfl)
      (fun q u ⟨hlen, hlane, hrelease, heth, htest, hspan⟩ => ?_) fun q u ⟨_, _, hrelease, _⟩ => ?_
    · have hwide : u.span.state = .off ∨ spanLane (f1 q.payload 0) u = false := by simpa [Decidable.or_iff_not_imp_left] using hspan
      simp [hlen, hlane, heth, htest, hwide, cwFieldsOk, hrelease]
    · dsimp only
      rw [if_pos hrelease, cwRelease]
      split <;> rfl
  case cwLinkStatusGet | cwCountersGet =>
    exact succeeds_of_checks (fun _ _ => rfl) (fun q u ⟨hlen, hlane, howner⟩ => by simp [cwLaneChecks, hlen, hlane, howner])
      fun _ _ _ => rfl
  case cwFlush =>
    exact succeeds_of_checks (fun _ _ => rfl)
      (fun q u ⟨hlen, hlane, howner, hstate⟩ => by simp [cwLaneChecks, hlen, hlane, howner, hstate]) fun _ _ _ => rfl

end Sys2Proof.Proofs.PlatformCommands
end

section
/-! SUPPORT. Proofs, PacketCommands: the commands of forwarding, classification, egress, the Span and the DRAM (chapters 10 to 15). -/

namespace Sys2Proof.Proofs.PacketCommands
open Sys2Proof Sys2Proof.Machine Sys2Proof.Safety Sys2Proof.Laws Sys2Proof.Proofs.Commands

/-! ### Forwarding and learning -/

/-- Settles O11. -/
theorem forwardingCommandsSucceed : Obligations.ForwardingCommandsSucceed := by
  refine ⟨?fwdConfigSet, ?fwdConfigGet, ?vlanSet, ?portLearnSet, ?bridgeAdd, ?bridgeDelete, ?bridgeFlush, ?tableLookup, ?tableStatusGet⟩
  case fwdConfigGet | tableStatusGet => exact succeeds_of_noPayload (fun _ _ => rfl) fun _ _ => rfl
  case fwdConfigSet =>
    exact succeeds_of_checks (fun _ _ => rfl) (fun q u ⟨hlen, hfields⟩ => by simp [hlen, hfields]) fun _ _ _ => rfl
  case vlanSet =>
    exact succeeds_of_checks (fun _ _ => rfl) (fun q u ⟨hlen, hmin, hmax, hmask⟩ => by simp [hlen, vlanOk, hmin, hmax, hmask])
      fun _ _ _ => rfl
  case portLearnSet =>
    exact succeeds_of_checks (fun _ _ => rfl) (fun q u ⟨hlen, hport⟩ => by simp [hlen, hport]) fun _ _ _ => rfl
  case bridgeAdd =>
    intro k
    refine succeeds_of_checks (fun _ _ => rfl)
      (fun q u ⟨hlen, hadd, hmin, hmax, hmac, hresult, _⟩ => by simp [hlen, bridgeFieldsOk, hadd, hmin, hmax, hmac, hresult])
      fun q u ⟨_, hadd, _, _, _, _, hnew, hfree⟩ => ?_
    rw [if_pos hadd, bridgeAdd, hnew]
    dsimp only
    rw [hfree]
    rfl
  case bridgeDelete =>
    intro k e
    refine succeeds_of_checks (fun _ _ => rfl)
      (fun q u ⟨hlen, hdelete, hmin, hmax, hmac, _⟩ => by simp [hlen, bridgeFieldsOk, hdelete, hmin, hmax, hmac])
      fun q u ⟨_, hdelete, _, _, _, hfound, himage⟩ => ?_
    have hnot : ¬ f1 q.payload 0 = 0 := by omega
    rw [if_neg hnot, bridgeDelete, hfound]
    dsimp only
    rw [himage]
    rfl
  case bridgeFlush =>
    exact succeeds_of_checks (fun _ _ => rfl)
      (fun q u ⟨hlen, hport, hvlan⟩ => by simpa [hlen, hvlan, or_assoc] using hport) fun _ _ _ => rfl
  case tableLookup =>
    refine succeeds_of_checks (fun _ _ => rfl) (fun q u ⟨hlen, hmin, hmax, hfamily⟩ => ?_) fun _ _ _ => rfl
    have hkey : keyFamilyOk q.payload = true := by
      unfold keyFamilyOk
      split
      · next haddress => exact decide_eq_true (hfamily haddress)
      · rfl
    simp [hlen, hmin, hmax, hkey]

/-! ### Parsing, classification, search, meters and the slow path -/

/-- Settles O12. -/
theorem classificationCommandsSucceed : Obligations.ClassificationCommandsSucceed := by
  refine ⟨?parseConfigSet, ?parseConfigGet, ?portClassSet, ?portClassGet, ?searchBankSet, ?searchWrite, ?searchInsert, ?searchRead,
    ?meterSet, ?meterGet, ?puntConfigSet, ?fragStatusGet⟩
  case parseConfigGet | fragStatusGet => exact succeeds_of_noPayload (fun _ _ => rfl) fun _ _ => rfl
  case parseConfigSet | puntConfigSet =>
    exact succeeds_of_checks (fun _ _ => rfl) (fun q u ⟨hlen, hfields⟩ => by simp [hlen, hfields]) fun _ _ _ => rfl
  case portClassSet | meterSet =>
    exact succeeds_of_checks (fun _ _ => rfl) (fun q u ⟨hlen, hnumber, hfields⟩ => by simp [hlen, hnumber, hfields]) fun _ _ _ => rfl
  case portClassGet | meterGet =>
    exact succeeds_of_checks (fun _ _ => rfl) (fun q u ⟨hlen, hnumber⟩ => by simp [hlen, hnumber]) fun _ _ _ => rfl
  case searchBankSet =>
    exact succeeds_of_checks (fun _ _ => rfl)
      (fun q u ⟨hlen, hfields, hfree, hunlisted, hrank⟩ => by simpa [hlen, hfields, hfree, hunlisted] using hrank) fun _ _ _ => rfl
  case searchWrite =>
    exact succeeds_of_checks (fun _ _ => rfl)
      (fun q u ⟨hbank, hprofile, hentry, hlen, haction, hfree⟩ => by
        simp [searchChecks, hbank, hprofile, hentry, hlen, haction, hfree])
      fun _ _ _ => rfl
  case searchInsert =>
    intro f
    refine succeeds_of_checks (fun _ _ => rfl)
      (fun q u ⟨hbank, hprofile, hentry, hlen, haction, hvalid, hfree, _⟩ => by
        simp [searchChecks, hbank, hprofile, hentry, hlen, haction, hvalid, hfree])
      fun q u ⟨_, _, _, _, _, _, _, hfirst⟩ => ?_
    dsimp only
    rw [hfirst]
    rfl
  case searchRead =>
    exact succeeds_of_checks (fun _ _ => rfl)
      (fun q u ⟨hlen, hbank, hprofile, hentry⟩ => by simp [hlen, hbank, hprofile, hentry]) fun _ _ _ => rfl

/-! ### The Decks, the Truss and egress -/

theorem not_any_fromCommit {o : Option GatePend} (h : (o.all fun d => !d.fromCommit) = true) :
    (o.any fun d => d.fromCommit) = false := by
  cases o with
  | none => rfl
  | some d => simpa using h

/-- Settles O13. -/
theorem egressCommandsSucceed : Obligations.EgressCommandsSucceed := by
  refine ⟨?deckQueueSet, ?deckQueueGet, ?deckStatusGet, ?trussStatusGet, ?egressConfigSet, ?egressConfigGet, ?schedSet, ?schedGet,
    ?gateListPend, ?gateListDrop, ?gateListRunning, ?gateListPending, ?gateListNone, ?queueStatusGet⟩
  case trussStatusGet | egressConfigGet => exact succeeds_of_noPayload (fun _ _ => rfl) fun _ _ => rfl
  case deckQueueSet =>
    exact succeeds_of_checks (fun _ _ => rfl) (fun q u ⟨hlen, hport, hfields⟩ => by simp [hlen, hport, hfields]) fun _ _ _ => rfl
  case deckQueueGet | queueStatusGet =>
    exact succeeds_of_checks (fun _ _ => rfl) (fun q u ⟨hlen, hport, hqueue⟩ => by simp [hlen, hport, hqueue]) fun _ _ _ => rfl
  case deckStatusGet | schedGet =>
    exact succeeds_of_checks (fun _ _ => rfl) (fun q u ⟨hlen, hnumber⟩ => by simp [hlen, hnumber]) fun _ _ _ => rfl
  case egressConfigSet =>
    exact succeeds_of_checks (fun _ _ => rfl) (fun q u ⟨hlen, hmin, hmax⟩ => by simp [hlen, egressCfgOk, hmin, hmax]) fun _ _ _ => rfl
  case schedSet =>
    exact succeeds_of_checks (fun _ _ => rfl) (fun q u ⟨hlen, hport, hfields⟩ => by simp [hlen, schedLen, hport, hfields])
      fun _ _ _ => rfl
  case gateListPend =>
    exact succeeds_of_checks (fun _ _ => rfl)
      (fun q u ⟨hport, htrunk, hfields, hset, hbase, htake, hpend, hlater⟩ => by
        simpa [hport, htrunk, hfields, hset, hbase, htake, hlater] using not_any_fromCommit hpend)
      fun q u ⟨_, _, _, hset, _⟩ => if_neg hset
  case gateListDrop =>
    refine succeeds_of_checks (fun _ _ => rfl)
      (fun q u ⟨hport, htrunk, hfields, hdrop, hbase, htake, hpend, hlater⟩ => ?_)
      fun q u ⟨_, _, _, hdrop, _⟩ => if_pos hdrop
    obtain ⟨d, hsome, hown⟩ := (Option.any_eq_true _ _).mp hpend
    have hown' : d.fromCommit = false := by simpa using hown
    simp [hport, htrunk, hfields, hbase, htake, hlater, hsome, hown']
  case gateListRunning =>
    intro l
    refine succeeds_of_checks (fun _ _ => rfl) (fun q u ⟨hlen, hport, hwhich, _⟩ => by simp [hlen, hport, hwhich])
      fun q u ⟨_, _, hwhich, hlist⟩ => ?_
    rw [if_pos hwhich, hlist]
    rfl
  case gateListPending =>
    intro d
    refine succeeds_of_checks (fun _ _ => rfl) (fun q u ⟨hlen, hport, hwhich, _⟩ => by simp [hlen, hport, hwhich])
      fun q u ⟨_, _, hwhich, hpend⟩ => ?_
    have hnot : ¬ f1 q.payload 1 = 0 := by omega
    rw [if_neg hnot, hpend]
    rfl
  case gateListNone =>
    refine succeeds_of_checks (fun _ _ => rfl) (fun q u ⟨hlen, hport, hnone⟩ => ?_) fun q u ⟨_, _, hnone⟩ => ?_
    · have hwhich : f1 q.payload 1 ≤ 1 := by omega
      simp [hlen, hport, hwhich]
    · obtain ⟨hwhich, hlist⟩ | ⟨hwhich, hpend⟩ := hnone
      · rw [if_pos hwhich, hlist]
        rfl
      · have hnot : ¬ f1 q.payload 1 = 0 := by omega
        rw [if_neg hnot, hpend]
        rfl

/-! ### The Span -/

/-- Settles O14. -/
theorem spanCommandsSucceed : Obligations.SpanCommandsSucceed := by
  refine ⟨?spanConfigSet, ?spanConfigGet, ?spanJoin, ?spanJoinAgain, ?spanLeave, ?spanLeaveOff, ?spanStatusGet, ?spanTargetSet⟩
  case spanConfigGet | spanStatusGet => exact succeeds_of_noPayload (fun _ _ => rfl) fun _ _ => rfl
  case spanConfigSet =>
    exact succeeds_of_checks (fun _ _ => rfl) (fun q u ⟨hlen, hfields, hrest⟩ => by simpa [hlen, hfields] using hrest)
      fun _ _ _ => rfl
  case spanJoin =>
    refine succeeds_of_checks (fun _ _ => rfl) (fun q u ⟨hlen, _⟩ => by simp [hlen]) fun q u ⟨_, hoff, hid, hjoint⟩ => ?_
    rw [if_neg (not_not_intro hoff), checks_of_all (by simp [hid, hjoint])]
    rfl
  case spanJoinAgain =>
    exact succeeds_of_checks (fun _ _ => rfl) (fun q u ⟨hlen, _⟩ => by simp [hlen]) fun q u ⟨_, hon⟩ => if_pos hon
  case spanLeave =>
    exact succeeds_of_checks (fun _ _ => rfl) (fun q u ⟨hlen, _⟩ => by simp [hlen]) fun q u ⟨_, hon⟩ => if_neg hon
  case spanLeaveOff =>
    exact succeeds_of_checks (fun _ _ => rfl) (fun q u ⟨hlen, _⟩ => by simp [hlen]) fun q u ⟨_, hoff⟩ => if_pos hoff
  case spanTargetSet =>
    exact succeeds_of_checks (fun _ _ => rfl) (fun q u ⟨hlen, hjoined, hmember⟩ => by simp [hlen, hjoined, hmember]) fun _ _ _ => rfl

/-! ### The DRAM -/

/-- Settles O15. -/
theorem dramCommandsSucceed : Obligations.DramCommandsSucceed := by
  refine ⟨?dramStatusGet, ?dramTrainGet, ?dramPolicySet, ?dramPolicyGet, ?dramRetrain, ?dramErrorLogGet, ?dramRead⟩
  case dramStatusGet | dramPolicyGet => exact succeeds_of_noPayload (fun _ _ => rfl) fun _ _ => rfl
  case dramTrainGet =>
    intro r
    refine succeeds_of_checks (fun _ _ => rfl) (fun q u ⟨hlen, hchan, hpower, _⟩ => by simp [hlen, chOk, hchan, hpower])
      fun q u ⟨_, _, _, htrain⟩ => ?_
    rw [htrain]
    rfl
  case dramPolicySet =>
    exact succeeds_of_checks (fun _ _ => rfl) (fun q u ⟨hlen, hfields⟩ => by simp [hlen, hfields]) fun _ _ _ => rfl
  case dramRetrain =>
    exact succeeds_of_checks (fun _ _ => rfl)
      (fun q u ⟨hlen, hchan, hpower, hidle⟩ => by simp [hlen, chOk, hchan, hpower, hidle]) fun _ _ _ => rfl
  case dramErrorLogGet =>
    refine succeeds_of_checks (fun _ _ => rfl) (fun q u ⟨hlen, hmin, hmax⟩ => by simp [hlen, hmin, hmax]) fun q u _ => ?_
    dsimp only
    cases ((u.dram.errLog.filter fun e => decide (f4 q.payload 0 ≤ e.seq)).take (f1 q.payload 4)).getLast? <;> rfl
  case dramRead =>
    exact succeeds_of_checks (fun _ _ => rfl)
      (fun q u ⟨hlen, hchan, halign, hmin, hmax, hpower, hrange⟩ => by
        simpa [hlen, chOk, hchan, halign, hmin, hmax, hpower] using hrange)
      fun _ _ _ => rfl

end Sys2Proof.Proofs.PacketCommands
end

section
/-! SUPPORT. Proofs, ServiceCommands: the commands of the keys, the field pins, the counters and the cores (chapters 16 to 19). -/

namespace Sys2Proof.Proofs.ServiceCommands
open Sys2Proof Sys2Proof.Machine Sys2Proof.Safety Sys2Proof.Laws Sys2Proof.Proofs.Commands

/-! ### Keys and digests -/

section
variable {n : Nat} {x : KeySlot} {s : State}

theorem slotOf_setSlot (h : x ≠ {}) : slotOf n (setSlot n x s) = x := by
  unfold slotOf setSlot Tbl.set
  rw [if_neg h]
  exact get_put_same _ _ _ _

@[simp] theorem slotOf_keyChanged (m action source : Nat) : slotOf n (keyChanged m action source s) = slotOf n s := by
  unfold keyChanged
  dsimp only
  rw [raise_only]
  rfl

/-- The slot that a KEY_LOAD fills reports the ID of the key unwrapped. -/
theorem loadSlot_keyId (p : List Byte) (srcCode evSource : Nat) :
    (slotOf (f1 p 0) (loadSlot p srcCode evSource s)).keyId = keyIdOf (unwrapKey p s) := by
  unfold loadSlot
  dsimp only
  rw [slotOf_keyChanged, slotOf_setSlot]
  exact fun h => KeyState.noConfusion (congrArg KeySlot.state h)

end

/-- Settles O16. -/
theorem keyCommandsSucceed : Obligations.KeyCommandsSucceed := by
  refine ⟨?keyStatusGet, ?keyLoad, ?keyClear, ?digestCompare, ?digestReport⟩
  case keyStatusGet => exact succeeds_of_noPayload (fun _ _ => rfl) fun _ _ => rfl
  case keyLoad =>
    refine succeeds_of_checks (fun _ _ => rfl)
      (fun q u ⟨hslot, hmax, hkeyMin, hkeyMax, hlen, hauth, hnext, _⟩ => by
        simp [keyFieldsOk, nextGeneration, hslot, hmax, hkeyMin, hkeyMax, hlen, hauth, hnext])
      fun q u ⟨_, _, _, _, _, _, _, hcheck⟩ => ?_
    dsimp only
    rw [if_neg Bool.false_ne_true, if_pos hcheck, loadSlot_keyId]
    rfl
  case keyClear =>
    exact succeeds_of_checks (fun _ _ => rfl)
      (fun q u ⟨hslot, hmax, hlen, hauth, hnext⟩ => by simp [nextGeneration, hslot, hmax, hlen, hauth, hnext]) fun _ _ _ => rfl
  case digestCompare =>
    refine succeeds_of_checks (fun _ _ => rfl)
      (fun q u ⟨hlen, hfields, hcmp, hkeyed⟩ => ?_) fun q u ⟨_, _, hcmp, _⟩ => if_pos hcmp
    simp only [List.all_cons, List.all_nil, Bool.and_true, Bool.and_eq_true, Bool.or_eq_true, Bool.not_eq_true', decide_eq_true_eq,
      decide_eq_false_iff_not]
    exact ⟨hlen, hfields, .inr hcmp, Decidable.or_iff_not_imp_left.mpr fun h => (hkeyed (Decidable.not_not.mp h)).1,
      Decidable.or_iff_not_imp_left.mpr fun h => (hkeyed (Decidable.not_not.mp h)).2⟩
  case digestReport =>
    refine succeeds_of_checks (fun _ _ => rfl) (fun q u ⟨hlen, hfields, _, hplain⟩ => ?_) fun q u ⟨_, _, hcmp, _⟩ => ?_
    · have hnot : ¬ 3 ≤ f1 q.payload 0 := by omega
      simp [hlen, hfields, hnot]
    · dsimp only
      rw [if_neg (by simp [hcmp])]
      rfl

/-! ### The field pins, the GPIO and the converter -/

/-- Settles O17. -/
theorem fieldCommandsSucceed : Obligations.FieldCommandsSucceed := by
  refine ⟨?fioConfigSet, ?fioStatusGet, ?fioOutputSet, ?fioPulse, ?fioClear, ?gpioConfigSet, ?gpioWrite, ?gpioRead, ?adcConfigSet,
    ?adcRead, ?adcCaptureStart, ?adcCaptureStop⟩
  case fioStatusGet | adcRead => exact succeeds_of_noPayload (fun _ _ => rfl) fun _ _ => rfl
  case fioClear | gpioWrite => exact succeeds_of_checks (fun _ _ => rfl) (fun q u hlen => by simp [show _ = _ from hlen]) fun _ _ _ => rfl
  case fioConfigSet =>
    refine succeeds_of_checks (fun _ _ => rfl) (fun q u ⟨hlen, hfields, hwake, hpulse⟩ => ?_) fun _ _ _ => rfl
    simp only [List.all_cons, List.all_nil, lenIs_fst, Bool.and_true, Bool.and_eq_true, Bool.not_eq_true', Bool.and_eq_false_imp,
      decide_eq_true_eq]
    refine ⟨hlen, hfields, fun h => by simpa using fun h' => hwake ⟨h, h'⟩, fun h => ?_⟩
    rw [hpulse.resolve_left h]
    rfl
  case fioOutputSet =>
    exact succeeds_of_checks (fun _ _ => rfl) (fun q u ⟨hlen, hmode, hidle⟩ => by
      simp only [List.all_cons, List.all_nil, lenIs_fst, hmode, hidle, decide_eq_true hlen, Bool.and_self]) fun _ _ _ => rfl
  case fioPulse =>
    intro g
    refine succeeds_of_checks (fun _ _ => rfl)
      (fun q u ⟨hlen, hpin, hlevel, hmin, hmax, hstart, hmode, hlatched, hpulse, harmed, _⟩ => by
        simp [hlen, hpin, hlevel, hmin, hmax, hstart, hmode, hlatched, hpulse, harmed])
      fun q u ⟨_, _, _, _, _, _, _, _, _, _, hgrant⟩ => ?_
    rw [hgrant]
    rfl
  case gpioConfigSet | adcConfigSet =>
    exact succeeds_of_checks (fun _ _ => rfl) (fun q u ⟨hlen, hfields⟩ => by
      simp only [List.all_cons, List.all_nil, lenIs_fst, hfields, decide_eq_true hlen, Bool.and_self]) fun _ _ _ => rfl
  case gpioRead =>
    intro ext
    exact succeeds_of_noPayload (fun _ _ => rfl) fun _ _ => rfl
  case adcCaptureStart =>
    intro g
    refine succeeds_of_checks (fun _ _ => rfl) (fun q u ⟨hlen, hstart, _⟩ => by simp [hlen, hstart])
      fun q u ⟨_, hstart, hmin, hmax, hfields, hnone, hgrant⟩ => ?_
    have hnot : ¬ f1 q.payload 0 = 1 := by omega
    rw [if_neg hnot, checks_of_all (by simp [hmin, hmax, hfields]), hnone]
    dsimp only
    rw [hgrant]
    rfl
  case adcCaptureStop =>
    intro g
    refine succeeds_of_checks (fun _ _ => rfl) (fun q u ⟨hlen, hstop, _⟩ => by simp [hlen, hstop])
      fun q u ⟨_, hstop, hsome⟩ => ?_
    rw [if_pos hstop, hsome]
    rfl

/-! ### Counters, snapshots, monitors and logs -/

/-- Settles O18. -/
theorem counterCommandsSucceed : Obligations.CounterCommandsSucceed := by
  refine ⟨?countersGet, ?eventCounterSet, ?snapshotTake, ?snapshotRead, ?snapshotStart, ?snapshotStop, ?bwConfigSet, ?bwGet,
    ?monitorSet, ?monitorGet, ?logRead, ?archiveRead, ?strikeTallyGet⟩
  case monitorGet | strikeTallyGet => exact succeeds_of_noPayload (fun _ _ => rfl) fun _ _ => rfl
  case countersGet =>
    refine succeeds_of_checks (fun _ _ => rfl) (fun q u ⟨hlen, hwatch, hset⟩ => ?_) fun _ _ _ => rfl
    simp only [List.all_cons, List.all_nil, lenIs_fst, Bool.and_true, Bool.and_eq_true, Bool.not_eq_true', Bool.and_eq_false_imp,
      decide_eq_true_eq, decide_eq_false_iff_not, Decidable.not_not]
    exact ⟨hlen, hwatch, hset⟩
  case eventCounterSet | monitorSet =>
    exact succeeds_of_checks (fun _ _ => rfl) (fun q u ⟨hlen, hfields⟩ => by simp [hlen, hfields]) fun _ _ _ => rfl
  case snapshotTake =>
    exact succeeds_of_checks (fun _ _ => rfl) (fun q u ⟨hlen, hpower⟩ => by simp [hlen, ch0Powered, hpower]) fun _ _ _ => rfl
  case snapshotRead =>
    intro x
    refine succeeds_of_checks (fun _ _ => rfl) (fun q u ⟨hlen, hset, _⟩ => by simp [hlen, hset]) fun q u ⟨_, _, hfound⟩ => ?_
    rw [hfound]
    rfl
  case snapshotStart =>
    intro g
    refine succeeds_of_checks (fun _ _ => rfl)
      (fun q u ⟨hlen, hstart, hmin, hmax, hfields, _⟩ => by simp [hlen, snapSchedOk, hstart, hmin, hmax, hfields])
      fun q u ⟨_, hstart, _, _, _, htimer⟩ => ?_
    have hnot : ¬ f1 q.payload 0 = 1 := by omega
    rw [if_neg hnot, htimer]
    rfl
  case snapshotStop =>
    exact succeeds_of_checks (fun _ _ => rfl) (fun q u ⟨hlen, hstop⟩ => by simp [hlen, snapSchedOk, hstop])
      fun q u ⟨_, hstop⟩ => if_pos hstop
  case bwConfigSet =>
    exact succeeds_of_checks (fun _ _ => rfl) (fun q u ⟨hlen, hmin, hmax⟩ => by simp [hlen, bwOk, hmin, hmax]) fun _ _ _ => rfl
  case bwGet =>
    exact succeeds_of_checks (fun _ _ => rfl) (fun q u ⟨hlen, hport⟩ => by simp [hlen, hport]) fun _ _ _ => rfl
  case logRead =>
    refine succeeds_of_checks (fun _ _ => rfl) (fun q u ⟨hlen, hlog, hmin, hmax, _⟩ => by simp [hlen, hlog, hmin, hmax])
      fun q u ⟨_, hlog, _, _, hrange⟩ => ?_
    rw [if_pos hlog, checks_of_all (by simp [hrange])]
    rfl
  case archiveRead =>
    refine succeeds_of_checks (fun _ _ => rfl) (fun q u ⟨hlen, hlog, hmin, hmax, _⟩ => by simp [hlen, hlog, hmin, hmax])
      fun q u ⟨_, hlog, _, _, hpower, hrange⟩ => ?_
    have hnot : ¬ f1 q.payload 0 = 0 := by omega
    rw [if_neg hnot, checks_of_all (by simp [ch0Powered, hpower, hrange])]
    rfl

/-! ### The cores, debug access and the capture -/

theorem openDebug_untilTb (seconds id : Nat) (s : State) : (openDebug seconds id s).dbg.untilTb = s.tb.now + seconds * nsPerS := by
  unfold openDebug
  dsimp only
  rw [raise_only]
  rfl

/-- Settles O19. -/
theorem coreCommandsSucceed : Obligations.CoreCommandsSucceed := by
  refine ⟨?coreStatusGet, ?perfConfigSet, ?perfRead, ?perfSampleGet, ?debugOpen, ?debugClose, ?debugFreeze, ?captureStart, ?captureStop,
    ?captureRead⟩
  case coreStatusGet | debugFreeze => exact succeeds_of_noPayload (fun _ _ => rfl) fun _ _ => rfl
  case perfConfigSet =>
    exact succeeds_of_checks (fun _ _ => rfl) (fun q u ⟨hlen, hfields, hup⟩ => by simp [hlen, hfields, hup]) fun _ _ _ => rfl
  case perfRead =>
    intro counts
    exact succeeds_of_checks (fun _ _ => rfl) (fun q u ⟨hlen, hcore⟩ => by simp [hlen, hcore]) fun _ _ _ => rfl
  case perfSampleGet =>
    refine succeeds_of_checks (fun _ _ => rfl) (fun q u ⟨hlen, hcore, hmin, hmax⟩ => by simp [hlen, hcore, hmin, hmax])
      fun q u _ => ?_
    dsimp only
    cases (((coreDbg (decide (f1 q.payload 0 = 1)) u).samples.filter fun x => decide (f4 q.payload 4 ≤ x.seq)).take
      (f2 q.payload 2)).getLast? <;> rfl
  case debugOpen =>
    refine succeeds_of_checks (fun _ _ => rfl)
      (fun q u ⟨hlen, hopens, hauth, hmin, hmax⟩ => by simp [hlen, hopens, hauth, hmin, hmax])
      fun q u ⟨_, hopens, _⟩ => ?_
    dsimp only
    rw [if_pos (by simp [hopens]), openDebug_untilTb]
    rfl
  case debugClose =>
    refine succeeds_of_checks (fun _ _ => rfl) (fun q u ⟨hlen, hcloses⟩ => by simp [hlen, hcloses]) fun q u ⟨_, hcloses⟩ => ?_
    dsimp only
    rw [if_neg (by simp [hcloses])]
    rfl
  case captureStart =>
    refine succeeds_of_checks (fun _ _ => rfl)
      (fun q u ⟨hlen, hstart, hport, hdir, hmin, hmax⟩ => by simp [hlen, captureOk, hstart, hport, hdir, hmin, hmax])
      fun q u ⟨_, hstart, _⟩ => ?_
    dsimp only
    rw [if_neg (by simp [hstart])]
    rfl
  case captureStop =>
    refine succeeds_of_checks (fun _ _ => rfl) (fun q u ⟨hlen, hstop, _⟩ => by simp [hlen, hstop]) fun q u ⟨_, hstop, hrunning⟩ => ?_
    dsimp only
    rw [if_pos (by simp [hstop]), captureEnd, if_pos hrunning]
    rfl
  case captureRead =>
    intro r
    refine succeeds_of_checks (fun _ _ => rfl) (fun q u ⟨hlen, hmin, hmax, _⟩ => by simp [hlen, hmin, hmax])
      fun q u ⟨_, _, _, hfound⟩ => ?_
    rw [hfound]
    rfl

end Sys2Proof.Proofs.ServiceCommands
end

section
/-! SUPPORT. Proofs, HostAccesses: the accesses of the host window that are performed, and the writes through the peek alias (R216 to
R224). -/

namespace Sys2Proof.Proofs.HostAccesses
open Sys2Proof Sys2Proof.Machine Sys2Proof.Safety Sys2Proof.Laws Sys2Proof.Proofs.HostWindow

/-! ### The offset of a register's byte -/

section
variable {reg : Nat} (hreg : reg % 4 = 0) (k : Fin 4)
include hreg

theorem regOffset_byte (peek : Bool) : regOffset reg k peek % 4 = k.val := by
  have hk := k.isLt
  unfold regOffset
  split <;> omega

variable (hlt : reg < 0x8000)
include hlt

theorem regOffset_word (peek : Bool) : regOffset reg k peek % 0x8000 / 4 * 4 = reg := by
  have hk := k.isLt
  unfold regOffset
  split <;> omega

theorem regOffset_lt : regOffset reg k false < 0x8000 := by
  have hk := k.isLt
  rw [regOffset, if_neg Bool.false_ne_true]
  omega

end

/-! ### Reads -/

section
variable {path : HostPath} {off v : Nat} {w : Width} {s : State}

theorem hostRead_none (hup : pathUp path s = true) (heven : unaligned off w false = false)
    (hnone : windowWord path (off % 0x8000 / 4 * 4) s = none) :
    hostRead path off w false s =
      emit (.hostRead path (List.replicate (widthBytes w) 0)) (logAccess 3 path false (widthCode w) off s) := by
  simp [hostRead, hup, heven, hnone]

theorem hostRead_base (hup : pathUp path s = true) (heven : unaligned off w false = false) (hbase : off < 0x8000)
    (hsome : windowWord path (off % 0x8000 / 4 * 4) s = some v) :
    hostRead path off w false s =
      emit (.hostRead path (slice (le 4 (baseRead path (off % 0x8000 / 4 * 4) v s).2) (off % 4) (widthBytes w)))
        (baseRead path (off % 0x8000 / 4 * 4) v s).1 := by
  simp [hostRead, hup, heven, hsome, hbase]

theorem hostRead_peek (hup : pathUp path s = true) (heven : unaligned off w false = false) (hpeek : 0x8000 ≤ off)
    (hsome : windowWord path (off % 0x8000 / 4 * 4) s = some v) :
    hostRead path off w false s = emit (.hostRead path (slice (le 4 v) (off % 4) (widthBytes w))) s := by
  simp [hostRead, hup, heven, hsome, Nat.not_lt.mpr hpeek]

end

/-- A row that reads a register reports it and has the register's side effect; through the peek alias it has none. -/
theorem regReads_of_baseRead {reg : Nat} {i : Nat → HostPath → Fin 4 → Width → Bool → Instr} {get : Nat → State → Nat}
    {eff : HostPath → State → State} (hreg : reg % 4 = 0) (hlt : reg < 0x8000)
    (hexec : ∀ t path k w peek s, exec (i t path k w peek) s = .next (hostRead path (regOffset reg k peek) w false (advance t s)))
    (heff : ∀ path v u, baseRead path reg v u = (eff path u, get v u)) : RegReads reg i get eff := by
  intro path k w v
  have hword := regOffset_word hreg k hlt
  have hbyte := regOffset_byte hreg k
  constructor
  · rintro t s ⟨hup, halign, hsome⟩
    have heven := unaligned_of_aligned ((regOffset_mod_widthBytes hreg k w false).trans halign)
    rw [hexec, hostRead_base hup heven (regOffset_lt hreg k hlt) ((hword false).symm ▸ hsome), hword, hbyte, heff]
  · rintro t s ⟨hup, halign, hsome⟩
    have heven := unaligned_of_aligned ((regOffset_mod_widthBytes hreg k w true).trans halign)
    have hpeek : 0x8000 ≤ regOffset reg k true := Nat.le_add_left _ _
    rw [hexec, hostRead_peek hup heven hpeek ((hword true).symm ▸ hsome), hbyte]

/-- Settles O20. -/
theorem hostReadsAnswer : Obligations.HostReadsAnswer := by
  refine ⟨?unmappedRead, ?unalignedRead, ?malformedSpi, ?supplyStatus, ?accessErr, ?timeLatch, ?fence⟩
  case unmappedRead =>
    rintro path off w t s ⟨hup, heven, hnone⟩
    exact congrArg Host.Outcome.next (hostRead_none hup heven hnone)
  case unalignedRead =>
    rintro path off w uneven t s ⟨hup, hodd⟩
    exact congrArg Host.Outcome.next (hostRead_unaligned hup hodd)
  case malformedSpi => exact fun cmd off cut t s hbad => congrArg Host.Outcome.next (if_pos hbad)
  case supplyStatus | accessErr | timeLatch | fence =>
    exact regReads_of_baseRead (by decide) (by decide) (fun _ _ _ _ _ _ => rfl) fun _ _ _ => rfl

/-! ### Writes -/

section
variable {path : HostPath} {off v data : Nat} {w : Width} {s : State}

theorem hostWrite_base (hup : pathUp path s = true) (halign : off % widthBytes w = 0) (hbase : off < 0x8000)
    (hsome : windowWord path (off / 4 * 4) s = some v) (hwidth : w = .w32 ∨ byteWritable (off / 4 * 4) = true)
    (howner : isRingReg (off / 4 * 4) = true ∧ s.host.rings.enable = true → s.host.rings.ownerSpi = decide (path = .spi))
    (hfree : settingLocked (off / 4 * 4) s = false) :
    hostWrite path off w false data s =
      writeWord path (off / 4 * 4) (mergeBytes v (off % 4) ((le 4 data).take (widthBytes w)))
        (noteWrite path off ((le 4 data).take (widthBytes w)) s) := by
  have hwide : ¬ (widthBytes w < 4 ∧ (!byteWritable (off / 4 * 4)) = true) := by
    rintro ⟨hnarrow, hbyte⟩
    obtain rfl | hbyte' := hwidth
    · exact absurd hnarrow (by decide)
    · simp [hbyte'] at hbyte
  have hown : ¬ (isRingReg (off / 4 * 4) = true ∧ s.host.rings.enable = true ∧ s.host.rings.ownerSpi ≠ decide (path = .spi)) :=
    fun ⟨hring, henable, hother⟩ => hother (howner ⟨hring, henable⟩)
  unfold hostWrite
  dsimp only
  rw [if_neg (by simp [hup]), if_neg (by simp [unaligned_of_aligned halign]), if_neg (Nat.not_le.mpr hbase), hsome]
  dsimp only
  rw [if_neg hwide, if_neg hown, if_neg (by simp [hfree])]

theorem hostWrite_peek (hup : pathUp path s = true) (halign : off % widthBytes w = 0) (hpeek : 0x8000 ≤ off) :
    hostWrite path off w false data s = logAccess 4 path true (widthCode w) off s := by
  simp [hostWrite, hup, unaligned_of_aligned halign, hpeek]

end

/-- A row that writes a register writes it, in every form that the window lets through, and is logged through the peek alias. -/
theorem regWrites_of_regWrite {reg : Nat} (set : Nat) {i : Nat → HostPath → Fin 4 → Width → Bool → BitVec 32 → Instr} (hreg : reg % 4 = 0)
    (hlt : reg < 0x8000) (hexec : ∀ t path k w peek data s, exec (i t path k w peek data) s = .next (regWrite t reg set path k w peek data s)) :
    RegWrites reg set i := by
  intro path k w data
  constructor
  · rintro v t s ⟨hup, halign, hsome, hwidth, howner, hfree⟩
    have hword : regOffset reg k false / 4 * 4 = reg := by
      rw [← Nat.mod_eq_of_lt (regOffset_lt hreg k hlt)]
      exact regOffset_word hreg k hlt false
    rw [← hword] at hsome hwidth howner hfree
    rw [hexec, regWrite, hostWrite_base hup ((regOffset_mod_widthBytes hreg k w false).trans halign) (regOffset_lt hreg k hlt) hsome
      hwidth howner hfree, hword, regOffset_byte hreg k]
    rfl
  · rintro t s ⟨hup, halign⟩
    rw [hexec, regWrite, hostWrite_peek hup ((regOffset_mod_widthBytes hreg k w true).trans halign) (Nat.le_add_left _ _)]
    rfl

/-- Settles O21. -/
theorem hostWritesTakeEffect : Obligations.HostWritesTakeEffect := by
  refine ⟨?write, ?takeSnapshot, ?armPps, ?intCause, ?intMask, ?quiesceReq, ?ringEnable, ?ringReset, ?reqTail, ?rspHead⟩
  case write =>
    rintro path off w data v t s ⟨hup, hbase, halign, hsome, hwidth, howner, hfree⟩
    exact congrArg Host.Outcome.next (hostWrite_base hup halign hbase hsome hwidth howner hfree)
  case takeSnapshot | ringEnable => exact regWrites_of_regWrite 1 (by decide) (by decide) fun _ _ _ _ _ _ _ => rfl
  case armPps | quiesceReq => exact regWrites_of_regWrite 2 (by decide) (by decide) fun _ _ _ _ _ _ _ => rfl
  case ringReset => exact regWrites_of_regWrite 4 (by decide) (by decide) fun _ _ _ _ _ _ _ => rfl
  case intCause | intMask | reqTail | rspHead => exact regWrites_of_regWrite 0 (by decide) (by decide) fun _ _ _ _ _ _ _ => rfl

end Sys2Proof.Proofs.HostAccesses
end

section
/-! SUPPORT. Proofs, MailboxEvents: what happens on the rings, the PCIe link, the mailbox's transports and a commit (chapters 5, 6 and
8). -/

namespace Sys2Proof.Proofs.MailboxEvents
open Sys2Proof Sys2Proof.Machine Sys2Proof.Safety Sys2Proof.Laws

/-! ### A row that does what its effect says -/

section
variable {i : Nat → Instr} {pre : State → Prop} {f : Nat → State → State} {eff : State → State}

/-- A row takes effect where its effect on the state at its instant is the one stated. -/
theorem takes_of_effect (hexec : ∀ t s, exec (i t) s = .next (f t s)) (heff : ∀ t s, pre (advance t s) → f t s = eff (advance t s)) :
    Takes i pre eff :=
  fun t s h => (hexec t s).trans (congrArg Host.Outcome.next (heff t s h))

end

theorem dataPlaneMode_iff {m : Mode} : dataPlaneMode m = true ↔ m = .keep ∨ m = .full ∨ m = .span := by
  cases m <;> simp [dataPlaneMode]

/-! ### The rings and the PCIe link -/

/-- Settles O22. -/
theorem ringsAndLinkRun : Obligations.RingsAndLinkRun := by
  refine ⟨?requestEntryFetch, ?responseEntryWrite, ?ringDmaFault, ?perstLow, ?perstHigh, ?pcieLinkDown, ?pcieLinkUp⟩
  case requestEntryFetch => exact fun t s entry hfetch => congrArg Host.Outcome.next (if_pos hfetch)
  case responseEntryWrite =>
    refine fun m l => takes_of_effect (fun _ _ => rfl) fun t s ⟨hwaiting, hserved, hroom⟩ => ?_
    have hring : ringRoom (advance t s).host.rings = true := by simpa [ringRoom] using hroom
    simp only [responseEntryWriteEffect, hwaiting]
    exact if_pos ⟨hserved, hring⟩
  case ringDmaFault =>
    exact takes_of_effect (fun _ _ => rfl) fun t s ⟨henable, hhost⟩ => if_pos ⟨henable, congrArg not hhost⟩
  case perstLow | perstHigh => exact takes_of_effect (fun _ _ => rfl) fun _ _ _ => rfl
  case pcieLinkDown =>
    exact takes_of_effect (fun _ _ => rfl) fun t s hup => if_pos hup
  case pcieLinkUp =>
    refine fun width rate msi busMaster => takes_of_effect (fun _ _ => rfl) fun t s ⟨hmode, hperst, hdown⟩ =>
      if_pos ⟨?_, congrArg not hperst, congrArg not hdown⟩
    rwa [dataPlaneMode_iff, or_assoc, or_assoc]

/-! ### The transports, the sessions and the events -/

section
variable {n : Nat} {s : State} {x : Session}

theorem number_of_findSession (h : findSession n s = some x) : x.number = n := by
  simpa using List.find?_some h

end

/-- Settles O23. -/
theorem mailboxEventsRun : Obligations.MailboxEventsRun := by
  refine ⟨?uartMessage, ?uartBadFrame, ?rxGap, ?m0Frame, ?m0OverRate, ?eventSend, ?eventRetry, ?cacheExpiry, ?sessionIdle,
    ?transportReverted⟩
  case uartMessage =>
    intro t s p raw m hserved hsome hmsg
    refine congrArg Host.Outcome.next ?_
    unfold uartFrameEffect
    dsimp only
    rw [if_neg (by simp [hserved, hsome]), hmsg]
  case uartBadFrame =>
    refine fun p raw hsome hmsg => takes_of_effect (fun _ _ => rfl) fun t s hserved => ?_
    unfold uartFrameEffect
    dsimp only
    rw [if_neg (by simp [hserved, hsome]), hmsg]
  case rxGap => exact fun p gap => takes_of_effect (fun _ _ => rfl) fun t s h => if_pos h
  case m0Frame =>
    intro t s raw u n hruns hserved hrate
    have hup : ¬ ((!m0Runs u) = true ∨ (!transportServed .m0 u) = true) := by simp [hruns, hserved]
    refine congrArg Host.Outcome.next ?_
    unfold m0FrameEffect
    dsimp only
    rw [if_neg hup, if_neg (Nat.not_le.mpr hrate)]
  case m0OverRate =>
    intro t s raw u hruns hserved hsecond hrate
    have hup : ¬ ((!m0Runs u) = true ∨ (!transportServed .m0 u) = true) := by simp [hruns, hserved]
    refine congrArg Host.Outcome.next ?_
    unfold m0FrameEffect
    dsimp only
    rw [if_neg hup, if_pos hsecond.symm, if_pos hrate, ← hsecond]
  case eventSend =>
    refine fun n x => takes_of_effect (fun _ _ => rfl) fun t s ⟨hses, hserved, hfree⟩ => ?_
    simp only [eventSendEffect, hses]
    exact if_pos ⟨hserved, congrArg not hfree⟩
  case eventRetry =>
    refine fun n x seq a l => takes_of_effect (fun _ _ => rfl) fun t s ⟨hses, hsent, hdue, hserved, hfree⟩ => ?_
    simp only [eventRetryEffect, hses, hsent]
    exact if_pos ⟨hdue, hserved, congrArg not hfree⟩
  case cacheExpiry => exact takes_of_effect (fun _ _ => rfl) fun _ _ _ => rfl
  case sessionIdle =>
    refine fun n x => takes_of_effect (fun _ _ => rfl) fun t s ⟨hses, hreader, hidle⟩ => ?_
    simp only [sessionIdleEffect, hses]
    rw [if_pos ⟨congrArg not hreader, hidle⟩, number_of_findSession hses]
  case transportReverted =>
    refine fun tr r => takes_of_effect (fun _ _ => rfl) fun t s ⟨hrevert, hdue, hunconfirmed⟩ => ?_
    simp only [transportRevertedEffect, hrevert]
    exact (if_neg (Nat.not_lt.mpr hdue)).trans (if_neg (ne_true_of_eq_false hunconfirmed))

/-! ### A commit -/

/-- Settles O24. -/
theorem commitsTakeEffect : Obligations.CommitsTakeEffect := by
  refine ⟨?buildDone, ?buildFails, ?switches, ?tagsBad⟩
  case buildDone =>
    refine fun c => takes_of_effect (fun _ _ => rfl) fun t s ⟨hbuilding, hfree⟩ => ?_
    simp only [commitArmedEffect, hbuilding]
    exact (if_neg (ne_true_of_eq_false hfree)).trans (if_pos trivial)
  case buildFails =>
    refine fun c => takes_of_effect (fun _ _ => rfl) fun t s ⟨hbuilding, hfree, halone⟩ => ?_
    simp only [commitArmedEffect, hbuilding, commitFailed]
    exact (if_neg (ne_true_of_eq_false hfree)).trans ((if_neg Bool.false_ne_true).trans (if_neg (ne_true_of_eq_false halone)))
  case switches =>
    refine fun c => takes_of_effect (fun _ _ => rfl) fun t s ⟨hcommitted, hdue, hloaded, hfree, hkept⟩ => ?_
    simp only [epochReachedEffect, trySwitch, hcommitted]
    refine (if_pos trivial).trans ?_
    exact if_pos ⟨hdue, hloaded, by simp [hfree, hkept]⟩
  case tagsBad =>
    refine fun c => takes_of_effect (fun _ _ => rfl) fun t s ⟨hcommitted, hdue⟩ => ?_
    simp only [epochReachedEffect, hcommitted]
    exact (if_neg Bool.false_ne_true).trans (if_pos hdue)

end Sys2Proof.Proofs.MailboxEvents
end

section
/-! SUPPORT. Proofs, SupplyEvents: what happens at the Abutment, in the modes, in a strike, in a start and to the time (chapters 2 to 4
and 21). -/

namespace Sys2Proof.Proofs.SupplyEvents
open Sys2Proof Sys2Proof.Machine Sys2Proof.Safety Sys2Proof.Laws Sys2Proof.Proofs.MailboxEvents

/-! ### The Abutment and the wake sources -/

theorem abutmentOn_of_shelf {s : State} (h : s.sup.mode = .shelf) : abutmentOn s = true := by simp [abutmentOn, h]

theorem abutmentOn_of_off {s : State} (h : s.sup.mode = .off) : abutmentOn s = false := by simp [abutmentOn, h]

/-- Settles O25. -/
theorem wakesTakeEffect : Obligations.WakesTakeEffect := by
  refine ⟨?abutmentStart, ?abutmentReset, ?retentionLost, ?vinReachesWatchOn, ?wakePin, ?fieldInputEdge, ?vinRestore, ?alarmOn,
    ?alarmInShelf, ?wettingSample⟩
  case abutmentStart =>
    exact fun mv bankA33 bankB33 prtad hmv => takes_of_effect (fun _ _ => rfl) fun t s hoff =>
      if_pos ⟨congrArg not (abutmentOn_of_off hoff), hmv⟩
  case abutmentReset => exact fun mv hmv => takes_of_effect (fun _ _ => rfl) fun t s hshelf => if_pos ⟨hshelf, hmv⟩
  case retentionLost =>
    exact fun mv hmv => takes_of_effect (fun _ _ => rfl) fun t s hoff => if_pos ⟨congrArg not (abutmentOn_of_off hoff), hmv⟩
  case vinReachesWatchOn =>
    refine fun vin => takes_of_effect (fun _ _ => rfl) fun t s ⟨hon, hrest, hasleep, hvin, hnever⟩ => ?_
    exact (if_pos hon).trans ((if_pos ⟨hrest, congrArg not hasleep, hvin⟩).trans (if_pos hnever))
  case wakePin =>
    exact fun level mv => takes_of_effect (fun _ _ => rfl) fun t s ⟨hon, henabled, hlevel⟩ =>
      (if_pos hon).trans (if_pos ⟨henabled, hlevel⟩)
  case fieldInputEdge =>
    exact fun pin rising mv => takes_of_effect (fun _ _ => rfl) fun t s ⟨hon, henabled, hedge, hmode⟩ =>
      (if_pos hon).trans (if_pos ⟨henabled, hedge, hmode⟩)
  case vinRestore =>
    exact fun vin => takes_of_effect (fun _ _ => rfl) fun t s ⟨hon, henabled, hran⟩ => (if_pos hon).trans (if_pos ⟨henabled, hran⟩)
  case alarmOn =>
    exact takes_of_effect (fun _ _ => rfl) fun t s ⟨hon, hmode, hset, hdue⟩ => (if_pos ⟨hon, hset, hdue⟩).trans (if_neg hmode)
  case alarmInShelf =>
    exact takes_of_effect (fun _ _ => rfl) fun t s ⟨hmode, hset, hdue, henabled⟩ =>
      (if_pos ⟨abutmentOn_of_shelf hmode, hset, hdue⟩).trans ((if_pos hmode).trans (if_pos henabled))
  case wettingSample =>
    refine fun pin mv => takes_of_effect (fun _ _ => rfl) fun t s ⟨hrest, hmode, hlevel⟩ => (if_pos ⟨hrest, hmode⟩).trans ?_
    simp only [hlevel]
    exact if_neg fun h => h.1 rfl

@[simp] theorem setCause_sup (b : BitVec 10) (s : State) : (setCause b s).sup = s.sup := by rw [setCause_only]

@[simp] theorem setCause_clk (b : BitVec 10) (s : State) : (setCause b s).clk = s.clk := by rw [setCause_only]

section
variable (c : Cause) (src : Option Nat) (s : State)

@[simp] theorem startWake_mode : (startWake c src s).sup.mode = s.sup.mode := by
  simp [startWake, startTransition, setTransition]

@[simp] theorem startWake_transition :
    (startWake c src s).sup.transition = some ⟨s.sup.mode, .watch, c, s.elapsed, 0, 0, src⟩ := by
  simp [startWake, startTransition, setTransition]

@[simp] theorem startWake_clk : (startWake c src s).clk = { s.clk with refRetries := 0, refFailedAt := none } := by
  simp [startWake, startTransition, setTransition]

theorem waking_startWake (h : atRest s = true) : waking (startWake c src s) = true := by
  simpa [waking, atRest] using h

end

/-- Settles O26. -/
theorem wakeSourceStartsRun : Obligations.WakeSourceStartsRun := by
  intro src s hrest hasleep
  constructor
  · intro hon
    refine ⟨?_, ?_⟩
    · rw [wakeBy, if_pos hrest, if_neg (ne_true_of_eq_false hasleep), if_pos hon]
    · exact waking_startWake _ _ _ hrest
  · intro hlow
    rw [wakeBy, if_pos hrest, if_neg (ne_true_of_eq_false hasleep), if_neg (Nat.not_le.mpr hlow)]

/-! ### The modes -/

/-- Settles O27. -/
theorem supplyEventsRun : Obligations.SupplyEventsRun := by
  refine ⟨?vinBelowOff, ?rideThrough, ?sheddingStep, ?holdFloorCrossing, ?climb, ?climbAbandoned, ?freezeComplete, ?climbComplete,
    ?watchComplete, ?downComplete⟩
  case vinBelowOff => exact fun vin => takes_of_effect (fun _ _ => rfl) fun t s hon => if_pos hon
  case rideThrough =>
    refine fun vin low a b => takes_of_effect (fun _ _ => rfl) fun t s ⟨hon, hdip, hkept⟩ => (if_pos hon).trans ?_
    simp only [hdip]
    exact if_neg (ne_true_of_eq_false hkept)
  case sheddingStep =>
    refine fun vin vhold => takes_of_effect (fun _ _ => rfl) fun t s ⟨hon, hrun, hboot, hdue, hnone⟩ => (if_pos hon).trans ?_
    simp only [hrun, hboot, hdue, hnone]
    rfl
  case holdFloorCrossing =>
    refine fun vhold => takes_of_effect (fun _ _ => rfl) fun t s ⟨hrun, hboot, hlow, hnone⟩ => ?_
    have hbelow : belowFloor (setVhold vhold (advance t s)) = true := decide_eq_true hlow
    have hrun' : ¬ runInProgress (setVhold vhold (advance t s)) = true := ne_true_of_eq_false hrun
    have hbusy : ¬ (bootRuns (setVhold vhold (advance t s)) = true ∨ (!belowFloor (setVhold vhold (advance t s))) = true) :=
      fun h => h.elim (ne_true_of_eq_false hboot) (fun h' => by simp [hbelow] at h')
    refine (if_neg hrun').trans ((if_neg hbusy).trans ?_)
    have hnone' : (setVhold vhold (advance t s)).sup.transition = none := hnone
    simp only [hnone']
    rfl
  case climb =>
    refine fun vin vhold n => takes_of_effect (fun _ _ => rfl) fun t s ⟨hon, hmay, hdeferred, htarget⟩ =>
      (if_pos hon).trans ((if_pos hmay).trans ?_)
    simp only [hdeferred, htarget]
  case climbAbandoned =>
    refine fun vin x => takes_of_effect (fun _ _ => rfl) fun t s ⟨hon, hclimb, hdue⟩ => (if_pos hon).trans ?_
    simp only [hclimb]
    exact if_pos hdue
  case freezeComplete =>
    refine fun x => takes_of_effect (fun _ _ => rfl) fun t s ⟨hmoving, hdown, hfreeze⟩ => ?_
    simp only [transitionCompleteEffect, hmoving]
    exact (if_neg (ne_true_of_eq_false hdown)).trans (if_pos hfreeze)
  case climbComplete =>
    refine fun x => takes_of_effect (fun _ _ => rfl) fun t s ⟨hmoving, hup, hstep⟩ => ?_
    simp only [transitionCompleteEffect, hmoving]
    exact (if_pos hup).trans (if_pos hstep)
  case watchComplete =>
    refine fun x => takes_of_effect (fun _ _ => rfl) fun t s ⟨hmoving, hwatch, hfrom, hready⟩ => ?_
    have hdown : ¬ isClimb x = true := by simp [isClimb, hwatch]
    have hfreeze : ¬ x.dst = .freeze := by simp [hwatch]
    simp only [transitionCompleteEffect, hmoving]
    exact (if_neg hdown).trans ((if_neg hfreeze).trans ((if_pos ⟨hwatch, hfrom⟩).trans (if_pos hready)))
  case downComplete =>
    refine fun x => takes_of_effect (fun _ _ => rfl) fun t s ⟨hmoving, hpair⟩ => ?_
    have hdown : ¬ isClimb x = true := by
      obtain ⟨hsrc, hdst⟩ | ⟨hsrc, hdst⟩ | ⟨hsrc, hdst⟩ | ⟨hsrc, hdst⟩ := hpair <;> simp [isClimb, hsrc, hdst]
    have hfreeze : ¬ x.dst = .freeze := by
      obtain ⟨_, hdst⟩ | ⟨_, hdst⟩ | ⟨_, hdst⟩ | ⟨_, hdst⟩ := hpair <;> simp [hdst]
    have hwake : ¬ (x.dst = .watch ∧ (x.src = .shelf ∨ x.src = .watch)) := by
      obtain ⟨hsrc, hdst⟩ | ⟨hsrc, hdst⟩ | ⟨hsrc, hdst⟩ | ⟨hsrc, hdst⟩ := hpair <;> simp [hsrc, hdst]
    simp only [transitionCompleteEffect, hmoving]
    exact (if_neg hdown).trans ((if_neg hfreeze).trans (if_neg hwake))

/-! ### Strikes, the input switch and the outputs -/

/-- Settles O28. -/
theorem strikesAndSwitchesRun : Obligations.StrikesAndSwitchesRun := by
  refine ⟨?surgeTrigger, ?slewTrigger, ?strikeClose, ?switchOpen, ?overvoltageTimeout, ?switchClose, ?thermalCut, ?thermalRelease,
    ?vioFault, ?vioRetry⟩
  case surgeTrigger => 
    exact fun mv => takes_of_effect (fun _ _ => rfl) fun t s ⟨hon, hhigh⟩ => (if_pos hon).trans (if_pos hhigh)
  case slewTrigger => exact fun mv => takes_of_effect (fun _ _ => rfl) fun t s hon => if_pos hon
  case strikeClose =>
    refine takes_of_effect (fun _ _ => rfl) fun t s ⟨hopen, hends, hdeferred⟩ => ?_
    have hover : strikeOverdue (advance t s) = true := (Bool.and_eq_true _ _).mpr ⟨hopen, decide_eq_true hends⟩
    refine (if_pos hover).trans ?_
    simp only [hdeferred]
  case switchOpen | overvoltageTimeout =>
    exact fun vin hvin => takes_of_effect (fun _ _ => rfl) fun t s ⟨hon, hclosed⟩ =>
      (if_pos hon).trans ((if_pos hvin).trans (if_neg (ne_true_of_eq_false hclosed)))
  case switchClose =>
    exact fun vin hvin => takes_of_effect (fun _ _ => rfl) fun t s ⟨hon, hcut⟩ =>
      (if_pos hon).trans ((if_pos hvin).trans (if_neg (ne_false_of_eq_true hcut)))
  case thermalCut =>
    exact fun die hdie => takes_of_effect (fun _ _ => rfl) fun t s ⟨hon, hcool⟩ =>
      (if_pos ⟨hon, hdie⟩).trans (if_neg (ne_true_of_eq_false hcool))
  case thermalRelease =>
    exact fun die hdie => takes_of_effect (fun _ _ => rfl) fun t s ⟨hon, hcut⟩ =>
      (if_pos ⟨hon, hdie⟩).trans (if_neg (ne_false_of_eq_true hcut))
  case vioFault => exact fun n => takes_of_effect (fun _ _ => rfl) fun t s h => if_pos h
  case vioRetry => exact fun n holds => takes_of_effect (fun _ _ => rfl) fun t s h => if_pos h

/-! ### A start -/

/-- A configuration load that nothing stops judges the first candidate. -/
theorem configLoad_due {u : State} (href : u.clk.reference = true) (hawait : u.boot.awaitConfig = true) (hread : u.boot.loading = none)
    (hopen : u.boot.chosen = false) (hnormal : u.boot.recovery = false) (hruns : u.dbg.watch.halted = false) :
    u.clk.reference = true ∧ u.boot.awaitConfig = true ∧ u.boot.loading.isNone = true ∧ (!u.boot.chosen) = true ∧
      (!u.boot.recovery) = true ∧ (!u.dbg.watch.halted) = true := by
  simp [href, hawait, hread, hopen, hnormal, hruns]

/-- Settles O29. -/
theorem startEventsRun : Obligations.StartEventsRun := by
  refine ⟨?referenceStartFail, ?referenceRetry, ?clockFail, ?laneClockFail, ?bankVerdict, ?flashNotAnswering, ?configLoad,
    ?controlPreload, ?autoConfirm, ?watchdog⟩
  case referenceStartFail =>
    exact takes_of_effect (fun _ _ => rfl) fun t s ⟨hwaking, hretries⟩ => (if_pos hwaking).trans (if_pos hretries)
  case referenceRetry => exact takes_of_effect (fun _ _ => rfl) fun t s h => if_pos h
  case clockFail =>
    refine fun n => takes_of_effect (fun _ _ => rfl) fun t s ⟨hruns, hspare, hother⟩ => ?_
    have hlane : ¬ (clkLaneRef ≤ n.val ∧ n.val < clkDram) := fun ⟨hmin, hmax⟩ =>
      hother.elim (Nat.not_lt.mpr hmin) (Nat.not_le.mpr hmax)
    exact (if_pos hruns).trans ((if_neg (ne_true_of_eq_false hspare)).trans (if_neg hlane))
  case laneClockFail =>
    exact fun n => takes_of_effect (fun _ _ => rfl) fun t s ⟨hruns, hspare, hmin, hmax⟩ =>
      (if_pos hruns).trans ((if_neg (ne_true_of_eq_false hspare)).trans (if_pos ⟨hmin, hmax⟩))
  case bankVerdict => exact fun ago kat => takes_of_effect (fun _ _ => rfl) fun t s h => if_pos h
  case flashNotAnswering =>
    exact fun ago => takes_of_effect (fun _ _ => rfl) fun t s ⟨href, hloading, hunread⟩ => if_pos ⟨href, hloading, congrArg not hunread⟩
  case configLoad =>
    refine fun good items n l => takes_of_effect (fun _ _ => rfl)
      fun t s ⟨href, hawait, hread, hopen, hnormal, hruns, horder⟩ => (if_pos (configLoad_due href hawait hread hopen hnormal hruns)).trans ?_
    simp only [horder]
  case controlPreload =>
    exact takes_of_effect (fun _ _ => rfl) fun t s ⟨hwatch, hconfig, hnormal, hfirst, hruns, htag⟩ =>
      (if_pos ⟨hwatch, congrArg not hconfig, congrArg not hnormal, congrArg not hfirst, congrArg not hruns⟩).trans (if_pos htag)
  case autoConfirm =>
    exact takes_of_effect (fun _ _ => rfl) fun t s ⟨hruns, hboot, htrial, hauto, hdue⟩ =>
      if_pos ⟨hruns, congrArg not hboot, htrial, hauto, hdue⟩
  case watchdog =>
    exact fun control => takes_of_effect (fun _ _ => rfl) fun t s ⟨hup, hfree, hruns⟩ => if_pos ⟨hup, congrArg not hfree, hruns⟩

/-! ### Time -/

theorem timerDue_iff {o : TimerOwner} {n : Nat} {u : State} :
    timerDue o n u = true ↔
      (timerOf n u).owner = o ∧ (timerOf n u).armed = true ∧ (timerOf n u).next ≤ u.tb.now ∧ tickNs u.sup.mode ≠ 0 := by
  simp [timerDue, and_assoc]

/-- Settles O30. -/
theorem timeEventsRun : Obligations.TimeEventsRun := by
  refine ⟨?rtcFail, ?ppsEdge, ?ppsSnapshot, ?ppsLoss, ?syncMessage, ?ptpLoss, ?holdoverExpiry, ?rtcAlign, ?timerFire, ?tenMhzPresent,
    ?ppsOut⟩
  case rtcFail =>
    exact takes_of_effect (fun _ _ => rfl) fun t s ⟨hon, hruns⟩ => if_neg fun h => h.elim hon (ne_true_of_eq_false (congrArg not hruns))
  case ppsEdge =>
    refine takes_of_effect (fun _ _ => rfl) fun t s ⟨hruns, hpresent, hdisarmed⟩ => ?_
    unfold ppsEdgeEffect
    dsimp only
    rw [if_neg (ne_true_of_eq_false (congrArg not hruns)), if_neg (ne_true_of_eq_false hpresent)]
    exact if_neg (ne_true_of_eq_false hdisarmed)
  case ppsSnapshot =>
    refine takes_of_effect (fun _ _ => rfl) fun t s ⟨hruns, hpresent, harmed⟩ => ?_
    unfold ppsEdgeEffect
    dsimp only
    rw [if_neg (ne_true_of_eq_false (congrArg not hruns)), if_neg (ne_true_of_eq_false hpresent)]
    exact if_pos harmed
  case ppsLoss | ptpLoss => exact takes_of_effect (fun _ _ => rfl) fun t s hover => if_pos hover
  case syncMessage =>
    refine fun port domain interval off => takes_of_effect (fun _ _ => rfl)
      fun t s ⟨hruns, hsource, hport, hdomain, hup, halone, hpresent⟩ =>
        (if_pos ⟨hruns, hsource, hport, hdomain, hup, congrArg not halone⟩).trans ?_
    simp only [hpresent]
    rfl
  case holdoverExpiry =>
    exact takes_of_effect (fun _ _ => rfl) fun t s ⟨hquality, hheld, halone⟩ => if_pos ⟨hquality, hheld, congrArg not halone⟩
  case rtcAlign => exact takes_of_effect (fun _ _ => rfl) fun t s h => if_pos h
  case timerFire =>
    refine fun g => takes_of_effect (fun _ _ => rfl) fun t s ⟨howner, harmed, hdue, hruns⟩ => ?_
    exact if_pos (timerDue_iff.mpr ⟨howner, harmed, hdue, hruns⟩)
  case tenMhzPresent => exact fun present => takes_of_effect (fun _ _ => rfl) fun _ _ _ => rfl
  case ppsOut => exact takes_of_effect (fun _ _ => rfl) fun t s h => if_pos h

/-! ### A climb -/

/-- Settles O31. -/
theorem climbStepsRun : Obligations.ClimbStepsRun := by
  refine ⟨?clocksLocked, ?dramTraining, ?sectionStreamed, ?tablesInstalled, ?searchLoaded, ?tableLoaded⟩
  case clocksLocked =>
    refine fun x => takes_of_effect (fun _ _ => rfl) fun t s ⟨hclimb, hstep, hsrc, hruns, hpreloaded⟩ => ?_
    have hready : ¬ (x.climbStep ≠ 0 ∨ x.src = .watch ∧ (advance t s).dbg.watch.halted = true) := fun h =>
      h.elim (absurd hstep) fun h' => ne_true_of_eq_false hruns h'.2
    have hlow : ¬ x.src = .keep := by simp [hsrc]
    simp only [clocksLockedEffect, hclimb]
    refine (if_neg hready).trans ((if_neg hlow).trans ((if_pos ⟨hpreloaded, trivial⟩).trans ?_))
    rw [if_pos hpreloaded]
  case dramTraining =>
    refine fun x c sweep => takes_of_effect (fun _ _ => rfl) fun t s ⟨hclimb, hstep, hchannel, hoff, htrained⟩ => ?_
    simp only [dramTrainingEffect, hclimb]
    exact (if_pos ⟨hstep, hchannel, congrArg not hoff⟩).trans (if_pos htrained)
  case sectionStreamed =>
    refine fun x items => takes_of_effect (fun _ _ => rfl) fun t s ⟨hclimb, hstep, hsrc, hfirst, hslot, hruns⟩ => ?_
    simp only [sectionStreamedEffect, hclimb]
    refine (if_pos ⟨hstep, by rw [if_neg Bool.false_ne_true, hfirst, hsrc]; rfl, hslot, congrArg not hruns⟩).trans ((if_pos trivial).trans ?_)
    simp only [if_neg Bool.false_ne_true, Bool.not_false, Bool.or_true, Bool.or_false]
  case tablesInstalled =>
    refine fun x => takes_of_effect (fun _ _ => rfl) fun t s ⟨hclimb, hstep, hruns⟩ => ?_
    simp only [tablesInstalledEffect, hclimb]
    exact if_pos ⟨hstep, congrArg not hruns⟩
  case searchLoaded =>
    refine fun c => takes_of_effect (fun _ _ => rfl) fun t s ⟨hcommitted, hloading⟩ => ?_
    simp only [searchLoadedEffect, hcommitted]
    exact if_pos hloading
  case tableLoaded =>
    refine fun c => takes_of_effect (fun _ _ => rfl) fun t s ⟨hcommitted, hloading⟩ => ?_
    simp only [tableLoadedEffect, hcommitted]
    exact if_pos hloading

end Sys2Proof.Proofs.SupplyEvents
end

section
/-! SUPPORT. Proofs, LineEvents: what happens on the lanes, the ports, the optics and the Causeway links (chapters 7 to 9). -/

namespace Sys2Proof.Proofs.LineEvents
open Sys2Proof Sys2Proof.Machine Sys2Proof.Safety Sys2Proof.Laws Sys2Proof.Proofs.MailboxEvents

/-! ### The lanes -/

/-- Settles O32. -/
theorem laneEventsRun : Obligations.LaneEventsRun := by
  refine ⟨?cdrLock, ?cdrLoss, ?acquisitionRetry, ?warmWakeTimeout, ?dfeAdapt, ?dfeRail, ?prbsLock, ?prbsLockLoss, ?eyeDone, ?cwComma,
    ?commonMode, ?burst, ?quarantineExit, ?txFault, ?rxFault, ?txPllLock, ?rxPllLock⟩
  case cdrLock =>
    refine fun l peak => takes_of_effect (fun _ _ => rfl) fun t s ⟨hactive, hunlocked, hcold⟩ =>
      (if_pos ⟨hactive, congrArg not hunlocked⟩).trans ?_
    simp only [hcold]
  case cdrLoss => exact fun l signal => takes_of_effect (fun _ _ => rfl) fun t s h => if_pos h
  case acquisitionRetry =>
    exact fun l => takes_of_effect (fun _ _ => rfl) fun t s ⟨hactive, hunlocked, hdue⟩ => if_pos ⟨hactive, congrArg not hunlocked, hdue⟩
  case warmWakeTimeout =>
    exact fun l => takes_of_effect (fun _ _ => rfl) fun t s ⟨hactive, hunlocked, hwarm, hdue⟩ =>
      if_pos ⟨hactive, congrArg not hunlocked, hwarm, hdue⟩
  case dfeAdapt =>
    exact fun l up => takes_of_effect (fun _ _ => rfl) fun t s ⟨hlocked, hruns⟩ => if_pos ⟨hlocked, congrArg not hruns⟩
  case dfeRail =>
    exact fun l tap => takes_of_effect (fun _ _ => rfl) fun t s ⟨hheld, hfirst⟩ => if_pos ⟨hheld, congrArg not hfirst⟩
  case prbsLock =>
    exact fun l inverted => takes_of_effect (fun _ _ => rfl) fun t s ⟨hruns, hunlocked⟩ => if_pos ⟨hruns, congrArg not hunlocked⟩
  case prbsLockLoss => exact fun l errs herrs => takes_of_effect (fun _ _ => rfl) fun t s hlocked => if_pos ⟨hlocked, herrs⟩
  case eyeDone => exact fun eyes => takes_of_effect (fun _ _ => rfl) fun _ _ _ => rfl
  case cwComma => exact fun l expected wrong stuff => takes_of_effect (fun _ _ => rfl) fun _ _ _ => rfl
  case commonMode => exact fun l => takes_of_effect (fun _ _ => rfl) fun t s h => if_pos h
  case burst =>
    exact fun l loss hmin => takes_of_effect (fun _ _ => rfl) fun t s ⟨hact, henabled, hmax⟩ => if_pos ⟨hact, henabled, hmin, hmax⟩
  case quarantineExit => exact fun l => takes_of_effect (fun _ _ => rfl) fun t s h => if_pos h
  case txFault => exact fun l => takes_of_effect (fun _ _ => rfl) fun t s ⟨hoff, hgoal⟩ => if_pos ⟨rfl, hoff, hgoal⟩
  case rxFault => exact fun l => takes_of_effect (fun _ _ => rfl) fun t s ⟨hoff, hgoal⟩ => if_pos ⟨rfl, hoff, hgoal⟩
  case txPllLock => exact fun l => takes_of_effect (fun _ _ => rfl) fun t s ⟨hoff, hgoal⟩ => if_pos ⟨rfl, hoff, hgoal⟩
  case rxPllLock => exact fun l => takes_of_effect (fun _ _ => rfl) fun t s ⟨hoff, hgoal⟩ => if_pos ⟨rfl, hoff, hgoal⟩

/-! ### The ports and the optics -/

/-- Settles O33. -/
theorem portEventsRun : Obligations.PortEventsRun := by
  refine ⟨?linkUp, ?linkDown, ?rxGood, ?rxRunt, ?opticsPoll, ?opticsStepFails, ?opticsStepDone, ?pollTimeout, ?commandTimeout⟩
  case linkUp =>
    refine fun p anDone fd => takes_of_effect (fun _ _ => rfl) fun t s ⟨hrise, hdown, hduplex⟩ => if_pos ⟨hrise, congrArg not hdown, ?_⟩
    simpa using hduplex
  case linkDown => exact fun p cause => takes_of_effect (fun _ _ => rfl) fun t s h => if_pos h
  case rxGood =>
    refine fun p raw fec age trie => takes_of_effect (fun _ _ => rfl) fun t s ⟨hup, hmin, hmax, hfcs, htype⟩ => ?_
    have hgood : ¬ (false || !fcsGood raw) = true := by simp [hfcs]
    refine (if_neg (ne_true_of_eq_false (congrArg not hup))).trans ((if_neg (Nat.not_lt.mpr hmin)).trans ?_)
    exact (if_neg (Nat.not_lt.mpr hmax)).trans ((if_neg hgood).trans (if_neg htype))
  case rxRunt =>
    exact fun p raw damaged fec age trie => takes_of_effect (fun _ _ => rfl) fun t s ⟨hup, hshort⟩ =>
      (if_neg (ne_true_of_eq_false (congrArg not hup))).trans (if_pos hshort)
  case opticsPoll =>
    refine fun p d => takes_of_effect (fun _ _ => rfl) fun t s ⟨hruns, hmapped, hfree⟩ => if_neg ?_
    exact not_or.mpr ⟨ne_true_of_eq_false (congrArg not hruns),
      not_or.mpr ⟨ne_true_of_eq_false (congrArg not hmapped), ne_true_of_eq_false hfree⟩⟩
  case opticsStepFails | opticsStepDone =>
    refine fun p => takes_of_effect (fun _ _ => rfl) fun t s ⟨hruns, hstep, hfree⟩ => if_neg ?_
    exact not_or.mpr ⟨ne_true_of_eq_false (congrArg not hruns), not_or.mpr ⟨hstep, ne_true_of_eq_false hfree⟩⟩
  case pollTimeout =>
    refine fun m p => takes_of_effect (fun _ _ => rfl) fun t s hheld => ?_
    simp only [i2cTimeoutEffect, hheld]
  case commandTimeout =>
    refine fun m w q => takes_of_effect (fun _ _ => rfl) fun t s hheld => ?_
    simp only [i2cTimeoutEffect, hheld]

/-! ### The Causeway links -/

/-- Settles O34. -/
theorem causewayEventsRun : Obligations.CausewayEventsRun := by
  refine ⟨?init, ?initSend, ?jointFrame, ?trunkFrame, ?ack, ?nak, ?replayMark, ?credit, ?ackTimer, ?nakRepeat, ?creditTimer,
    ?replayTimer, ?peerStrikeTimeout, ?fecLock, ?lineLoss, ?graceEnd, ?slotReplays, ?slotSends⟩
  case init | credit => exact fun l data => takes_of_effect (fun _ _ => rfl) fun t s h => if_pos h
  case ack => exact fun l seq strike => takes_of_effect (fun _ _ => rfl) fun t s h => if_pos h
  case nak | replayMark => exact fun l seq => takes_of_effect (fun _ _ => rfl) fun t s h => if_pos h
  case ackTimer | nakRepeat | creditTimer | peerStrikeTimeout => exact fun l => takes_of_effect (fun _ _ => rfl) fun t s h => if_pos h
  case initSend =>
    refine fun l => takes_of_effect (fun _ _ => rfl) fun t s hstate => ?_
    obtain hinit | ⟨hhold, hgood⟩ := hstate
    · simp only [cwInitSendEffect, hinit]
    · simp only [cwInitSendEffect, hhold]
      exact if_pos hgood
  case jointFrame =>
    exact fun l raw cws hit trie => takes_of_effect (fun _ _ => rfl) fun t s ⟨hjoint, hhears⟩ => (if_pos hjoint).trans (if_pos hhears)
  case trunkFrame =>
    refine fun l raw hit trie => takes_of_effect (fun _ _ => rfl) fun t s ⟨htrunk, hhears⟩ => ?_
    refine (if_neg (ne_true_of_eq_false htrunk)).trans ?_
    rw [show forEach [] (fun n s => fecStep l n s) (advance t s) = advance t s from rfl, ite_self]
    exact if_pos hhears
  case replayTimer =>
    refine fun l k rest => takes_of_effect (fun _ _ => rfl) fun t s ⟨hkept, hup, hdue, hidle⟩ => ?_
    simp only [replayTimerEffect, hkept]
    exact if_pos ⟨hup, hdue, hidle⟩
  case fecLock =>
    exact fun l => takes_of_effect (fun _ _ => rfl) fun t s ⟨hactive, htrunk, halign, hfirst⟩ =>
      if_pos ⟨hactive, congrArg not htrunk, halign, congrArg not hfirst⟩
  case lineLoss =>
    refine fun l => takes_of_effect (fun _ _ => rfl) fun t s ⟨hactive, hup, hheld⟩ => (if_pos ⟨hheld, hactive⟩).trans ?_
    simp only [hup]
  case graceEnd =>
    exact fun l => takes_of_effect (fun _ _ => rfl) fun t s ⟨hhold, hgrace, hover⟩ => if_pos ⟨hhold, hgrace, congrArg not hover⟩
  case slotReplays =>
    refine fun l v => takes_of_effect (fun _ _ => rfl) fun t s ⟨hactive, htx, hreplay⟩ => (if_pos ⟨hactive, htx⟩).trans ?_
    simp only [hreplay]
  case slotSends =>
    refine fun l => takes_of_effect (fun _ _ => rfl) fun t s ⟨hactive, htx, hidle⟩ => (if_pos ⟨hactive, htx⟩).trans ?_
    simp only [hidle]

end Sys2Proof.Proofs.LineEvents
end

section
/-! SUPPORT. Proofs, PacketEvents: what happens in the tables, the Truss, the transmitters and the Span (chapters 10 to 14). -/

namespace Sys2Proof.Proofs.PacketEvents
open Sys2Proof Sys2Proof.Machine Sys2Proof.Safety Sys2Proof.Laws Sys2Proof.Proofs.MailboxEvents

/-! ### The pipelines and the tables -/

/-- Settles O35. -/
theorem tableEventsRun : Obligations.TableEventsRun := by
  refine ⟨?meterRefill, ?puntRefill, ?followExpiry, ?missReinjected, ?datagramReinjected, ?holdExpired, ?searchScrub, ?searchError,
    ?learnWindowEnd, ?learnResult, ?agingSweep, ?tableScrub, ?tableRepair⟩
  case meterRefill | puntRefill => exact takes_of_effect (fun _ _ => rfl) fun t s h => if_pos h
  case followExpiry | holdExpired => exact takes_of_effect (fun _ _ => rfl) fun _ _ _ => rfl
  case missReinjected =>
    refine fun trie h => takes_of_effect (fun _ _ => rfl) fun t s ⟨hplane, hruns, hready⟩ =>
      (if_pos ⟨hplane, congrArg not hruns⟩).trans ?_
    simp only [hready]
  case datagramReinjected =>
    refine fun trie l => takes_of_effect (fun _ _ => rfl) fun t s ⟨hplane, hruns, hnone, hready⟩ =>
      (if_pos ⟨hplane, congrArg not hruns⟩).trans ?_
    simp only [hnone, hready]
  case searchScrub =>
    exact fun b e => takes_of_effect (fun _ _ => rfl) fun t s ⟨hplane, hlist, hentry, hgood⟩ =>
      if_pos ⟨hplane, hlist, hentry, congrArg not hgood⟩
  case searchError =>
    exact fun b e repaired => takes_of_effect (fun _ _ => rfl) fun t s ⟨hbad, hplane, hruns⟩ => if_pos ⟨hbad, hplane, congrArg not hruns⟩
  case learnWindowEnd =>
    refine fun w => takes_of_effect (fun _ _ => rfl) fun t s hwindow => ?_
    simp only [learnWindowEndEffect, hwindow]
  case learnResult =>
    refine fun r rest => takes_of_effect (fun _ _ => rfl) fun t s ⟨hresults, hplane, hruns⟩ => ?_
    simp only [learnResultEffect, hresults]
    exact if_pos ⟨hplane, congrArg not hruns⟩
  case agingSweep =>
    exact takes_of_effect (fun _ _ => rfl) fun t s ⟨halone, hplane, hage⟩ =>
      (if_neg (ne_true_of_eq_false halone)).trans (if_pos ⟨hplane, hage⟩)
  case tableScrub => exact fun g i double => takes_of_effect (fun _ _ => rfl) fun t s h => if_pos h
  case tableRepair =>
    refine fun g i ok => takes_of_effect (fun _ _ => rfl) fun t s ⟨hbad, hplane, hruns⟩ => ?_
    simp only [tableRepairEffect, hbad]
    exact if_pos ⟨hplane, congrArg not hruns⟩

/-! ### The Truss and the transmitters -/

/-- Settles O36. -/
theorem trussAndEgressRun : Obligations.TrussAndEgressRun := by
  refine ⟨?cellLaunch, ?planeTransfer, ?cellArrival, ?reseqTimeout, ?transmissionStart, ?transmissionEnd, ?shaperRefill, ?gateTakeover,
    ?samplePeriodEnd⟩
  case cellLaunch =>
    refine fun k slot d => takes_of_effect (fun _ _ => rfl) fun t s ⟨hruns, hslot, hfirst, hchoice⟩ => (if_pos ⟨hruns, hslot⟩).trans ?_
    refine (if_neg (ne_true_of_eq_false hfirst)).trans ?_
    simp only [hchoice]
  case planeTransfer =>
    refine fun m slot c => takes_of_effect (fun _ _ => rfl) fun t s ⟨hruns, hslot, hfirst, hchoice⟩ => (if_pos ⟨hruns, hslot⟩).trans ?_
    refine (if_neg (ne_true_of_eq_false hfirst)).trans ?_
    simp only [hchoice]
    rfl
  case cellArrival =>
    refine fun d k c rest => takes_of_effect (fun _ _ => rfl) fun t s ⟨harriving, hruns⟩ => ?_
    simp only [cellArrivalEffect, harriving]
    exact if_pos hruns
  case reseqTimeout =>
    refine fun d k h => takes_of_effect (fun _ _ => rfl) fun t s ⟨hplane, hdue, hlowest⟩ => (if_pos ⟨hplane, hdue⟩).trans ?_
    simp only [hlowest]
  case transmissionStart => exact fun p => takes_of_effect (fun _ _ => rfl) fun t s h => if_pos h
  case transmissionEnd =>
    refine fun p x => takes_of_effect (fun _ _ => rfl) fun t s ⟨hsending, hover, hruns⟩ => ?_
    simp only [transmissionEndEffect, hsending]
    exact (if_neg (Nat.not_lt.mpr hover)).trans (if_neg (ne_true_of_eq_false (congrArg not hruns)))
  case shaperRefill | samplePeriodEnd => exact takes_of_effect (fun _ _ => rfl) fun t s h => if_pos h
  case gateTakeover =>
    refine fun p d => takes_of_effect (fun _ _ => rfl) fun t s ⟨hpend, hset, hdue, hown⟩ => ?_
    simp only [gateTakeoverEffect, takeoverDue, hpend]
    exact if_pos ⟨hset, hdue, congrArg not hown⟩

/-! ### The Span -/

/-- Settles O37. -/
theorem spanEventsRun : Obligations.SpanEventsRun := by
  refine ⟨?probeTimeout, ?aloneProbe, ?aloneProbeEnd, ?linkTimeout, ?roundTimeout, ?claimDecides, ?claimMismatch, ?decideRole, ?syncComplete,
    ?heartbeatSent, ?heartbeatHeard, ?splitLoss, ?splitSilence, ?splitFour, ?splitFive, ?splitLeave, ?mirrorUpdate, ?relayToLeader,
    ?relayToFollower, ?remoteCell, ?reseqTimeout, ?timingExchange⟩
  case probeTimeout | linkTimeout =>
    exact takes_of_effect (fun _ _ => rfl) fun t s ⟨hstate, hdue⟩ =>
      if_pos ((Bool.and_eq_true _ _).mpr ⟨decide_eq_true hstate, decide_eq_true hdue⟩)
  case aloneProbe =>
    exact takes_of_effect (fun _ _ => rfl) fun t s ⟨hstate, hidle, hdue⟩ => if_pos ⟨hstate, congrArg not hidle, hdue⟩
  case aloneProbeEnd | roundTimeout => exact takes_of_effect (fun _ _ => rfl) fun t s h => if_pos h
  case claimDecides =>
    refine fun c => takes_of_effect (fun _ _ => rfl) fun t s ⟨hstate, hround, hmatch⟩ => ?_
    simp only [spanClaimEffect, hstate, hmatch]
    exact if_neg (not_not_intro hround)
  case claimMismatch =>
    refine fun c k v => takes_of_effect (fun _ _ => rfl) fun t s ⟨hstate, hclash⟩ => ?_
    obtain hlink | ⟨helect, hround⟩ := hstate
    · simp only [spanClaimEffect, hlink, hclash]
    · simp only [spanClaimEffect, helect, hclash]
      exact if_neg (not_not_intro hround)
  case decideRole => exact fun round serial => takes_of_effect (fun _ _ => rfl) fun t s h => if_pos h
  case syncComplete => exact fun off items hoff => takes_of_effect (fun _ _ => rfl) fun t s hstate => if_pos ⟨hstate, hoff⟩
  case heartbeatSent =>
    exact takes_of_effect (fun _ _ => rfl) fun t s hjoined =>
      (if_neg (ne_true_of_eq_false (congrArg not hjoined))).trans (if_pos rfl)
  case heartbeatHeard =>
    refine takes_of_effect (fun _ _ => rfl) fun t s ⟨hjoined, hheard⟩ => (if_neg (ne_true_of_eq_false (congrArg not hjoined))).trans ?_
    exact (if_neg (by decide)).trans (if_neg (ne_true_of_eq_false hheard))
  case splitLoss =>
    refine takes_of_effect (fun _ _ => rfl) fun t s ⟨hjoined, hlow⟩ => ?_
    simp only [spanSplitEffect, hjoined, hlow, Bool.false_eq_true, and_false, Bool.not_true, if_false, if_true]
    rfl
  case splitSilence =>
    refine takes_of_effect (fun _ _ => rfl) fun t s ⟨hjoined, hlost⟩ => ?_
    simp only [spanSplitEffect, hjoined, hlost, Bool.false_eq_true, and_false, Bool.not_true, if_false, if_true]
    rfl
  case splitFour | splitFive =>
    refine takes_of_effect (fun _ _ => rfl) fun t s (hjoined : spanJoined _ = true) => ?_
    simp only [spanSplitEffect, hjoined, Bool.false_eq_true, and_false, Bool.not_true, if_false]
    rfl
  case splitLeave =>
    refine takes_of_effect (fun _ _ => rfl) fun t s _ => ?_
    simp only [spanSplitEffect, and_self, if_true]
  case mirrorUpdate => exact fun kind payload => takes_of_effect (fun _ _ => rfl) fun t s h => if_pos h
  case relayToLeader => exact fun t s r hleads => congrArg Host.Outcome.next (if_pos hleads)
  case relayToFollower =>
    exact fun r => takes_of_effect (fun _ _ => rfl) fun t s ⟨hleads, hfollows⟩ =>
      (if_neg (ne_true_of_eq_false hleads)).trans (if_pos hfollows)
  case remoteCell => exact fun k d seq sop eop pkt => takes_of_effect (fun _ _ => rfl) fun t s h => if_pos h
  case reseqTimeout =>
    refine fun k d h => takes_of_effect (fun _ _ => rfl) fun t s ⟨hdue, hlowest⟩ => (if_pos hdue).trans ?_
    simp only [hlowest]
  case timingExchange =>
    exact fun off quality hoff => takes_of_effect (fun _ _ => rfl) fun t s hfollows => (if_pos hfollows).trans (if_pos hoff)

end Sys2Proof.Proofs.PacketEvents
end

section
/-! SUPPORT. Proofs, ServiceEvents: what happens in the DRAM, on the field pins, in the counters and at the debug port (chapters 15 and
17 to 19). -/

namespace Sys2Proof.Proofs.ServiceEvents
open Sys2Proof Sys2Proof.Machine Sys2Proof.Safety Sys2Proof.Laws Sys2Proof.Proofs.MailboxEvents

/-! ### The DRAM -/

/-- Settles O38. -/
theorem dramEventsRun : Obligations.DramEventsRun := by
  refine ⟨?refresh, ?tempRead, ?retrainSlice, ?retrainWaitExpiry, ?retrainRepeat, ?dramScrub, ?caAlert, ?alertNHigh, ?routeRepair,
    ?copyRebuild⟩
  case refresh =>
    exact fun c busy => takes_of_effect (fun _ _ => rfl) fun t s ⟨hpower, hruns, hdue⟩ => if_pos ⟨hpower, congrArg not hruns, hdue⟩
  case tempRead => exact fun temps => takes_of_effect (fun _ _ => rfl) fun _ _ _ => rfl
  case retrainSlice => exact fun c ns sweep => takes_of_effect (fun _ _ => rfl) fun t s h => if_pos h
  case retrainWaitExpiry | alertNHigh | copyRebuild => exact fun c => takes_of_effect (fun _ _ => rfl) fun t s h => if_pos h
  case retrainRepeat =>
    refine fun c a => takes_of_effect (fun _ _ => rfl) fun t s ⟨hrepeat, hdue⟩ => ?_
    simp only [retrainRepeatEffect, hrepeat]
    exact if_pos hdue
  case dramScrub =>
    refine fun c line status beats => takes_of_effect (fun _ _ => rfl) fun t s ⟨hstill, hruns⟩ => ?_
    simp only [dramScrubEffect, climbFault, hstill]
    exact if_pos hruns
  case caAlert =>
    refine fun c region => takes_of_effect (fun _ _ => rfl) fun t s ⟨hstill, hpower⟩ => ?_
    simp only [caAlertEffect, climbFault, hstill]
    exact (if_pos hpower).trans (if_neg fun h => Bool.false_ne_true h.1)
  case routeRepair =>
    refine fun c r clean => takes_of_effect (fun _ _ => rfl) fun t s ⟨hrepair, hplane, hruns⟩ => ?_
    simp only [routeRepairEffect, hrepair]
    exact if_pos ⟨hplane, congrArg not hruns⟩

/-! ### The field pins and the converter -/

theorem drives {pin : Nat} {u : State} (hruns : fieldRuns u = true) (hmode : (fioOf pin u).mode = 3) (hon : (fioOf pin u).on = true) :
    ¬ (!(fieldRuns u && decide ((fioOf pin u).mode = 3) && (fioOf pin u).on)) = true := by
  simp [hruns, hmode, hon]

/-- Settles O39. -/
theorem fieldEventsRun : Obligations.FieldEventsRun := by
  refine ⟨?inputChange, ?debounce, ?limitReached, ?limitLeft, ?overcurrentLatch, ?outputRetry, ?readbackConflict, ?conflictClear,
    ?pulseStart, ?pulseEnd, ?vinConversion, ?adcConversion, ?adcCapture, ?uart0Cts⟩
  case inputChange =>
    refine fun pin mv => takes_of_effect (fun _ _ => rfl) fun t s hruns => ?_
    unfold fioInputChangeEffect
    dsimp only
    rw [if_pos hruns]
  case debounce => exact fun pin => takes_of_effect (fun _ _ => rfl) fun t s h => if_pos h
  case limitReached =>
    refine fun pin => takes_of_effect (fun _ _ => rfl) fun t s ⟨hruns, hmode, hon⟩ => (if_neg (drives hruns hmode hon)).trans ?_
    refine (if_pos rfl).trans (congrArg (fun f => updFio pin f (advance t s)) (funext fun p => ?_))
    cases p.limitSince <;> rfl
  case limitLeft =>
    exact fun pin => takes_of_effect (fun _ _ => rfl) fun t s ⟨hruns, hmode, hon⟩ =>
      (if_neg (drives hruns hmode hon)).trans (if_neg Bool.false_ne_true)
  case overcurrentLatch | conflictClear => exact fun pin => takes_of_effect (fun _ _ => rfl) fun t s h => if_pos h
  case outputRetry =>
    exact fun pin => takes_of_effect (fun _ _ => rfl)
      fun t s ⟨hruns, hmode, hlatched, hretry, hoff, hcommanded, hdrive, hdue⟩ =>
        if_pos ⟨hruns, hmode, hlatched, hretry, congrArg not hoff, hcommanded, hdrive, hdue⟩
  case readbackConflict =>
    exact fun pin => takes_of_effect (fun _ _ => rfl) fun t s ⟨hruns, hfirst, hheld⟩ => if_pos ⟨hruns, congrArg not hfirst, hheld⟩
  case pulseStart =>
    refine fun pin x => takes_of_effect (fun _ _ => rfl) fun t s ⟨hpulse, hdue, hidle⟩ => ?_
    simp only [pulseStartEffect, hpulse]
    exact if_pos ⟨hdue, congrArg not hidle⟩
  case pulseEnd =>
    refine fun pin x => takes_of_effect (fun _ _ => rfl) fun t s ⟨hpulse, hdue, hactive⟩ => ?_
    simp only [pulseEndEffect, hpulse]
    exact if_pos ⟨hdue, hactive⟩
  case vinConversion => exact fun low high => takes_of_effect (fun _ _ => rfl) fun t s h => if_pos h
  case adcConversion =>
    exact fun c openTest code value hc => takes_of_effect (fun _ _ => rfl) fun t s ⟨hruns, henabled⟩ => if_pos ⟨hruns, hc, henabled⟩
  case adcCapture =>
    refine fun g => takes_of_effect (fun _ _ => rfl) fun t s ⟨hcapture, hdue⟩ => ?_
    simp only [adcCaptureEffect, hcapture]
    exact if_pos hdue
  case uart0Cts => exact fun b => takes_of_effect (fun _ _ => rfl) fun _ _ _ => rfl

/-! ### The counters -/

/-- Settles O40. -/
theorem counterEventsRun : Obligations.CounterEventsRun := by
  refine ⟨?scheduleFire, ?bwWindowEnd, ?monitorWindowEnd, ?perfSample, ?perfCarry⟩
  case scheduleFire =>
    refine fun x => takes_of_effect (fun _ _ => rfl) fun t s ⟨hsched, hdue, hpower⟩ => ?_
    simp only [snapshotScheduleFireEffect, hsched]
    exact (if_pos hdue).trans (if_pos hpower)
  case bwWindowEnd => exact takes_of_effect (fun _ _ => rfl) fun t s h => if_pos h
  case monitorWindowEnd => exact fun n => takes_of_effect (fun _ _ => rfl) fun t s h => if_pos h
  case perfSample | perfCarry =>
    refine fun w k task pc => takes_of_effect (fun _ _ => rfl) fun t s ⟨hup, hruns, hcounts, hmode⟩ => ?_
    refine (if_pos ⟨hup, congrArg not hruns, hcounts⟩).trans ?_
    simp only [hmode]

/-! ### The debug port -/

/-- An instruction that needs no debug access is loaded wherever the TAP has power. -/
theorem loadIr_public {ir : TapIr} {u : State} (hon : u.sup.mode ≠ .off) :
    loadIr false ir u = { u with dbg := { u.dbg with tap := ir } } :=
  (if_neg hon).trans (if_neg fun h => Bool.false_ne_true h.1)

/-- Settles O41. -/
theorem debugRowsRun : Obligations.DebugRowsRun := by
  refine ⟨?extest, ?clamp, ?highz, ?dbg, ?idcode, ?samplePreload, ?bypass, ?debugRead, ?debugWrite, ?halt, ?resume, ?step, ?reset, ?freeze,
    ?clearBroken, ?forcedHalt, ?accessExpiry⟩
  case extest | clamp | highz | dbg =>
    exact takes_of_effect (fun _ _ => rfl) fun t s ⟨hon, hopen⟩ =>
      (if_neg hon).trans (if_neg fun h => ne_true_of_eq_false (congrArg not hopen) h.2)
  case idcode =>
    refine takes_of_effect (fun _ _ => rfl) fun t s hon => ?_
    simp only [idcodeEffect, loadIr_public hon]
    exact if_neg hon
  case samplePreload =>
    refine fun lands data => takes_of_effect (fun _ _ => rfl) fun t s hon => ?_
    simp only [samplePreloadEffect, loadIr_public hon]
    exact if_neg hon
  case bypass =>
    refine fun op hown => takes_of_effect (fun _ _ => rfl) fun t s hon => ?_
    have hlisted : openOnlyOpcode op.toNat = false := (Bool.or_eq_false_iff.mp hown).1
    refine (if_neg fun h => ne_true_of_eq_false hlisted h.1).trans ?_
    exact (if_neg (ne_true_of_eq_false hown)).trans (loadIr_public hon)
  case debugRead =>
    exact fun space addr => takes_of_effect (fun _ _ => rfl) fun t s ⟨hopen, htap, hon, hallowed⟩ =>
      (if_pos ⟨hopen, htap, hon⟩).trans (if_pos hallowed)
  case debugWrite =>
    exact fun space addr data hspace => takes_of_effect (fun _ _ => rfl) fun t s ⟨hopen, htap, hon, hallowed⟩ =>
      (if_pos ⟨hopen, htap, hon⟩).trans ((if_neg (ne_true_of_eq_false (congrArg not hallowed))).trans (if_neg hspace))
  case halt => exact fun w seq left => takes_of_effect (fun _ _ => rfl) fun t s h => if_pos h
  case resume | step => exact fun w => takes_of_effect (fun _ _ => rfl) fun t s h => if_pos h
  case reset | freeze | clearBroken | accessExpiry => exact takes_of_effect (fun _ _ => rfl) fun t s h => if_pos h
  case forcedHalt =>
    refine fun w x since => takes_of_effect (fun _ _ => rfl) fun t s ⟨hpend, hover⟩ => ?_
    simp only [forcedHaltEffect, hpend]
    exact if_pos hover

end Sys2Proof.Proofs.ServiceEvents
end
